-- ==== Sys2Proof/Word.lean ====
section
/-! DEFINITION. The words the manual treats as bits: bytes of the host port, trunk words, samples. -/

namespace Sys2Proof

/-- A byte on the host port (chapter 8). -/
abbrev Byte := BitVec 8

/-- A trunk word of 32 bits (10.7). -/
abbrev Word := BitVec 32

/-- A sample, or the payload of a trunk word, of 24 bits (R40, 10.7). -/
abbrev Sample := BitVec 24

end Sys2Proof
end

