-- ==== Sys2Proof/Syntax.lean ====
section
/-! DEFINITION. The commands: one constructor for each row of spec/opcode_table.json.
The table gives its rows no fields. A request row is the TAKE of the oldest frame of the intake buffer (R150), so its
parameters are that frame's payload (10.4) and the constructor has none. An event row has the operands that the world
outside decides: pin levels, received bytes, words on the trunk line, and which pair, slot or station is meant.
`line` of a down slot: none when the word reads back as it was sent, else the word read back (R14).
`line` of an up slot: none when no station drives the slot, else the word received (R16). -/

namespace Sys2Proof

inductive Instr where
  /-- R162: RSTN is released; the levels of BDS1 and BDS0 sampled while it was low. -/
  | powerOn (bds1 bds0 : Bool)
  /-- R162: RSTN goes low. -/
  | rstnLow
  /-- R146: bytes arrive, each in time and with a good stop bit, and complete a candidate frame (log entry 13). -/
  | receiveFrame (bytes : List Byte)
  /-- R147: the gap after the last byte exceeds 32 byte-times. -/
  | gapLimitExpiry
  /-- R176: the intake takes a frame whose kind is no request kind. -/
  | badKindFrame
  /-- R156 -/
  | hello
  /-- R157 -/
  | status
  /-- R173 -/
  | grant
  /-- R158 -/
  | cancel
  /-- R159 -/
  | restart
  /-- R6, R7 -/
  | trunkSetup
  /-- R8 -/
  | trunkStart
  /-- R10 -/
  | trunkStop
  /-- R71 -/
  | enroll
  /-- R77 -/
  | drop
  /-- R78 -/
  | drowse
  /-- R80 -/
  | wake
  /-- R105 -/
  | trim
  /-- R85 -/
  | policy
  /-- R123 -/
  | call
  /-- R140 -/
  | clearFault
  /-- R87 -/
  | stationInfo
  /-- R24 -/
  | openStream
  /-- R27 -/
  | closeStream
  /-- R31 -/
  | commit
  /-- R30 -/
  | discard
  /-- R39 -/
  | planInfo
  /-- R50 -/
  | write
  /-- R62 -/
  | streamInfo
  /-- R155: the transmitter starts the oldest reply. -/
  | replyStart
  /-- R168: the transmitter starts the notice at the head of the queue. -/
  | noticeStart
  /-- R153: the last byte of the message being sent leaves the port. -/
  | messageEnd
  /-- R161 -/
  | resetPoint
  /-- R4 -/
  | frameStart
  /-- R4 -/
  | frameEnd
  /-- R9: the frame end at which the STARTING countdown reaches 0. -/
  | startingEnd
  /-- R11: the frame end in STOPPING. -/
  | trunkStopComplete
  /-- R3: the end of frame FFFFFFFFFFFFh in STARTING or RUNNING. -/
  | frameNumberExhausted
  /-- R34: the frame start at which the pending commit applies. -/
  | planSwap
  /-- R90: the frame start at which the station's countdown reaches 0. -/
  | trimDue (address : Nat)
  /-- R103: the frame start at which the station's quiet span ends. -/
  | quietSpanEnd (address : Nat)
  /-- R81: the frame end at which the station's wake countdown reaches 0. -/
  | wakeLatencyEnd (address : Nat)
  /-- R119: the silent up slot at which the frames left of the pair's attempt reach 0. -/
  | responseWindowExpiry (pair : Nat)
  /-- R13 -/
  | beaconSlot (line : Option Word)
  /-- R98 -/
  | serviceDownSlot (pair : Nat) (line : Option Word)
  /-- R18 -/
  | serviceUpSlot (pair : Nat) (line : Option Word)
  /-- R116 -/
  | commandDownSlot (pair : Nat) (line : Option Word)
  /-- R18 -/
  | commandUpSlot (pair : Nat) (line : Option Word)
  /-- R52 -/
  | streamDownSlot (slot : Nat) (line : Option Word)
  /-- R17 -/
  | streamUpSlot (slot : Nat) (line : Option Word)
  /-- R19 -/
  | unexpectedWordSlot (slot : Nat) (word : Word)
  /-- R145: a C3h byte arrives. -/
  | syncByteReceived
  /-- R145: a length byte out of 3 to 203 arrives. -/
  | badLengthByte (byte : Byte)
  /-- R147: a byte arrives with its stop bit not high. -/
  | framingErrorByte (byte : Byte)
deriving DecidableEq, Repr

end Sys2Proof
end

