-- ==== Sys2Proof/Decode.lean ====
section
/-! DEFINITION. The table gives no row any bits (spec/98_reader.md: n_rows_with_fixed is 0), so no word spells a command. -/

namespace Sys2Proof

/-- No row of spec/opcode_table.json has bits: no word is a command. -/
def decodeTableWord (_nbits _w : Nat) : Option Instr := none

end Sys2Proof
end

