-- ==== Sys2Proof/Config.lean ====
section
/-! DEFINITION. The fixed numbers of the AC-3215 (0.7). The spec leaves no result undefined, so there is no free value here. -/

namespace Sys2Proof.Config

/-- The greatest frame number, FFFFFFFFFFFFh (R3). -/
abbrev lastFrame : Nat := 2 ^ 48 - 1
/-- Slots of a frame (R1). -/
abbrev slots : Nat := 32
/-- Beacon-only frames of a start (R8). -/
abbrev startFrames : Nat := 16
/-- Greatest lead of a COMMIT over the reference frame (R31). -/
abbrev commitLead : Nat := 1048576
/-- Stream ids (R24). -/
abbrev streamIds : Nat := 24
/-- Blocks of the buffer pool and words of a block (R41, R42). -/
abbrev poolBlocks : Nat := 64
abbrev blockWords : Nat := 16
/-- Words of one WRITE or DATA notice (R50, R60). -/
abbrev transferWords : Nat := 64
/-- The greatest trim balance; the least is its negative (R88). -/
abbrev balanceLimit : Int := 8
/-- Refusals that end a host TRIM (R107). -/
abbrev refusalLimit : Nat := 8
/-- Attempts of an exchange and WAITs it may use (R118, R121). -/
abbrev attempts : Nat := 3
abbrev waits : Nat := 4
/-- The command queue (R111, R123). -/
abbrev commandQueue : Nat := 16
/-- The outstanding table (R151, R153). -/
abbrev table : Nat := 8
/-- The intake buffer (R146, R150). -/
abbrev intake : Nat := 4
/-- Immediate replies that close the intake (R150). -/
abbrev immediateReplies : Nat := 4
/-- The notice queue (R163, R165) and the credits at reset and at most (R164, R173). -/
abbrev noticeQueue : Nat := 32
abbrev resetCredits : Nat := 8
abbrev maxCredits : Nat := 255
/-- Where the counts of a byte and of two bytes saturate (R149, R171; R40, R131). -/
abbrev byteCount : Nat := 255
abbrev wordCount : Nat := 65535
/-- The sync byte of a host frame (R145). -/
abbrev syncByte : Byte := 0xC3#8
/-- Least and greatest length byte (R145). -/
abbrev minLength : Nat := 3
abbrev maxLength : Nat := 203

end Sys2Proof.Config
end

