-- ==== Sys2Proof/Machine/Blocks.lean ====
section
/-! DEFINITION. The plain data of each block of the AC-3215 (0.3): records, queues, messages, modes. -/

namespace Sys2Proof.Machine

/-! ## Frame Engine (01_trunk_frame_and_slots.md) -/

/-- R2 -/
inductive TrunkState where
  | stopped | starting | running | stopping
deriving DecidableEq, Repr

/-- R6, R135 -/
inductive FaultMode where
  | strict | lenient
deriving DecidableEq, Repr

/-- The five values of TRUNK SETUP in force (R6, R7). -/
structure Setup where
  service : Nat
  command : Nat
  window : Nat
  missLimit : Nat
  mode : FaultMode
deriving DecidableEq, Repr

/-- A frame in progress (R4): whether it started in RUNNING, the slot that comes next, and the wake address fixed at
its start (R13). -/
structure Frame where
  full : Bool
  nextSlot : Nat
  wakeAddress : Nat
deriving DecidableEq, Repr

structure FrameEngine where
  trunk : TrunkState
  /-- R3 -/
  frameNumber : Nat
  /-- R8, R9: beacon-only frames still to end -/
  countdown : Nat
  setup : Setup
  frame : Option Frame
  /-- the word driven on the trunk line in the slot last served (R14), none when the line is not driven -/
  line : Option Word
deriving DecidableEq, Repr

/-! ## Plan Store (02_slot_plan.md) -/

/-- The role of a slot (R20); a pair's role carries the number of its pair (R1), a STREAM slot the id that owns it. -/
inductive Role where
  | free
  | beacon
  | serviceDown (pair : Nat)
  | serviceUp (pair : Nat)
  | commandDown (pair : Nat)
  | commandUp (pair : Nat)
  | stream (id : Nat)
deriving DecidableEq, Repr

/-- R20; the stream set is kept in ascending order of id -/
structure Plan where
  slots : Vector Role 32
  streams : List Nat
  generation : BitVec 16
deriving DecidableEq, Repr

/-- R20, R32 -/
structure PendingCommit where
  target : Nat
  tag : Byte
deriving DecidableEq, Repr

structure PlanStore where
  active : Plan
  staged : Plan
  commit : Option PendingCommit
deriving DecidableEq, Repr

/-! ## Stream Unit and Buffer Pool (03_streams_and_the_buffer_pool.md) -/

inductive Direction where
  | down | up
deriving DecidableEq, Repr

/-- R40 -/
inductive StreamState where
  | staged | live | held
deriving DecidableEq, Repr

/-- A stream record (R40). Its id is its place in `StreamUnit.records`. -/
structure Stream where
  station : Nat
  direction : Direction
  slotList : List Nat
  capacity : Nat
  watermark : Nat
  blocks : Nat
  buffer : List Sample
  state : StreamState
  closing : Bool
  underruns : Nat
  overruns : Nat
  gaps : Nat
  underrunRun : Bool
  gapRun : Bool
  overrunRun : Bool
deriving DecidableEq, Repr

/-- The record of stream id i stands at place i - 1 (R40); the pool is a count (R42). -/
structure StreamUnit where
  records : Vector (Option Stream) 24
  freeBlocks : Nat
deriving DecidableEq, Repr

/-! ## Station Manager (04_station_lifecycle.md) -/

/-- R64 -/
inductive StationState where
  | absent | joining | active | trimming | drowsy | waking | faulted
deriving DecidableEq, Repr

/-- The reason a STATION notice carries (4.1, 10.3) -/
inductive Reason where
  | enroll | enrolled | enrollFailed | cancelled | trim | trimEnd | drowse | wake | woken | wakeFailed | misses | breach
  | dropped | stopped
deriving DecidableEq, Repr

/-- The pending operation of a station (R64) -/
inductive Operation where
  | enroll | drowse | wake
deriving DecidableEq, Repr

/-- R64, R72 -/
inductive EnrollStep where
  | join | identity | interval | quiet | latency
deriving DecidableEq, Repr

/-- The pair that holds an exchange with a station (R64, R69) -/
inductive PairRef where
  | service (pair : Nat)
  | command (pair : Nat)
deriving DecidableEq, Repr

/-- A station record (R64); the values given here are those of R65. -/
structure Station where
  state : StationState := .absent
  identity : Option Nat := none
  interval : Option Nat := none
  quiet : Option Nat := none
  latency : Option Nat := none
  depth : Nat := 2
  misses : Nat := 0
  exchange : Option PairRef := none
  operation : Option (Operation × Byte) := none
  step : Option EnrollStep := none
  wakeCountdown : Option Nat := none
  hostTrim : Bool := false
  refusals : Nat := 0
deriving DecidableEq, Repr

/-- The record of address a stands at place a - 1 (R64); the wake queue is oldest first (R80). -/
structure StationManager where
  table : Vector Station 15
  wakeQueue : List Nat
deriving DecidableEq, Repr

/-! ## Trim Scheduler (05_trim_obligations.md) -/

/-- R88, with the values it gives for power-on -/
structure TrimAccount where
  balance : Int := 0
  countdown : Nat := 0
  quietEnd : Option Nat := none
  ackPair : Option Nat := none
deriving DecidableEq, Repr

/-- The account of address a stands at place a - 1; `pairs` holds, for service pair k at place k - 1, the station of
the trim exchange the pair holds (R97, R98). -/
structure TrimScheduler where
  accounts : Vector TrimAccount 15
  pairs : Vector (Option Nat) 4
deriving DecidableEq, Repr

/-! ## Call Unit (06_station_calls.md) -/

/-- The orders of the trunk (R111, 10.3) -/
inductive Order where
  | join | get | put | drowse | probe | trim
deriving DecidableEq, Repr

/-- R111 -/
inductive OwnerKind where
  | call | enroll | drowse | wake
deriving DecidableEq, Repr

/-- An entry of the command queue (R111) -/
structure Entry where
  tag : Byte
  owner : OwnerKind
  station : Nat
  order : Order
  attr : Nat
  value : Nat
deriving DecidableEq, Repr

/-- An exchange in a command pair (R113): the granted entry and the course of its attempts -/
structure Exchange where
  entry : Entry
  attempt : Nat
  waits : Nat
  framesLeft : Nat
  sendDue : Bool
deriving DecidableEq, Repr

structure CallUnit where
  queue : List Entry
  pairs : Vector (Option Exchange) 4
deriving DecidableEq, Repr

/-! ## Fault Recorder (07_fault_records.md) -/

/-- R131 -/
inductive FaultKind where
  | check | foreign | noReply
deriving DecidableEq, Repr

/-- R131 -/
structure FaultRecord where
  kind : FaultKind
  frame : Nat
  slot : Nat
  raw : Option Word
deriving DecidableEq, Repr

/-- What the Fault Recorder holds for one address (R131) -/
structure FaultCell where
  record : Option FaultRecord := none
  count : Nat := 0
deriving DecidableEq, Repr

structure FaultRecorder where
  cells : Vector FaultCell 16
deriving DecidableEq, Repr

/-! ## Notice Queue (09_notices.md) -/

/-- R174 -/
inductive StartReason where
  | power | restart
deriving DecidableEq, Repr

/-- R58 -/
inductive StreamFaultCause where
  | underrun | overrun | gap
deriving DecidableEq, Repr

/-- An entry of the notice queue (R163): the content of a full record is fixed at its offer (R165), a marker has none. -/
inductive Notice where
  | start (reason : StartReason) (baud : BitVec 2)
  | station (address : Nat) (old new : StationState) (reason : Reason) (frame : Nat)
  | fault (address : Nat) (record : FaultRecord)
  | streamFault (id : Nat) (cause : StreamFaultCause) (frame slot count : Nat)
  | streamClosed (id station : Nat) (direction : Direction) (words frame underruns overruns gaps : Nat)
  | data (id : Nat)
  | space (id : Nat)
deriving DecidableEq, Repr

structure NoticeQueue where
  entries : List Notice
  credits : Nat
  nextSequence : Byte
  dropped : Nat
  /-- R163, R166: place i - 1 tells whether a marker of stream i is in the queue -/
  markers : Vector Bool 24
deriving DecidableEq, Repr

/-! ## Host Port (08_host_port_and_requests.md) -/

/-- The request kinds (10.2) -/
inductive ReqKind where
  | hello | status | grant | cancel | restart | trunkSetup | trunkStart | trunkStop | enroll | drop | drowse | wake
  | trim | policy | call | clearFault | stationInfo | openStream | closeStream | commit | discard | planInfo | write
  | streamInfo
deriving DecidableEq, Repr

/-- The status codes of replies (10.3) -/
inductive Status where
  | ok | badKind | badLength | badParam | tagInUse | tableFull | queueFull | state | noSlots | noMemory | noStreamId
  | planPending | planNotEmpty | tooLate | tooFar | aheadLimit | inProgress | notFound | noReply | stall | refused
  | unknownAttr | badStation | dropped | faulted | aborted | cancelled | faultHeld
deriving DecidableEq, Repr

/-- A byte the receiver keeps, with its records (R147) -/
structure RxByte where
  byte : Byte
  gapBefore : Bool
  framingError : Bool
deriving DecidableEq, Repr

/-- R145: `kept` holds the candidate from its sync byte on, and is empty while HUNTING. `gapPassed` tells whether the
line has been idle past the limit since the last byte (R147, R148; false at reset, log entry 12). -/
structure Receiver where
  kept : List RxByte
  gapPassed : Bool
deriving DecidableEq, Repr

/-- A good frame of the intake buffer (R145, R150, 10.1) -/
structure ReqFrame where
  kind : Byte
  tag : Byte
  flags : Byte
  payload : List Byte
deriving DecidableEq, Repr

/-- R153 -/
inductive Phase where
  | queued | inFlight | awaitingFrame
deriving DecidableEq, Repr

/-- The request data of a CALL: operation, attribute, value (R153) -/
structure CallData where
  order : Order
  attr : Nat
  value : Nat
deriving DecidableEq, Repr

/-- An entry of the outstanding table (R153) -/
structure Outstanding where
  tag : Byte
  kind : ReqKind
  target : Option Nat
  phase : Phase
  replied : Bool
  data : Option CallData
deriving DecidableEq, Repr

/-- The items of a STATUS reply (R157) -/
structure StatusReport where
  trunk : TrunkState
  frameNumber : Nat
  generation : BitVec 16
  pendingCommit : Bool
  mode : FaultMode
  freeBlocks : Nat
  credits : Nat
  intake : Nat
  table : Nat
  replies : Nat
  commandQueue : Nat
  wakeQueue : Nat
  notices : Nat
  droppedNotices : Nat
  discardedFrames : Nat
deriving DecidableEq, Repr

/-- The station items of a STATION INFO reply (R87); `wakePosition` is 0 when the station is not in the wake queue. -/
structure StationReport where
  station : Station
  account : TrimAccount
  exchangeOrder : Option Order
  wakePosition : Nat
  queuedCalls : Nat
deriving DecidableEq, Repr

/-- The items of a PLAN INFO reply (R39); each stream with its id, ascending. -/
structure PlanReport where
  isStaged : Bool
  plan : Plan
  service : Nat
  command : Nat
  commit : Option PendingCommit
  streams : List (Nat × Stream)
deriving DecidableEq, Repr

/-- R27 -/
inductive CloseOutcome where
  | removed | closing
deriving DecidableEq, Repr

/-- What a reply carries beside its status (R178, 10.5); `short` is the short form and the row "status only". -/
inductive ReplyBody where
  | short
  | badKind (kind : Byte)
  | hello (baud : BitVec 2)
  | status (report : StatusReport)
  | grant (credits : Nat)
  | cancel (target : Byte)
  | setup (setup : Setup)
  | enroll (address identity interval quiet latency : Nat)
  | drop (address : Nat) (old : StationState)
  | address (address : Nat)
  | trim (address frame pair : Nat) (balance : Int)
  | policy (address depth : Nat)
  | call (address operation attr echo value : Nat)
  | clearFault (address : Nat) (cell : FaultCell)
  | stationInfo (address : Nat) (report : Option StationReport) (cell : FaultCell)
  | openStream (id : Nat) (slotList : List Nat)
  | closeStream (id : Nat) (outcome : CloseOutcome) (words : Nat)
  | commit (target : Nat) (generation : BitVec 16)
  | discard (removed withdrawn : Nat)
  | planInfo (report : PlanReport)
  | write (id accepted free : Nat)
  | streamInfo (id : Nat) (stream : Stream)
deriving DecidableEq, Repr

/-- A reply waiting to be sent (R154); `deferred` tells whether its request is in the outstanding table. -/
structure Reply where
  kind : Byte
  tag : Byte
  status : Status
  body : ReplyBody
  deferred : Bool
deriving DecidableEq, Repr

/-- R155: idle, or the message being sent, all its bytes from the sync byte to the second CRC byte -/
inductive Transmitter where
  | idle
  | reply (message : List Byte)
  | notice (message : List Byte)
deriving DecidableEq, Repr

structure HostPort where
  /-- the RSTN pin is low (R162) -/
  rstnLow : Bool
  /-- the baud code of the straps, BDS1 the high bit (R162, 10.3) -/
  baud : BitVec 2
  receiver : Receiver
  /-- the discarded-frame count (R149) -/
  discarded : Nat
  intake : List ReqFrame
  table : List Outstanding
  replies : List Reply
  transmitter : Transmitter
  /-- a full restart is in progress (R150, R160) -/
  restarting : Bool
deriving DecidableEq, Repr

end Sys2Proof.Machine
end

