-- ==== Sys2Proof/Machine/Flags.lean ====
section
/-! DEFINITION. Counts that saturate, and the tests that decide run flags and markers of a stream. -/

namespace Sys2Proof.Machine

/-- A count rises by one and stops at its greatest value (0.6). -/
def satSucc (limit n : Nat) : Nat := if n < limit then n + 1 else limit

/-- The level of a stream: the words in its buffer (R40). -/
def Stream.level (st : Stream) : Nat := st.buffer.length

/-- The free space of a stream: capacity less level (R40). -/
def Stream.space (st : Stream) : Nat := st.capacity - st.level

/-- The SPACE test (R55). -/
def Stream.spaceDue (st : Stream) : Bool := st.watermark ≤ st.space

/-- The DATA test after an append or an overrun (R59). -/
def Stream.dataDue (st : Stream) : Bool := st.watermark ≤ st.level

/-- The DATA test for an UP stream that stops receiving: held or marked closing with at least one word (R59). -/
def Stream.restDue (st : Stream) : Bool := st.direction == .up && 1 ≤ st.level

/-- The DATA test for the level a DATA marker left behind (R59). -/
def Stream.leftDue (st : Stream) : Bool :=
  st.watermark ≤ st.level || (1 ≤ st.level && (st.state == .held || st.closing))

/-- A stream that becomes LIVE has its run flags cleared (R46, R47). -/
def Stream.enliven (st : Stream) : Stream :=
  { st with state := .live, underrunRun := false, gapRun := false, overrunRun := false }

/-- Whether the stream is of the active plan (R40: LIVE or HELD). -/
def Stream.inActive (st : Stream) : Bool := st.state != .staged

end Sys2Proof.Machine
end

