-- ==== Sys2Proof/Machine/Operands.lean ====
section
/-! DEFINITION. Operands: bytes and numbers, the CRC, the parameters of a request's payload (10.4), and the trunk word
with its kinds, parity and classification (10.7, R16, R180). -/

namespace Sys2Proof.Machine

/-! ## Bytes -/

/-- The k bytes of a number, most significant first (chapter 10). -/
def bigEndian : Nat → Nat → List Byte
  | 0, _ => []
  | k + 1, n => bigEndian k (n / 256) ++ [BitVec.ofNat 8 n]

/-- The unsigned number of bytes, most significant first (chapter 10, R177). -/
def number (bytes : List Byte) : Nat := bytes.foldl (fun n b => n * 256 + b.toNat) 0

/-- One bit of the CRC-16 division by x^16+x^12+x^5+1 (R146). -/
def crcBit (crc : BitVec 16) : BitVec 16 :=
  if crc.msb then (crc <<< 1) ^^^ 0x1021#16 else crc <<< 1

/-- One byte, most significant bit first (R146). -/
def crcByte (crc : BitVec 16) (b : Byte) : BitVec 16 :=
  crcBit (crcBit (crcBit (crcBit (crcBit (crcBit (crcBit (crcBit (crc ^^^ (b.setWidth 16 <<< 8)))))))))

/-- The CRC-16 of the port: initial value FFFFh, no final inversion (R146). -/
def crc16 (bytes : List Byte) : BitVec 16 := bytes.foldl crcByte 0xFFFF#16

/-- The two CRC bytes, the most significant first (R146, R175). -/
def crcBytes (bytes : List Byte) : List Byte := bigEndian 2 (crc16 bytes).toNat

/-! ## Request frames -/

/-- The parameter of one byte at an offset of the payload (10.4, R177); a byte the request did not carry reads as 0
(R178). -/
def ReqFrame.param (f : ReqFrame) (offset : Nat) : Nat := (f.payload.getD offset 0).toNat

/-- The two-byte parameter at an offset of the payload (10.4, R177). -/
def ReqFrame.param16 (f : ReqFrame) (offset : Nat) : Nat := f.param offset * 256 + f.param (offset + 1)

/-- The samples of a WRITE, 3 bytes each from offset 1 on (10.4); `bytes` are those that follow the stream id. -/
def samplesOf : List Byte → List Sample
  | a :: b :: c :: rest => (a ++ b ++ c) :: samplesOf rest
  | _ => []

/-- The kind byte of a request (10.2). -/
def ReqKind.code : ReqKind → Byte
  | .hello => 0x01#8
  | .status => 0x02#8
  | .grant => 0x03#8
  | .cancel => 0x04#8
  | .restart => 0x05#8
  | .trunkSetup => 0x08#8
  | .trunkStart => 0x09#8
  | .trunkStop => 0x0A#8
  | .enroll => 0x10#8
  | .drop => 0x11#8
  | .drowse => 0x12#8
  | .wake => 0x13#8
  | .trim => 0x14#8
  | .policy => 0x15#8
  | .call => 0x16#8
  | .clearFault => 0x17#8
  | .stationInfo => 0x18#8
  | .openStream => 0x20#8
  | .closeStream => 0x21#8
  | .commit => 0x22#8
  | .discard => 0x23#8
  | .planInfo => 0x24#8
  | .write => 0x28#8
  | .streamInfo => 0x29#8

/-- The request kinds of the AC-3215 (10.2). -/
def ReqKind.all : List ReqKind :=
  [.hello, .status, .grant, .cancel, .restart, .trunkSetup, .trunkStart, .trunkStop, .enroll, .drop, .drowse, .wake,
   .trim, .policy, .call, .clearFault, .stationInfo, .openStream, .closeStream, .commit, .discard, .planInfo, .write,
   .streamInfo]

/-- The kind test of R151 and R176: whether a byte is the kind of a request. -/
def isRequestKind (b : Byte) : Bool := ReqKind.all.any (fun k => k.code == b)

/-- The kind byte of a reply: the request's kind plus 40h (10.1, R151). -/
def ReqKind.replyCode (k : ReqKind) : Byte := k.code + 0x40#8

/-- The payload lengths a kind allows (10.2, R176). -/
def ReqKind.allowsLength : ReqKind → Nat → Bool
  | .hello, n | .status, n | .restart, n | .trunkStart, n | .trunkStop, n | .discard, n => n == 0
  | .grant, n | .cancel, n | .enroll, n | .drop, n | .drowse, n | .wake, n | .trim, n | .clearFault, n
  | .stationInfo, n | .closeStream, n | .planInfo, n => n == 1
  | .policy, n | .streamInfo, n => n == 2
  | .trunkSetup, n | .call, n => n == 5
  | .openStream, n => n == 7
  | .commit, n => n == 0 || n == 6
  | .write, n => 4 ≤ n && n ≤ 193 && n % 3 == 1

/-- The deferred kinds (R152). -/
def ReqKind.isDeferred : ReqKind → Bool
  | .trunkStart | .trunkStop | .enroll | .drowse | .wake | .trim | .call | .commit => true
  | .hello | .status | .grant | .cancel | .restart | .trunkSetup | .drop | .policy | .clearFault | .stationInfo
  | .openStream | .closeStream | .discard | .planInfo | .write | .streamInfo => false

/-! ## Trunk words (10.7) -/

/-- Kind codes of trunk words (10.7). -/
abbrev kindBeacon : BitVec 3 := 1
abbrev kindData : BitVec 3 := 2
abbrev kindFill : BitVec 3 := 3
abbrev kindOrder : BitVec 3 := 4
abbrev kindReply : BitVec 3 := 5
abbrev kindWait : BitVec 3 := 6

/-- Whether a word holds an odd number of ones (R16). -/
def oddParity (w : Word) : Bool :=
  let a := w ^^^ (w >>> 16)
  let b := a ^^^ (a >>> 8)
  let c := b ^^^ (b >>> 4)
  let d := c ^^^ (c >>> 2)
  (d ^^^ (d >>> 1)).getLsbD 0

/-- Bits 31-29, 28-25 and 24-1 of a trunk word (10.7). -/
def wordKind (w : Word) : BitVec 3 := w.extractLsb' 29 3
def wordAddress (w : Word) : Nat := (w.extractLsb' 25 4).toNat
def wordPayload (w : Word) : Sample := w.extractLsb' 1 24

/-- The fields of an ORDER's or a REPLY's payload: bits 23-20, 19-12 and 11-0 (10.7). -/
def payloadHigh (p : Sample) : Nat := (p.extractLsb' 20 4).toNat
def payloadAttr (p : Sample) : Nat := (p.extractLsb' 12 8).toNat
def payloadValue (p : Sample) : Nat := (p.extractLsb' 0 12).toNat

/-- A trunk word of a kind, an address and a payload, its check bit making the parity even (R180). -/
def makeWord (kind : BitVec 3) (address : Nat) (payload : Sample) : Word :=
  let w : Word := kind ++ BitVec.ofNat 4 address ++ payload ++ 0#1
  if oddParity w then w ||| 1#32 else w

/-- The order codes (10.3). -/
def Order.code : Order → Nat
  | .join => 1
  | .get => 2
  | .put => 3
  | .drowse => 4
  | .probe => 5
  | .trim => 6

/-- The ORDER word of an order, an attribute and a value for a station (10.7, R180). -/
def orderWord (address : Nat) (order : Order) (attr value : Nat) : Word :=
  makeWord kindOrder address (BitVec.ofNat 4 order.code ++ BitVec.ofNat 8 attr ++ BitVec.ofNat 12 value)

/-- FILL has a payload of 0 (R14, R180). -/
def fillWord (address : Nat) : Word := makeWord kindFill address 0

/-- DATA carries a sample (10.7). -/
def dataWord (address : Nat) (sample : Sample) : Word := makeWord kindData address sample

/-- The beacon: low 16 bits of the frame number, the wake address, low 4 bits of the generation, address 0 (R13). -/
def beaconWord (frameNumber wakeAddress : Nat) (generation : BitVec 16) : Word :=
  makeWord kindBeacon 0 (BitVec.ofNat 16 frameNumber ++ BitVec.ofNat 4 wakeAddress ++ generation.setWidth 4)

/-! ## Classification (R16) -/

/-- What a VALID word says: a REPLY with its status, echo and value, a WAIT, or a DATA sample (R16, R117, R118). -/
inductive Answer where
  | done (echo value : Nat)
  | refused (echo value : Nat)
  | unknownAttr
  | wait
  | sample (word : Sample)
deriving DecidableEq, Repr

/-- The class of an up slot's event (R16); CHECK and FOREIGN carry the raw word. -/
inductive UpClass where
  | silent
  | check (raw : Word)
  | foreign (raw : Word)
  | valid (answer : Answer)
deriving DecidableEq, Repr

/-- What an up slot accepts (R15). -/
inductive Accepts where
  | data | reply | replyOrWait
deriving DecidableEq, Repr

/-- The kind test of R16 and R180, on a word of even parity and the right address. -/
def answerOf (accepts : Accepts) (w : Word) : Option Answer :=
  let p := wordPayload w
  match accepts with
  | .data => if wordKind w = kindData then some (.sample p) else none
  | .reply => replyOf p
  | .replyOrWait => if wordKind w = kindWait then some .wait else replyOf p
where
  /-- A REPLY's status is 1 DONE, 2 REFUSED or 3 UNKNOWN_ATTR, else the word is FOREIGN (R16, 10.7). -/
  replyOf (p : Sample) : Option Answer :=
    if wordKind w = kindReply then
      if payloadHigh p = 1 then some (.done (payloadAttr p) (payloadValue p))
      else if payloadHigh p = 2 then some (.refused (payloadAttr p) (payloadValue p))
      else if payloadHigh p = 3 then some .unknownAttr
      else none
    else none

/-- The four tests of R16 in their order, for an up slot that expects a word from a station. -/
def classify (station : Nat) (accepts : Accepts) : Option Word → UpClass
  | none => .silent
  | some w =>
    if oddParity w then .check w
    else if wordAddress w ≠ station then .foreign w
    else match answerOf accepts w with
      | some a => .valid a
      | none => .foreign w

end Sys2Proof.Machine
end

