-- ==== Sys2Proof/Machine/Layout.lean ====
section
/-! DEFINITION. The layouts the host sees (chapter 10): codes, reply and notice payloads, and the host frame. -/

namespace Sys2Proof.Machine

/-! ## Codes (10.3) -/

def Status.code : Status → Nat
  | .ok => 0x00
  | .badKind => 0x01
  | .badLength => 0x02
  | .badParam => 0x03
  | .tagInUse => 0x04
  | .tableFull => 0x05
  | .queueFull => 0x06
  | .state => 0x07
  | .noSlots => 0x08
  | .noMemory => 0x09
  | .noStreamId => 0x0A
  | .planPending => 0x0B
  | .planNotEmpty => 0x0C
  | .tooLate => 0x0D
  | .tooFar => 0x0E
  | .aheadLimit => 0x0F
  | .inProgress => 0x10
  | .notFound => 0x11
  | .noReply => 0x12
  | .stall => 0x13
  | .refused => 0x14
  | .unknownAttr => 0x15
  | .badStation => 0x16
  | .dropped => 0x17
  | .faulted => 0x18
  | .aborted => 0x19
  | .cancelled => 0x1A
  | .faultHeld => 0x1B

def TrunkState.code : TrunkState → Nat
  | .stopped => 0
  | .starting => 1
  | .running => 2
  | .stopping => 3

def FaultMode.code : FaultMode → Nat
  | .strict => 0
  | .lenient => 1

def StationState.code : StationState → Nat
  | .absent => 0
  | .joining => 1
  | .active => 2
  | .trimming => 3
  | .drowsy => 4
  | .waking => 5
  | .faulted => 6

def Reason.code : Reason → Nat
  | .enroll => 1
  | .enrolled => 2
  | .enrollFailed => 3
  | .cancelled => 4
  | .trim => 5
  | .trimEnd => 6
  | .drowse => 7
  | .wake => 8
  | .woken => 9
  | .wakeFailed => 10
  | .misses => 11
  | .breach => 12
  | .dropped => 13
  | .stopped => 14

def Direction.code : Direction → Nat
  | .down => 0
  | .up => 1

def StreamState.code : StreamState → Nat
  | .staged => 0
  | .live => 1
  | .held => 2

def FaultKind.code : FaultKind → Nat
  | .check => 1
  | .foreign => 2
  | .noReply => 3

def StreamFaultCause.code : StreamFaultCause → Nat
  | .underrun => 1
  | .overrun => 2
  | .gap => 3

def CloseOutcome.code : CloseOutcome → Nat
  | .removed => 1
  | .closing => 2

def Operation.code : Operation → Nat
  | .enroll => 1
  | .drowse => 2
  | .wake => 3

def EnrollStep.code : EnrollStep → Nat
  | .join => 1
  | .identity => 2
  | .interval => 3
  | .quiet => 4
  | .latency => 5

def PairRef.code : PairRef → Nat
  | .service k => k
  | .command j => 0x10 + j

def StartReason.code : StartReason → Nat
  | .power => 1
  | .restart => 2

def Role.code : Role → Nat
  | .free => 0
  | .beacon => 1
  | .serviceDown _ => 2
  | .serviceUp _ => 3
  | .commandDown _ => 4
  | .commandUp _ => 5
  | .stream _ => 6

/-! ## Reply payloads (10.5, R178) -/

/-- One byte of a payload. -/
def byte (n : Nat) : List Byte := [BitVec.ofNat 8 n]

/-- A flag as a byte, 0 or 1 (R178). -/
def flagByte (b : Bool) : List Byte := byte b.toNat

/-- A slot list in 8 bytes, ascending, the rest 0 (10.5). -/
def slotBytes (slots : List Nat) : List Byte :=
  (slots.take 8).map (BitVec.ofNat 8) ++ List.replicate (8 - slots.length) 0

/-- Record present, kind, frame, slot, raw word: 13 bytes, 0 when absent; no raw word is sent as 0 (10.5). -/
def recordBytes : Option FaultRecord → List Byte
  | none => List.replicate 13 0
  | some r => byte 1 ++ byte r.kind.code ++ bigEndian 6 r.frame ++ byte r.slot ++ bigEndian 4 (r.raw.getD 0).toNat

/-- The presence bits of STATION INFO: bits 0 to 7 (10.5). -/
def presenceBits (st : Station) : Nat :=
  st.identity.isSome.toNat + 2 * st.interval.isSome.toNat + 4 * st.quiet.isSome.toNat + 8 * st.latency.isSome.toNat
    + 16 * st.exchange.isSome.toNat + 32 * st.operation.isSome.toNat + 64 * st.step.isSome.toNat
    + 128 * st.wakeCountdown.isSome.toNat

/-- Offsets 2 to 26 of STATION INFO (10.5); for address 0 the state is FFh and the rest 0. -/
def stationBytes : Option StationReport → List Byte
  | none => byte 0xFF ++ List.replicate 24 0
  | some r =>
    byte r.station.state.code ++ byte (presenceBits r.station)
      ++ bigEndian 2 (r.station.identity.getD 0) ++ bigEndian 2 (r.station.interval.getD 0)
      ++ byte (r.station.quiet.getD 0) ++ bigEndian 2 (r.station.latency.getD 0)
      ++ byte r.station.depth ++ byte r.station.misses ++ [BitVec.ofInt 8 r.account.balance]
      ++ bigEndian 2 r.account.countdown ++ flagByte r.station.hostTrim ++ byte r.station.refusals
      ++ byte ((r.station.exchange.map PairRef.code).getD 0) ++ byte ((r.exchangeOrder.map Order.code).getD 0)
      ++ byte ((r.station.operation.map (fun o => o.1.code)).getD 0) ++ [(r.station.operation.map (·.2)).getD 0]
      ++ byte ((r.station.step.map EnrollStep.code).getD 0) ++ byte r.wakePosition
      ++ bigEndian 2 (r.station.wakeCountdown.getD 0) ++ byte r.queuedCalls

/-- A slot table entry of PLAN INFO: role code in bits 7-5, stream id in bits 4-0 (10.5). -/
def roleByte (r : Role) : Byte :=
  match r with
  | .stream id => BitVec.ofNat 8 (r.code * 32 + id)
  | .free | .beacon | .serviceDown _ | .serviceUp _ | .commandDown _ | .commandUp _ => BitVec.ofNat 8 (r.code * 32)

/-- A stream entry of PLAN INFO, 5 bytes (10.5). -/
def planStreamBytes (entry : Nat × Stream) : List Byte :=
  byte entry.1 ++ byte entry.2.station
    ++ byte (entry.2.direction.code + 2 * entry.2.closing.toNat + 4 * entry.2.state.code)
    ++ byte entry.2.slotList.length ++ byte entry.2.blocks

/-- The payload of a PLAN INFO reply after its status (10.5). -/
def planBytes (r : PlanReport) : List Byte :=
  flagByte r.isStaged ++ bigEndian 2 r.plan.generation.toNat ++ byte r.service ++ byte r.command
    ++ flagByte r.commit.isSome ++ bigEndian 6 ((r.commit.map (·.target)).getD 0) ++ [(r.commit.map (·.tag)).getD 0]
    ++ r.plan.slots.toList.map roleByte ++ byte r.streams.length ++ r.streams.flatMap planStreamBytes

/-- The payload of a STREAM INFO reply after its status (10.5). -/
def streamBytes (id : Nat) (st : Stream) : List Byte :=
  byte id ++ byte st.station ++ byte st.direction.code ++ byte st.slotList.length ++ slotBytes st.slotList
    ++ bigEndian 2 st.capacity ++ bigEndian 2 st.watermark ++ byte st.state.code ++ flagByte st.closing
    ++ bigEndian 2 st.level ++ bigEndian 2 st.space ++ bigEndian 2 st.underruns ++ bigEndian 2 st.overruns
    ++ bigEndian 2 st.gaps ++ byte (st.underrunRun.toNat + 2 * st.overrunRun.toNat + 4 * st.gapRun.toNat)

/-- The payload of a STATUS reply after its status (10.5). -/
def statusBytes (r : StatusReport) : List Byte :=
  byte r.trunk.code ++ bigEndian 6 r.frameNumber ++ bigEndian 2 r.generation.toNat ++ flagByte r.pendingCommit
    ++ byte r.mode.code ++ byte r.freeBlocks ++ byte r.credits ++ byte r.intake ++ byte r.table ++ byte r.replies
    ++ byte r.commandQueue ++ byte r.wakeQueue ++ byte r.notices ++ byte r.droppedNotices ++ byte r.discardedFrames

/-- The bytes of a reply's payload after the status byte (10.5). -/
def ReplyBody.bytes : ReplyBody → List Byte
  | .short => []
  | .badKind kind => [kind]
  | .hello baud =>
    byte 1 ++ bigEndian 2 3215 ++ byte 1 ++ byte baud.toNat ++ byte 15 ++ byte 24 ++ byte 64 ++ byte 16 ++ byte 8
      ++ byte 4 ++ byte 12 ++ byte 16 ++ byte 15 ++ byte 32 ++ byte 200 ++ byte 64
  | .status r => statusBytes r
  | .grant credits => byte credits
  | .cancel target => [target]
  | .setup u => byte u.service ++ byte u.command ++ byte u.window ++ byte u.missLimit ++ byte u.mode.code
  | .enroll a identity interval quiet latency =>
    byte a ++ bigEndian 2 identity ++ bigEndian 2 interval ++ byte quiet ++ bigEndian 2 latency
  | .drop a old => byte a ++ byte old.code
  | .address a => byte a
  | .trim a frame pair balance => byte a ++ bigEndian 6 frame ++ byte pair ++ [BitVec.ofInt 8 balance]
  | .policy a depth => byte a ++ byte depth
  | .call a operation attr echo value =>
    byte a ++ byte operation ++ byte attr ++ byte echo ++ bigEndian 2 value
  | .clearFault a cell => byte a ++ recordBytes cell.record ++ bigEndian 2 cell.count
  | .stationInfo a report cell =>
    byte a ++ stationBytes report ++ recordBytes cell.record ++ bigEndian 2 cell.count
  | .openStream id slots => byte id ++ byte slots.length ++ slotBytes slots
  | .closeStream id outcome words => byte id ++ byte outcome.code ++ bigEndian 2 words
  | .commit target generation => bigEndian 6 target ++ bigEndian 2 generation.toNat
  | .discard removed withdrawn => byte removed ++ byte withdrawn
  | .planInfo r => planBytes r
  | .write id accepted free => byte id ++ byte accepted ++ bigEndian 2 free
  | .streamInfo id st => streamBytes id st

/-- A reply's payload begins with its status (R178). -/
def Reply.payload (r : Reply) : List Byte := byte r.status.code ++ r.body.bytes

/-! ## Notice payloads (10.6, R179) -/

/-- The kind code of a notice (10.2). -/
def Notice.kind : Notice → Byte
  | .start .. => 0x80#8
  | .station .. => 0x81#8
  | .fault .. => 0x82#8
  | .streamFault .. => 0x83#8
  | .streamClosed .. => 0x84#8
  | .data .. => 0x85#8
  | .space .. => 0x86#8

/-- The words a DATA marker takes at its start: the oldest, at most 64 (R60). -/
def Stream.outgoing (st : Stream) : List Sample := st.buffer.take Config.transferWords

/-- The bytes of a notice's payload after the dropped-notice count (10.6). `stream` is the record of the stream a
marker names, as it stands at the start of the notice, before a DATA marker takes its words (R169). -/
def Notice.bytes (stream : Option Stream) : Notice → List Byte
  | .start reason baud => byte reason.code ++ byte 1 ++ byte baud.toNat ++ byte Config.resetCredits
  | .station a before after reason frame =>
    byte a ++ byte before.code ++ byte after.code ++ byte reason.code ++ bigEndian 6 frame
  | .fault a r =>
    byte a ++ byte r.kind.code ++ bigEndian 6 r.frame ++ byte r.slot ++ bigEndian 4 (r.raw.getD 0).toNat
  | .streamFault id cause frame slot count =>
    byte id ++ byte cause.code ++ bigEndian 6 frame ++ byte slot ++ bigEndian 2 count
  | .streamClosed id address direction words frame underruns overruns gaps =>
    byte id ++ byte address ++ byte direction.code ++ bigEndian 2 words ++ bigEndian 6 frame
      ++ bigEndian 2 underruns ++ bigEndian 2 overruns ++ bigEndian 2 gaps
  | .data id =>
    let words := (stream.map Stream.outgoing).getD []
    let left := (stream.map Stream.level).getD 0 - words.length
    byte id ++ byte words.length ++ bigEndian 2 left ++ words.flatMap (fun w => bigEndian 3 w.toNat)
  | .space id =>
    byte id ++ bigEndian 2 ((stream.map Stream.space).getD 0) ++ bigEndian 2 ((stream.map Stream.level).getD 0)

/-! ## The host frame (10.1, R175) -/

/-- The bytes of a host frame from its length byte through its payload, over which the CRC is computed (R146, R175). -/
def frameCore (kind tag flags : Byte) (payload : List Byte) : List Byte :=
  byte (payload.length + 3) ++ [kind, tag, flags] ++ payload

/-- A whole host frame, from its sync byte to its second CRC byte (10.1, R175). -/
def hostFrame (kind tag flags : Byte) (payload : List Byte) : List Byte :=
  Config.syncByte :: frameCore kind tag flags payload ++ crcBytes (frameCore kind tag flags payload)

end Sys2Proof.Machine
end

