-- ==== Sys2Proof/Machine/PowerOn.lean ====
section
/-! DEFINITION. The power-on state of each block, and the roles of the slots of a plan without streams. -/

namespace Sys2Proof.Machine

/-- The roles of R1 for S service and C command pairs, every stream slot FREE (R7, R21). -/
def pairRole (service command slot : Nat) : Role :=
  if slot = 0 then .beacon
  else if slot ≤ 2 * service then
    if slot % 2 = 1 then .serviceDown ((slot + 1) / 2) else .serviceUp (slot / 2)
  else if slot ≤ 2 * service + 2 * command then
    if slot % 2 = 1 then .commandDown ((slot - 2 * service + 1) / 2) else .commandUp ((slot - 2 * service) / 2)
  else .free

/-- A slot table in which no slot is a stream's (R1, R7). -/
def emptySlots (service command : Nat) : Vector Role 32 :=
  ⟨((List.range 32).map (pairRole service command)).toArray, by simp⟩

/-- A plan with no stream at generation 0 (R21). -/
def Plan.reset : Plan := { slots := emptySlots 1 2, streams := [], generation := 0 }

/-- R5 -/
def Setup.reset : Setup := { service := 1, command := 2, window := 4, missLimit := 4, mode := .strict }

/-- R5 -/
def FrameEngine.reset : FrameEngine :=
  { trunk := .stopped, frameNumber := 0, countdown := 0, setup := Setup.reset, frame := none, line := none }

/-- R21 -/
def PlanStore.reset : PlanStore := { active := Plan.reset, staged := Plan.reset, commit := none }

/-- R41 -/
def StreamUnit.reset : StreamUnit := { records := Vector.replicate 24 none, freeBlocks := Config.poolBlocks }

/-- R65 -/
def StationManager.reset : StationManager := { table := Vector.replicate 15 {}, wakeQueue := [] }

/-- R88 -/
def TrimScheduler.reset : TrimScheduler :=
  { accounts := Vector.replicate 15 {}, pairs := Vector.replicate 4 none }

/-- R111, R113 -/
def CallUnit.reset : CallUnit := { queue := [], pairs := Vector.replicate 4 none }

/-- R131 -/
def FaultRecorder.reset : FaultRecorder := { cells := Vector.replicate 16 {} }

/-- R164, with the START notice of R174 -/
def NoticeQueue.reset (reason : StartReason) (baud : BitVec 2) : NoticeQueue :=
  { entries := [.start reason baud], credits := Config.resetCredits, nextSequence := 0, dropped := 0,
    markers := Vector.replicate 24 false }

/-- The table of R161, which R162 takes for power-on too -/
def HostPort.reset (baud : BitVec 2) : HostPort :=
  { rstnLow := false, baud := baud, receiver := { kept := [], gapPassed := false }, discarded := 0, intake := [],
    table := [], replies := [], transmitter := .idle, restarting := false }

end Sys2Proof.Machine
end

