-- ==== Sys2Proof/Machine/State.lean ====
section
/-! DEFINITION. The state of the AC-3215: its blocks (0.3) and the queue of waiting commands, as plain data, and the state after reset. -/

namespace Sys2Proof.Machine

structure State where
  engine : FrameEngine
  plans : PlanStore
  streams : StreamUnit
  stations : StationManager
  trims : TrimScheduler
  calls : CallUnit
  faults : FaultRecorder
  notices : NoticeQueue
  port : HostPort
  /-- the commands that wait, oldest first -/
  pending : List Instr
deriving DecidableEq, Repr

/-- Why a step stops with a fault. -/
inductive Fault where
  /-- Raised by a row with a station operand out of 1 to 15 (0.7): there is no such station. Safe: no command. -/
  | noSuchStation
  /-- Raised by a row with a pair operand out of 1 to 4 (0.7): there is no such pair. Safe: no command. -/
  | noSuchPair
  /-- Raised by a row with a slot operand out of 1 to 31 (0.7): there is no such slot. Safe: no command. -/
  | noSuchSlot
deriving DecidableEq, Repr

/-- Why a step is refused. -/
inductive Refusal where
  /-- Raised by an arm of exec whose row has no meaning yet; no arm is left so. Safe: the machine stops. -/
  | notModelled (mnemonic : String)
deriving DecidableEq, Repr

/-- Every block in its power-on state (R161, R162). -/
def State.atPowerOn (reason : StartReason) (baud : BitVec 2) (pending : List Instr) : State :=
  { engine := FrameEngine.reset, plans := PlanStore.reset, streams := StreamUnit.reset,
    stations := StationManager.reset, trims := TrimScheduler.reset, calls := CallUnit.reset,
    faults := FaultRecorder.reset, notices := NoticeQueue.reset reason baud, port := HostPort.reset baud,
    pending := pending }

/-- The machine right after power-on. The straps' levels are a DESIGN CHOICE (log entry 1): both low. -/
def State.reset : State := State.atPowerOn .power 0 []

end Sys2Proof.Machine
end

