-- ==== Sys2Proof/Machine/Ops.lean ====
section
/-! DEFINITION. The named operations that the commands share: the records of each block, notices and markers, replies and
the outstanding table, fault reports, a station's change of state and the work it ends. -/

namespace Sys2Proof.Machine

/-- What a step answers. -/
abbrev Out := Host.Outcome State Fault Refusal

/-- Station addresses 1 to 15, ascending (0.7). -/
def addresses : List Nat := (List.range 15).map (· + 1)

/-- Stream ids 1 to 24, ascending (0.7). -/
def streamIds : List Nat := (List.range 24).map (· + 1)

/-- Pair numbers 1 to 4, ascending (0.7). -/
def pairNumbers : List Nat := (List.range 4).map (· + 1)

/-! ## Records: one reader and one writer for each table -/

/-- The record of a station; an address that is no station's reads as an ABSENT record (R64). -/
def StationManager.get (m : StationManager) (a : Nat) : Station :=
  if 1 ≤ a then (m.table[a - 1]?).getD {} else {}

def StationManager.set (m : StationManager) (a : Nat) (r : Station) : StationManager :=
  if 1 ≤ a then { m with table := m.table.setIfInBounds (a - 1) r } else m

/-- The trim account of a station (R88). -/
def TrimScheduler.get (t : TrimScheduler) (a : Nat) : TrimAccount :=
  if 1 ≤ a then (t.accounts[a - 1]?).getD {} else {}

def TrimScheduler.set (t : TrimScheduler) (a : Nat) (r : TrimAccount) : TrimScheduler :=
  if 1 ≤ a then { t with accounts := t.accounts.setIfInBounds (a - 1) r } else t

/-- The station of the trim exchange that service pair k holds (R97, R98). -/
def TrimScheduler.held (t : TrimScheduler) (k : Nat) : Option Nat :=
  if 1 ≤ k then (t.pairs[k - 1]?).getD none else none

def TrimScheduler.hold (t : TrimScheduler) (k : Nat) (a : Option Nat) : TrimScheduler :=
  if 1 ≤ k then { t with pairs := t.pairs.setIfInBounds (k - 1) a } else t

/-- The exchange that command pair j holds (R113). -/
def CallUnit.get (u : CallUnit) (j : Nat) : Option Exchange :=
  if 1 ≤ j then (u.pairs[j - 1]?).getD none else none

def CallUnit.set (u : CallUnit) (j : Nat) (x : Option Exchange) : CallUnit :=
  if 1 ≤ j then { u with pairs := u.pairs.setIfInBounds (j - 1) x } else u

/-- The record of a stream, if it exists; no record for an id out of 1 to 24 (R40). -/
def StreamUnit.get (u : StreamUnit) (id : Nat) : Option Stream :=
  if 1 ≤ id then (u.records[id - 1]?).getD none else none

def StreamUnit.set (u : StreamUnit) (id : Nat) (st : Option Stream) : StreamUnit :=
  if 1 ≤ id then { u with records := u.records.setIfInBounds (id - 1) st } else u

/-- The fault record and count of an address 0 to 15 (R131). -/
def FaultRecorder.get (r : FaultRecorder) (a : Nat) : FaultCell := (r.cells[a]?).getD {}

def FaultRecorder.set (r : FaultRecorder) (a : Nat) (c : FaultCell) : FaultRecorder :=
  { r with cells := r.cells.setIfInBounds a c }

/-- The role of a slot in a plan (R20). -/
def Plan.role (p : Plan) (slot : Nat) : Role := (p.slots[slot]?).getD .free

def State.station (s : State) (a : Nat) : Station := s.stations.get a
def State.account (s : State) (a : Nat) : TrimAccount := s.trims.get a
def State.exchange (s : State) (j : Nat) : Option Exchange := s.calls.get j
def State.stream (s : State) (id : Nat) : Option Stream := s.streams.get id
def State.faultCell (s : State) (a : Nat) : FaultCell := s.faults.get a

def State.setStation (a : Nat) (r : Station) (s : State) : State := { s with stations := s.stations.set a r }
def State.setAccount (a : Nat) (r : TrimAccount) (s : State) : State := { s with trims := s.trims.set a r }
def State.holdTrim (k : Nat) (a : Option Nat) (s : State) : State := { s with trims := s.trims.hold k a }
def State.setExchange (j : Nat) (x : Option Exchange) (s : State) : State := { s with calls := s.calls.set j x }
def State.setStream (id : Nat) (st : Option Stream) (s : State) : State := { s with streams := s.streams.set id st }
def State.setFault (a : Nat) (c : FaultCell) (s : State) : State := { s with faults := s.faults.set a c }

/-- Change the record of a station. -/
def State.onStation (a : Nat) (f : Station → Station) (s : State) : State := s.setStation a (f (s.station a))

/-- Change the trim account of a station. -/
def State.onAccount (a : Nat) (f : TrimAccount → TrimAccount) (s : State) : State := s.setAccount a (f (s.account a))

/-! ## Notices (R165, R166, R167) -/

/-- The queue is full, so the entry is dropped and counted (R165, R166). -/
def NoticeQueue.drop (q : NoticeQueue) : NoticeQueue := { q with dropped := satSucc Config.byteCount q.dropped }

/-- The offer of a full record (R165). -/
def NoticeQueue.offer (n : Notice) (q : NoticeQueue) : NoticeQueue :=
  if q.entries.length < Config.noticeQueue then { q with entries := q.entries ++ [n] } else q.drop

/-- The marker index of a stream (R163). -/
def NoticeQueue.marked (q : NoticeQueue) (id : Nat) : Bool :=
  if 1 ≤ id then (q.markers[id - 1]?).getD false else false

def NoticeQueue.mark (q : NoticeQueue) (id : Nat) (b : Bool) : NoticeQueue :=
  if 1 ≤ id then { q with markers := q.markers.setIfInBounds (id - 1) b } else q

/-- The offer of a marker, DATA or SPACE, of a stream: coalesced, added or dropped (R166). -/
def NoticeQueue.offerMarker (id : Nat) (marker : Notice) (q : NoticeQueue) : NoticeQueue :=
  if q.marked id then q
  else if q.entries.length < Config.noticeQueue then { q.mark id true with entries := q.entries ++ [marker] }
  else q.drop

/-- Whether an entry is the marker of a stream. -/
def Notice.isMarkerOf (id : Nat) (n : Notice) : Bool := n == .data id || n == .space id

/-- A closing stream's marker is taken out of the queue, unsent and not counted (R167). -/
def NoticeQueue.removeMarker (id : Nat) (q : NoticeQueue) : NoticeQueue :=
  if q.marked id then { q.mark id false with entries := q.entries.filter (fun n => !n.isMarkerOf id) } else q

def State.offer (n : Notice) (s : State) : State := { s with notices := s.notices.offer n }
def State.offerData (id : Nat) (s : State) : State := { s with notices := s.notices.offerMarker id (.data id) }
def State.offerSpace (id : Nat) (s : State) : State := { s with notices := s.notices.offerMarker id (.space id) }

/-! ## Replies and the outstanding table (R151 to R154) -/

/-- An immediate reply is queued at the take (R152, R154). -/
def HostPort.replyNow (kind tag : Byte) (status : Status) (body : ReplyBody) (p : HostPort) : HostPort :=
  { p with replies := p.replies ++ [{ kind := kind, tag := tag, status := status, body := body, deferred := false }] }

/-- Whether an entry of the table still waits for its reply to be queued (R153). -/
def Outstanding.waits (e : Outstanding) (tag : Byte) : Bool := e.tag == tag && !e.replied

/-- The entry of a tag has its reply-queued mark set (R153). -/
def Outstanding.mark (tag : Byte) (e : Outstanding) : Outstanding :=
  if e.tag = tag then { e with replied := true } else e

/-- The owner of a deferred request queues its reply and the mark is set; once it is set, or after the entry has left
the table, no block queues a second reply (R153, R160). -/
def HostPort.answer (tag : Byte) (status : Status) (body : ReplyBody) (p : HostPort) : HostPort :=
  match p.table.find? (·.waits tag) with
  | none => p
  | some e =>
    { p with
      table := p.table.map (Outstanding.mark tag)
      replies := p.replies ++
        [{ kind := e.kind.replyCode, tag := tag, status := status, body := body, deferred := true }] }

/-- The tag of the unanswered request of a kind and target, for requests whose owner holds no tag (R12, R105). -/
def HostPort.waiting (kind : ReqKind) (target : Option Nat) (p : HostPort) : Option Byte :=
  (p.table.find? (fun e => e.kind == kind && e.target == target && !e.replied)).map (·.tag)

/-- An accepted deferred request enters the table, behind those taken before it (R152, R153). -/
def HostPort.enter (e : Outstanding) (p : HostPort) : HostPort := { p with table := p.table ++ [e] }

/-- The owner sets the phase of a request (R153). -/
def HostPort.setPhase (tag : Byte) (phase : Phase) (p : HostPort) : HostPort :=
  { p with table := p.table.map (fun e => if e.tag = tag then { e with phase := phase } else e) }

def State.replyNow (kind tag : Byte) (status : Status) (body : ReplyBody) (s : State) : State :=
  { s with port := s.port.replyNow kind tag status body }
def State.answer (tag : Byte) (status : Status) (body : ReplyBody) (s : State) : State :=
  { s with port := s.port.answer tag status body }
def State.enter (e : Outstanding) (s : State) : State := { s with port := s.port.enter e }
def State.setPhase (tag : Byte) (phase : Phase) (s : State) : State := { s with port := s.port.setPhase tag phase }

/-- Answer the unanswered request of a kind and target, if there is one. -/
def State.answerKind (kind : ReqKind) (target : Option Nat) (status : Status) (body : ReplyBody) (s : State) : State :=
  match s.port.waiting kind target with
  | none => s
  | some tag => s.answer tag status body

/-! ## The command queue (R111, R112) -/

/-- An entry joins the tail; between the take of a RESTART and its reset point none does (R112, R160). -/
def State.enqueue (e : Entry) (s : State) : State :=
  if s.port.restarting then s else { s with calls := { s.calls with queue := s.calls.queue ++ [e] } }

/-- Entries leave the queue, the others keep their order (R112). -/
def State.dequeue (leaves : Entry → Bool) (s : State) : State :=
  { s with calls := { s.calls with queue := s.calls.queue.filter (fun e => !leaves e) } }

/-- The operation byte of a CALL: the order code of GET or PUT (10.4). -/
def Entry.callBody (e : Entry) (echo value : Nat) : ReplyBody := .call e.station e.order.code e.attr echo value

/-- The CALL reply of an entry or exchange that ends without an answer (R124); other owners answer for themselves. -/
def State.failCall (e : Entry) (status : Status) (s : State) : State :=
  if e.owner = .call then s.answer e.tag status (e.callBody 0 0) else s

/-- The pair becomes free and its station's exchange-in-flight field is removed (R117, R126). -/
def State.freePair (j a : Nat) (s : State) : State :=
  (s.setExchange j none).onStation a (fun r => { r with exchange := none })

/-- The trim exchange ends and the station's exchange-in-flight field is removed (R99 to R102). -/
def State.freeService (k a : Nat) (s : State) : State :=
  (s.holdTrim k none).onStation a (fun r => { r with exchange := none })

/-! ## Fault reports (R132, R133) -/

/-- R132: the count rises; where no record stands one is made and a FAULT notice is offered (R133). -/
def State.reportFault (a : Nat) (kind : FaultKind) (slot : Nat) (raw : Option Word) (s : State) : State :=
  let cell := s.faultCell a
  let count := satSucc Config.wordCount cell.count
  match cell.record with
  | some _ => s.setFault a { cell with count := count }
  | none =>
    let record : FaultRecord := { kind := kind, frame := s.engine.frameNumber, slot := slot, raw := raw }
    (s.setFault a { record := some record, count := count }).offer (.fault a record)

/-! ## Streams follow their station (R47) -/

/-- One stream of the active plan is brought to the state its station requires (R47). -/
def State.followStream (a : Nat) (s : State) (id : Nat) : State :=
  match s.stream id with
  | none => s
  | some st =>
    if st.station = a ∧ st.inActive then
      if (s.station a).state = .active then
        if st.state = .held then s.setStream id (some st.enliven) else s
      else if st.state = .live then
        let t := s.setStream id (some { st with state := .held })
        if st.restDue then t.offerData id else t
      else s
    else s

/-- All streams of a station, in ascending order of id (DESIGN CHOICE, log entry 3). -/
def State.followStation (a : Nat) (s : State) : State := streamIds.foldl (State.followStream a) s

/-! ## A station's change of state (R66, R67, R68) -/

/-- Steps 1 to 3 of R67: the state is recorded, the STATION notice offered, the streams follow. -/
def State.moveStation (a : Nat) (new : StationState) (reason : Reason) (s : State) : State :=
  let old := (s.station a).state
  let s := s.onStation a (fun r => { r with state := new })
  let s := s.offer (.station a old new reason s.engine.frameNumber)
  s.followStation a

/-- Step 4 of R67: the pending operation is removed and its reply queued. -/
def State.endOperation (a : Nat) (status : Status) (body : ReplyBody) (s : State) : State :=
  match (s.station a).operation with
  | none => s
  | some (_, tag) => (s.onStation a (fun r => { r with operation := none })).answer tag status body

/-- A pending host TRIM is answered, the flag cleared and the refusal count set to 0 (R106, R107, R108). -/
def State.endHostTrim (a : Nat) (status : Status) (body : ReplyBody) (s : State) : State :=
  if (s.station a).hostTrim then
    (s.onStation a (fun r => { r with hostTrim := false, refusals := 0 })).answerKind .trim (some a) status body
  else s

/-- The exchange in flight is abandoned: its pair is freed and a CALL fails (R102, R126). -/
def State.abandon (a : Nat) (status : Status) (s : State) : State :=
  match (s.station a).exchange with
  | none => s
  | some (.service k) => s.freeService k a
  | some (.command j) =>
    match s.exchange j with
    | none => s.freePair j a
    | some x => (s.freePair j a).failCall x.entry status

/-- The station's entries leave the command queue, and the CALLs among them fail in queue order (R127). -/
def State.removeEntries (a : Nat) (status : Status) (s : State) : State :=
  let gone := s.calls.queue.filter (fun e => e.station == a)
  gone.foldl (fun s e => s.failCall e status) (s.dequeue (fun e => e.station == a))

/-- Step 5 of R67 for entry to FAULTED or ABSENT: the host TRIM, the exchange in flight and the queued entries, in the
order of R68. -/
def State.disposeWork (a : Nat) (status : Status) (s : State) : State :=
  ((s.endHostTrim a status .short).abandon a status).removeEntries a status

/-- The quiet end and the acknowledged pair are removed (R89, R103, R104). -/
def State.endQuiet (a : Nat) (s : State) : State :=
  s.onAccount a (fun c => { c with quietEnd := none, ackPair := none })

/-- What entry to ABSENT removes from the record (R64, R70, R75, R77, R86). -/
def Station.clear (r : Station) : Station :=
  { r with identity := none, interval := none, quiet := none, latency := none, misses := 0, step := none,
           wakeCountdown := none }

/-- The station becomes ABSENT: the pending operation fails with one status, the other work with another (R67, R68);
the enrollment values, the wake and a quiet span end (R77, R86, R104). -/
def State.enterAbsent (a : Nat) (reason : Reason) (operation work : Status) (s : State) : State :=
  let s := s.moveStation a .absent reason
  let s := s.endOperation a operation .short
  let s := s.onStation a Station.clear
  let s := { s with stations := { s.stations with wakeQueue := s.stations.wakeQueue.filter (· != a) } }
  (s.endQuiet a).disposeWork a work

/-- The station becomes FAULTED: its values, miss count and balance are kept (R84), its work ends (R68). -/
def State.enterFaulted (a : Nat) (reason : Reason) (operation work : Status) (s : State) : State :=
  ((s.moveStation a .faulted reason).endOperation a operation .short).disposeWork a work

/-! ## The miss count (R70) -/

/-- A VALID REPLY or WAIT sets the miss count to 0 (R70). -/
def State.reportValid (a : Nat) (s : State) : State := s.onStation a (fun r => { r with misses := 0 })

/-- A miss raises the miss count by one (R70). -/
def State.reportMiss (a : Nat) (s : State) : State := s.onStation a (fun r => { r with misses := r.misses + 1 })

/-- Whether the miss count has reached the limit in force (R70). -/
def State.atMissLimit (a : Nat) (s : State) : Bool := s.engine.setup.missLimit ≤ (s.station a).misses

/-- The change of R70, claimed from the state in which the limit was reached; in another state the claim has no effect
(R67, R121). -/
def State.missLimit (a : Nat) (origin : StationState) (s : State) : State :=
  if (s.station a).state = origin then
    match origin with
    | .joining => s.enterAbsent a .enrollFailed .noReply .noReply
    | .active => s.enterFaulted a .misses .faulted .faulted
    | .waking => s.enterFaulted a .misses .noReply .faulted
    | .absent | .trimming | .drowsy | .faulted => s
  else s

/-! ## Common shapes of a meaning -/

/-- While RSTN is low nothing but its release has an effect: the line is not driven, the receiver ignores HRX (R5, R162). -/
def whileReleased (s : State) (f : State → State) : Out := .next (if s.port.rstnLow then s else f s)

end Sys2Proof.Machine
end

