-- ==== Sys2Proof/Machine/Intake.lean ====
section
/-! DEFINITION. The intake (8.2): the take of the oldest frame, the port's own tests, refusals, BAD_KIND_FRAME. -/

namespace Sys2Proof.Machine

/-- The immediate replies queued, the one being sent counted (R150, R154). -/
def HostPort.immediate (p : HostPort) : Nat := p.replies.countP (fun r => !r.deferred)

/-- The intake takes a frame only while fewer than 4 immediate replies are queued and no full restart is in progress
(R150). -/
def HostPort.takes (p : HostPort) : Bool := p.immediate < Config.immediateReplies && !p.restarting

/-- Tests 2 to 4 of R151 for a frame of a request kind, in their order; RESTART is exempt from the tag test. -/
def portRefusal (k : ReqKind) (f : ReqFrame) (p : HostPort) : Option Status :=
  if !k.allowsLength f.payload.length then some .badLength
  else if k != .restart && p.table.any (fun e => e.tag == f.tag) then some .tagInUse
  else if k.isDeferred && Config.table ≤ p.table.length then some .tableFull
  else none

/-- What a refusal carries: the target tag in a CANCEL reply, the request's bytes in a CALL reply, else nothing (R178). -/
def refusalBody (k : ReqKind) (f : ReqFrame) : ReplyBody :=
  if k = .cancel then .cancel (f.payload.getD 0 0)
  else if k = .call then .call (f.param 0) (f.param 1) (f.param 2) 0 0
  else .short

/-- An immediate reply with status OK. -/
def State.accept (k : ReqKind) (f : ReqFrame) (body : ReplyBody) (s : State) : State :=
  s.replyNow k.replyCode f.tag .ok body

/-- An immediate refusal: the request has no other effect (R151, R152). -/
def State.refuse (k : ReqKind) (f : ReqFrame) (status : Status) (s : State) : State :=
  s.replyNow k.replyCode f.tag status (refusalBody k f)

/-- The intake removes its oldest frame (R150). -/
def State.popIntake (s : State) : State := { s with port := { s.port with intake := s.port.intake.tail } }

/-- A frame of a request kind is served once it has passed the port's own tests (R151, R152). -/
def serveFrame (k : ReqKind) (serve : ReqFrame → State → State) (f : ReqFrame) (s : State) : State :=
  match portRefusal k f s.port with
  | some status => s.refuse k f status
  | none => serve f s

/-- The take of the oldest frame, of kind k, as one event (R150). Where the intake takes no frame, or its oldest frame
is of another kind, this event does not come (log entry 7). -/
def takeRequest (k : ReqKind) (serve : ReqFrame → State → State) (s : State) : Out :=
  whileReleased s fun s =>
    match s.port.intake.head? with
    | none => s
    | some f => if s.port.takes ∧ f.kind = k.code then serveFrame k serve f s.popIntake else s

/-- The table entry of an accepted deferred request (R152, R153). -/
def outstanding (k : ReqKind) (f : ReqFrame) (target : Option Nat) (phase : Phase) : Outstanding :=
  { tag := f.tag, kind := k, target := target, phase := phase, replied := false, data := none }

/-- BAD_KIND_FRAME (R151, R176): a frame of no request kind is answered with kind 40h, status BAD_KIND and its kind. -/
def execBadKindFrame (s : State) : Out :=
  whileReleased s fun s =>
    match s.port.intake.head? with
    | none => s
    | some f =>
      if s.port.takes ∧ !isRequestKind f.kind then s.popIntake.replyNow 0x40#8 f.tag .badKind (.badKind f.kind) else s

end Sys2Proof.Machine
end

