-- ==== Sys2Proof/Machine/Plans.lean ====
section
/-! DEFINITION. The Plan Store (chapter 2): OPEN STREAM, CLOSE STREAM, DISCARD, COMMIT, PLAN INFO and the plan swap. -/

namespace Sys2Proof.Machine

/-! ## Plans and stream records -/

/-- An id joins a stream set, kept ascending (R20, R26). -/
def insertId (id : Nat) (ids : List Nat) : List Nat := ids.filter (· < id) ++ id :: ids.filter (id < ·)

/-- Slots of a plan take a role (R26, R28, R29). -/
def setRoles (slots : Vector Role 32) (which : List Nat) (r : Role) : Vector Role 32 :=
  which.foldl (fun v k => v.setIfInBounds k r) slots

/-- A stream enters a plan at its slots (R26). -/
def Plan.addStream (id : Nat) (slotList : List Nat) (p : Plan) : Plan :=
  { p with slots := setRoles p.slots slotList (.stream id), streams := insertId id p.streams }

/-- A stream leaves a plan, its entries become FREE (R28, R29). -/
def Plan.dropStream (id : Nat) (slotList : List Nat) (p : Plan) : Plan :=
  { p with slots := setRoles p.slots slotList .free, streams := p.streams.filter (· != id) }

/-- The FREE slots of a plan, ascending (R24, R26). -/
def Plan.freeSlots (p : Plan) : List Nat := (List.range Config.slots).filter (fun k => p.role k == .free)

/-- The record is deleted with its words, and its blocks return to the pool (R42, R44, R49). -/
def deleteStream (id : Nat) (st : Stream) (s : State) : State :=
  { s with streams := { s.streams.set id none with freeBlocks := s.streams.freeBlocks + st.blocks } }

/-! ## OPEN STREAM (R24 to R26, R43) -/

/-- The parameter test of R24. -/
def openInRange (station direction count capacity watermark : Nat) : Bool :=
  1 ≤ station && station ≤ 15 && direction ≤ 1 && 1 ≤ count && count ≤ 8 && 16 ≤ capacity && capacity ≤ 256
    && capacity % Config.blockWords == 0 && 1 ≤ watermark && watermark ≤ capacity

/-- The record of a new stream (R43). -/
def newStream (station : Nat) (direction : Direction) (slotList : List Nat) (capacity watermark : Nat) : Stream :=
  { station := station, direction := direction, slotList := slotList, capacity := capacity, watermark := watermark,
    blocks := capacity / Config.blockWords, buffer := [], state := .staged, closing := false, underruns := 0,
    overruns := 0, gaps := 0, underrunRun := false, gapRun := false, overrunRun := false }

/-- The lowest stream id that no existing stream holds (R25). -/
def State.freeId (s : State) : Option Nat := streamIds.find? (fun id => (s.stream id).isNone)

/-- The stream is placed in the staged plan and its record made, its blocks taken (R26, R42, R43). -/
def placeStream (id : Nat) (st : Stream) (s : State) : State :=
  { s with
    plans := { s.plans with staged := s.plans.staged.addStream id st.slotList }
    streams := { s.streams.set id (some st) with freeBlocks := s.streams.freeBlocks - st.blocks } }

/-- OPEN STREAM: the five tests of R24 in their order, then R25 and R26. -/
def serveOpenStream (f : ReqFrame) (s : State) : State :=
  let count := f.param 2
  let capacity := f.param16 3
  if !openInRange (f.param 0) (f.param 1) count capacity (f.param16 5) then s.refuse .openStream f .badParam
  else if s.plans.commit.isSome then s.refuse .openStream f .planPending
  else match s.freeId with
    | none => s.refuse .openStream f .noStreamId
    | some id =>
      let free := s.plans.staged.freeSlots
      if free.length < count then s.refuse .openStream f .noSlots
      else if s.streams.freeBlocks < capacity / Config.blockWords then s.refuse .openStream f .noMemory
      else
        let slots := free.take count
        let direction := if f.param 1 = 0 then Direction.down else Direction.up
        let st := newStream (f.param 0) direction slots capacity (f.param16 5)
        (placeStream id st s).accept .openStream f (.openStream id slots)

def execOpenStream (s : State) : Out := takeRequest .openStream serveOpenStream s

/-! ## CLOSE STREAM (R27 to R29, R44, R45) -/

/-- A stream leaves the staged plan (R28, R29). -/
def unstage (id : Nat) (st : Stream) (s : State) : State :=
  { s with plans := { s.plans with staged := s.plans.staged.dropStream id st.slotList } }

/-- A stream of the active plan is marked closing; an UP stream with words offers a DATA marker (R29, R45, R59). -/
def markClosing (id : Nat) (st : Stream) (s : State) : State :=
  let s := (unstage id st s).setStream id (some { st with closing := true })
  if st.restDue then s.offerData id else s

/-- CLOSE STREAM: the tests of R27, then R28 or R29. -/
def serveCloseStream (f : ReqFrame) (s : State) : State :=
  let id := f.param 0
  if s.plans.commit.isSome then s.refuse .closeStream f .planPending
  else match s.stream id with
    | none => s.refuse .closeStream f .notFound
    | some st =>
      if st.closing then s.refuse .closeStream f .state
      else if st.state = .staged then
        (deleteStream id st (unstage id st s)).accept .closeStream f (.closeStream id .removed st.level)
      else (markClosing id st s).accept .closeStream f (.closeStream id .closing 0)

def execCloseStream (s : State) : Out := takeRequest .closeStream serveCloseStream s

/-! ## DISCARD (R30) -/

/-- One stream at a DISCARD: a STAGED one is removed (R44), a closing one has its flag cleared (R45). -/
def discardStream (s : State) (id : Nat) : State :=
  match s.stream id with
  | none => s
  | some st =>
    if st.state = .staged then deleteStream id st s
    else if st.closing then s.setStream id (some { st with closing := false })
    else s

/-- How many streams meet a test. -/
def State.countStreams (s : State) (test : Stream → Bool) : Nat :=
  streamIds.countP (fun id => ((s.stream id).map test).getD false)

/-- DISCARD (R30): the staged plan becomes a copy of the active plan. -/
def serveDiscard (f : ReqFrame) (s : State) : State :=
  if s.plans.commit.isSome then s.refuse .discard f .planPending
  else
    let removed := s.countStreams (fun st => st.state == .staged)
    let withdrawn := s.countStreams (·.closing)
    let s := streamIds.foldl discardStream s
    { s with plans := { s.plans with staged := s.plans.active } }.accept .discard f (.discard removed withdrawn)

def execDiscard (s : State) : Out := takeRequest .discard serveDiscard s

/-! ## COMMIT (R31, R32) -/

/-- The target of a COMMIT against the reference frame N (R31): the mark NEXT is an empty payload. -/
def commitTarget (f : ReqFrame) (n : Nat) : Nat := if f.payload.isEmpty then n + 1 else number f.payload

/-- COMMIT: the tests of R31, then the pending commit record and the table entry (R32). -/
def serveCommit (f : ReqFrame) (s : State) : State :=
  let n := s.engine.frameNumber
  let target := commitTarget f n
  if s.plans.commit.isSome then s.refuse .commit f .planPending
  else if target ≤ n ∨ Config.lastFrame < target then s.refuse .commit f .tooLate
  else if n + Config.commitLead < target then s.refuse .commit f .tooFar
  else
    { s with plans := { s.plans with commit := some { target := target, tag := f.tag } } }.enter
      (outstanding .commit f none .awaitingFrame)

def execCommit (s : State) : Out := takeRequest .commit serveCommit s

/-! ## PLAN INFO (R39) -/

/-- The items of R39 for one of the plans. -/
def planReport (isStaged : Bool) (s : State) : PlanReport :=
  let plan := if isStaged then s.plans.staged else s.plans.active
  { isStaged := isStaged, plan := plan, service := s.engine.setup.service, command := s.engine.setup.command,
    commit := s.plans.commit, streams := plan.streams.filterMap (fun id => (s.stream id).map (fun st => (id, st))) }

/-- PLAN INFO (R39): a selector of 0 names the active plan. -/
def servePlanInfo (f : ReqFrame) (s : State) : State :=
  s.accept .planInfo f (.planInfo (planReport (f.param 0 != 0) s))

def execPlanInfo (s : State) : Out := takeRequest .planInfo servePlanInfo s

/-! ## The plan swap (R33, R34) -/

/-- A closing stream is removed at the swap, in the steps of R49. -/
def removeClosing (s : State) (id : Nat) : State :=
  match s.stream id with
  | none => s
  | some st =>
    let s := deleteStream id st s
    let s := { s with notices := s.notices.removeMarker id }
    s.offer (.streamClosed id st.station st.direction st.level s.engine.frameNumber st.underruns st.overruns st.gaps)

/-- The closing streams: those of the active set that are not in the staged set, ascending (R33). -/
def PlanStore.closingIds (p : PlanStore) : List Nat := p.active.streams.filter (fun id => !p.staged.streams.contains id)

/-- A STAGED stream enters the active plan, LIVE if its station is ACTIVE, HELD otherwise (R46). -/
def enterActive (s : State) (id : Nat) : State :=
  match s.stream id with
  | none => s
  | some st =>
    if st.state = .staged then
      if (s.station st.station).state = .active then s.setStream id (some st.enliven)
      else s.setStream id (some { st with state := .held })
    else s

/-- Steps 1 to 3 of R34: the staged plan becomes active with its generation raised by one (R23), and is copied afresh. -/
def PlanStore.swap (p : PlanStore) : PlanStore :=
  let plan := { p.staged with generation := p.staged.generation + 1 }
  { active := plan, staged := plan, commit := none }

/-- The removals of R33 and the swap of R34, for the pending commit record. -/
def swapPlans (c : PendingCommit) (s : State) : State :=
  let s := s.plans.closingIds.foldl removeClosing s
  let s := { s with plans := s.plans.swap }
  let s := s.plans.active.streams.foldl enterActive s
  s.answer c.tag .ok (.commit c.target s.plans.active.generation)

/-- The Plan Store's part of a frame start: the swap when the frame number has become F (R33, R34). -/
def planSwap (s : State) : State :=
  match s.plans.commit with
  | some c => if c.target = s.engine.frameNumber then swapPlans c s else s
  | none => s

end Sys2Proof.Machine
end

