-- ==== Sys2Proof/Machine/Streams.lean ====
section
/-! DEFINITION. The Stream Unit (chapter 3): the down path, the up path, markers at send time, WRITE and STREAM INFO. -/

namespace Sys2Proof.Machine

/-! ## The down path (R52 to R55) -/

/-- The word a DOWN stream's slot sends: the oldest buffered word when LIVE, else FILL, addressed to the station (R14,
R52, R53, R54). -/
def Stream.downWord (st : Stream) : Word :=
  match st.state, st.buffer with
  | .live, w :: _ => dataWord st.station w
  | .live, [] | .held, _ | .staged, _ => fillWord st.station

/-- The Stream Unit's part of a LIVE DOWN slot before the word is sent: the take (R52) or the underrun (R53). -/
def supplyDown (id slot : Nat) (st : Stream) (s : State) : State :=
  match st.buffer with
  | _ :: rest => s.setStream id (some { st with buffer := rest, underrunRun := false })
  | [] =>
    let count := satSucc Config.wordCount st.underruns
    let s' := s.setStream id (some { st with underruns := count, underrunRun := true })
    if st.underrunRun then s' else s'.offer (.streamFault id .underrun s.engine.frameNumber slot count)

/-- After every slot event of a LIVE DOWN stream the SPACE test is made (R55). -/
def spaceTest (id : Nat) (s : State) : State :=
  match s.stream id with
  | some st => if st.spaceDue then s.offerSpace id else s
  | none => s

/-! ## The up path (R56 to R59) -/

/-- A sample from a LIVE UP slot: appended (R56), or an overrun when the buffer is full (R57); then the DATA test. -/
def takeSample (id slot : Nat) (w : Sample) (st : Stream) (s : State) : State :=
  if 1 ≤ st.space then
    let st' := { st with buffer := st.buffer ++ [w], overrunRun := false, gapRun := false }
    let s' := s.setStream id (some st')
    if st'.dataDue then s'.offerData id else s'
  else
    let count := satSucc Config.wordCount st.overruns
    let s' := s.setStream id (some { st with overruns := count, overrunRun := true, gapRun := false })
    let s' := if st.overrunRun then s' else s'.offer (.streamFault id .overrun s.engine.frameNumber slot count)
    if st.dataDue then s'.offerData id else s'

/-- A gap from a LIVE UP slot (R58). -/
def takeGap (id slot : Nat) (st : Stream) (s : State) : State :=
  let count := satSucc Config.wordCount st.gaps
  let s' := s.setStream id (some { st with gaps := count, gapRun := true })
  if st.gapRun then s' else s'.offer (.streamFault id .gap s.engine.frameNumber slot count)

/-- The class of a LIVE UP slot (R17): the gap goes to the Stream Unit before the fault is reported (R133). -/
def streamAnswer (id slot : Nat) (st : Stream) (c : UpClass) (s : State) : State :=
  match c with
  | .valid (.sample w) => takeSample id slot w st s
  | .silent => takeGap id slot st s
  | .check raw => (takeGap id slot st s).reportFault st.station .check slot (some raw)
  | .foreign raw => (takeGap id slot st s).reportFault st.station .foreign slot (some raw)
  | .valid (.done _ _) | .valid (.refused _ _) | .valid .unknownAttr | .valid .wait => s

/-! ## Markers at send time (R60, R61, R169) -/

/-- A DATA marker's words leave the buffer, and the DATA test is made for the level left behind (R60, R59). -/
def takeData (id : Nat) (s : State) : State :=
  match s.stream id with
  | none => s
  | some st =>
    let st' := { st with buffer := st.buffer.drop Config.transferWords }
    let s' := s.setStream id (some st')
    if st'.leftDue then s'.offerData id else s'

/-! ## The trunk stop (R48) -/

/-- A stream still LIVE becomes HELD, and an UP stream with words offers a DATA marker (R48, R59). -/
def stopStream (s : State) (id : Nat) : State :=
  match s.stream id with
  | none => s
  | some st =>
    if st.state = .live then
      let s' := s.setStream id (some { st with state := .held })
      if st.restDue then s'.offerData id else s'
    else s

def streamUnitStop (s : State) : State := streamIds.foldl stopStream s

/-! ## WRITE (R50, R51) and STREAM INFO (R62, R63) -/

/-- WRITE: the tests of R50, then as many words as the free space allows are appended (R51). -/
def serveWrite (f : ReqFrame) (s : State) : State :=
  let id := f.param 0
  match s.stream id with
  | none => s.refuse .write f .notFound
  | some st =>
    if st.direction = .up ∨ st.closing then s.refuse .write f .state
    else
      let words := (samplesOf f.payload.tail).take st.space
      let st' := { st with buffer := st.buffer ++ words }
      (s.setStream id (some st')).accept .write f (.write id words.length st'.space)

def execWrite (s : State) : Out := takeRequest .write serveWrite s

/-- STREAM INFO: the reply carries the counts as they stood, then a nonzero clear flag clears them (R62, R63). -/
def serveStreamInfo (f : ReqFrame) (s : State) : State :=
  let id := f.param 0
  match s.stream id with
  | none => s.refuse .streamInfo f .notFound
  | some st =>
    let s' := if f.param 1 = 0 then s
      else s.setStream id (some { st with underruns := 0, overruns := 0, gaps := 0 })
    s'.accept .streamInfo f (.streamInfo id st)

def execStreamInfo (s : State) : Out := takeRequest .streamInfo serveStreamInfo s

end Sys2Proof.Machine
end

