-- ==== Sys2Proof/Machine/Calls.lean ====
section
/-! DEFINITION. The exchanges of the command pairs (6.2, 6.3): the grant, the answer of an up slot, the miss of an
attempt, and what the owner of an exchange does with its outcome (R72 to R75, R79, R83, R124). -/

namespace Sys2Proof.Machine

/-- The outcome handed to the owner of an exchange (R122). -/
inductive Ending where
  | done (echo value : Nat)
  | refused (value : Nat)
  | unknownAttr
  | stall
  | noReply
deriving DecidableEq, Repr

/-- The status a failed outcome gives an ENROLL, a DROWSE or a WAKE (R75, R79, R83); DONE gives OK. -/
def Ending.status : Ending → Status
  | .done _ _ => .ok
  | .refused _ => .refused
  | .unknownAttr => .unknownAttr
  | .stall => .stall
  | .noReply => .noReply

/-! ## The owners (R122) -/

/-- The CALL reply (R124): the value for OK, REFUSED and BAD_STATION, the echo as 10.5 gives it. -/
def callEnds (e : Entry) (r : Ending) (s : State) : State :=
  match r with
  | .done echo value =>
    if echo = e.attr then s.answer e.tag .ok (e.callBody echo value)
    else s.answer e.tag .badStation (e.callBody echo value)
  | .refused value => s.answer e.tag .refused (e.callBody e.attr value)
  | .unknownAttr => s.answer e.tag .unknownAttr (e.callBody 0 0)
  | .stall => s.answer e.tag .stall (e.callBody 0 0)
  | .noReply => s.answer e.tag .noReply (e.callBody 0 0)

/-- An enrollment fails (R75): from JOINING to ABSENT with reason ENROLL_FAILED. -/
def enrollFails (a : Nat) (status : Status) (s : State) : State :=
  if (s.station a).state = .joining then s.enterAbsent a .enrollFailed status status else s

/-- The next step of the chain is queued and the request's phase returns to QUEUED (R72). -/
def enrollNext (e : Entry) (step : EnrollStep) (attr : Nat) (s : State) : State :=
  let s := s.onStation e.station (fun r => { r with step := some step })
  let s := s.enqueue { tag := e.tag, owner := .enroll, station := e.station, order := .get, attr := attr, value := 0 }
  s.setPhase e.tag .queued

/-- The enrollment is complete (R74): the station becomes ACTIVE, its countdown is loaded (R89), ENROLL is answered. -/
def enrollCompletes (a : Nat) (s : State) : State :=
  let s := s.moveStation a .active .enrolled
  let r := s.station a
  let s := s.endOperation a .ok
    (.enroll a (r.identity.getD 0) (r.interval.getD 0) (r.quiet.getD 0) (r.latency.getD 0))
  let s := s.onStation a (fun r => { r with step := none })
  s.onAccount a (fun c => { c with countdown := r.interval.getD 0 * 16 })

/-- A DONE of the chain (R72, R73): the echo and the value are tested, the value recorded, the step advanced. -/
def enrollDone (e : Entry) (echo value : Nat) (s : State) : State :=
  let a := e.station
  let bad (s : State) : State := enrollFails a .badStation s
  match (s.station a).step with
  | none => s
  | some .join => enrollNext e .identity 240 s
  | some .identity =>
    if echo = 240 ∧ value ≠ 0 then
      enrollNext e .interval 241 (s.onStation a (fun r => { r with identity := some value }))
    else bad s
  | some .interval =>
    if echo = 241 ∧ 1 ≤ value ∧ value ≤ 4095 then
      enrollNext e .quiet 242 (s.onStation a (fun r => { r with interval := some value }))
    else bad s
  | some .quiet =>
    if echo = 242 ∧ 1 ≤ value ∧ value ≤ 64 ∧ 4 * value ≤ (s.station a).interval.getD 0 * 16 then
      enrollNext e .latency 243 (s.onStation a (fun r => { r with quiet := some value }))
    else bad s
  | some .latency =>
    if echo = 243 ∧ 1 ≤ value ∧ value ≤ 1024 then
      enrollCompletes a (s.onStation a (fun r => { r with latency := some value }))
    else bad s

/-- The end of an exchange of the enrollment chain (R72 to R75). -/
def enrollEnds (e : Entry) (r : Ending) (s : State) : State :=
  if (s.station e.station).state = .joining then
    match r with
    | .done echo value => enrollDone e echo value s
    | .refused _ => enrollFails e.station .refused s
    | .unknownAttr => enrollFails e.station .unknownAttr s
    | .stall => enrollFails e.station .stall s
    | .noReply => enrollFails e.station .noReply s
  else s

/-- The end of a DROWSE exchange (R79): DONE makes the ACTIVE station DROWSY, the DROWSE is answered, and a pending host
TRIM fails STATE (R68, R108). -/
def drowseEnds (e : Entry) (r : Ending) (s : State) : State :=
  let a := e.station
  match r with
  | .done _ _ =>
    if (s.station a).state = .active then
      ((s.moveStation a .drowsy .drowse).endOperation a .ok (.address a)).endHostTrim a .state .short
    else s
  | .refused _ | .unknownAttr | .stall | .noReply => s.endOperation a r.status .short

/-- The end of a PROBE exchange (R83). -/
def probeEnds (e : Entry) (r : Ending) (s : State) : State :=
  let a := e.station
  if (s.station a).state = .waking then
    match r with
    | .done echo value =>
      if echo = 240 ∧ (s.station a).identity = some value then
        (s.moveStation a .active .woken).endOperation a .ok (.address a)
      else s.enterFaulted a .wakeFailed .badStation .faulted
    | .refused _ | .unknownAttr | .stall | .noReply => s.enterFaulted a .wakeFailed r.status .faulted
  else s

/-- The outcome goes to the owner of the exchange (R122). -/
def handOff (e : Entry) (r : Ending) (s : State) : State :=
  match e.owner with
  | .call => callEnds e r s
  | .enroll => enrollEnds e r s
  | .drowse => drowseEnds e r s
  | .wake => probeEnds e r s

/-! ## The answer of a command up slot (R117 to R121) -/

/-- An attempt ends as a miss (R121). -/
def attemptMiss (j slot : Nat) (x : Exchange) (s : State) : State :=
  let a := x.entry.station
  let s := s.reportMiss a
  let reached := s.atMissLimit a
  let origin := (s.station a).state
  let s :=
    if x.attempt < Config.attempts then
      s.setExchange j (some { x with attempt := x.attempt + 1, framesLeft := s.engine.setup.window, sendDue := true })
    else handOff x.entry .noReply ((s.reportFault a .noReply slot none).freePair j a)
  if reached then s.missLimit a origin else s

/-- The exchange ends with a REPLY (R117). -/
def exchangeReply (j : Nat) (x : Exchange) (r : Ending) (s : State) : State :=
  handOff x.entry r ((s.reportValid x.entry.station).freePair j x.entry.station)

/-- A WAIT restarts the window, the fifth fails the exchange STALL (R118). -/
def exchangeWait (j : Nat) (x : Exchange) (s : State) : State :=
  let s := s.reportValid x.entry.station
  if x.waits < Config.waits then
    s.setExchange j (some { x with waits := x.waits + 1, framesLeft := s.engine.setup.window })
  else handOff x.entry .stall (s.freePair j x.entry.station)

/-- A SILENT up slot (R119). -/
def exchangeSilent (j slot : Nat) (x : Exchange) (s : State) : State :=
  let left := x.framesLeft - 1
  let x := { x with framesLeft := left }
  if 0 < left then s.setExchange j (some x) else attemptMiss j slot x s

/-- The class of a command up slot, handed to the Call Unit (R18, R117 to R120). -/
def commandAnswer (j slot : Nat) (x : Exchange) (c : UpClass) (s : State) : State :=
  match c with
  | .silent => exchangeSilent j slot x s
  | .check raw => attemptMiss j slot x (s.reportFault x.entry.station .check slot (some raw))
  | .foreign raw => attemptMiss j slot x (s.reportFault x.entry.station .foreign slot (some raw))
  | .valid (.done echo value) => exchangeReply j x (.done echo value) s
  | .valid (.refused _ value) => exchangeReply j x (.refused value) s
  | .valid .unknownAttr => exchangeReply j x .unknownAttr s
  | .valid .wait => exchangeWait j x s
  | .valid (.sample _) => s

/-! ## The grant (R114, R115) -/

/-- The state an order needs (R115). -/
def Entry.needs (e : Entry) : StationState :=
  match e.owner with
  | .call | .drowse => .active
  | .enroll => .joining
  | .wake => .waking

/-- The strict hold on a station (R136). -/
def State.strictHold (a : Nat) (s : State) : Bool :=
  s.engine.setup.mode == .strict && (s.faultCell a).record.isSome

/-- The tests of R115. -/
def State.entryEligible (s : State) (e : Entry) : Bool :=
  (s.station e.station).exchange.isNone && (s.station e.station).state == e.needs
    && (s.account e.station).balance != Config.balanceLimit && !(e.owner == .call && s.strictHold e.station)

/-- One command pair of the setup in force, if free, takes the oldest eligible entry (R114). -/
def grantPair (s : State) (j : Nat) : State :=
  if j ≤ s.engine.setup.command ∧ (s.exchange j).isNone then
    match s.calls.queue.find? s.entryEligible with
    | none => s
    | some e =>
      let s := { s with calls := { s.calls with queue := s.calls.queue.erase e } }
      let s := s.setExchange j
        (some { entry := e, attempt := 1, waits := 0, framesLeft := s.engine.setup.window, sendDue := true })
      let s := s.onStation e.station (fun r => { r with exchange := some (.command j) })
      s.setPhase e.tag .inFlight
  else s

/-- The free command pairs are granted in ascending order (R114). -/
def grantCommands (s : State) : State := pairNumbers.foldl grantPair s

/-! ## The trunk stop (R128) -/

/-- A pair that still holds an exchange is freed, and a CALL fails ABORTED (R128). -/
def stopPair (s : State) (j : Nat) : State :=
  match s.exchange j with
  | none => s
  | some x => (s.freePair j x.entry.station).failCall x.entry .aborted

/-- The Call Unit's part of a completed stop: entries in queue order, then the pairs (R128). -/
def callUnitStop (s : State) : State :=
  let s := s.calls.queue.foldl (fun s e => s.failCall e .aborted) (s.dequeue (fun _ => true))
  pairNumbers.foldl stopPair s

end Sys2Proof.Machine
end

