-- ==== Sys2Proof/Machine/Trims.lean ====
section
/-! DEFINITION. The Trim Scheduler (chapter 5): quiet spans, accrual and breach, the service arbiter, the trim answer. -/

namespace Sys2Proof.Machine

/-! ## Frame-start work (R93) -/

/-- Whether a station's quiet span ends at the start of a frame (R103). -/
def State.quietEnds (s : State) (frame a : Nat) : Bool :=
  (s.station a).state == .trimming && (s.account a).quietEnd == some frame

/-- A quiet span ends (R103): TRIMMING to ACTIVE, then a pending host TRIM is answered OK (R106), then the quiet end and
the acknowledged pair are removed. -/
def quietSpanEnds (a : Nat) (s : State) : State :=
  let s := s.moveStation a .active .trimEnd
  let c := s.account a
  let acknowledged := c.quietEnd.getD 0 - (s.station a).quiet.getD 0
  (s.endHostTrim a .ok (.trim a acknowledged (c.ackPair.getD 0) c.balance)).endQuiet a

/-- Step 1 of R93, stations in ascending order (DESIGN CHOICE, log entry 3). -/
def endQuietSpans (s : State) : State :=
  addresses.foldl (fun s a => if s.quietEnds s.engine.frameNumber a then quietSpanEnds a s else s) s

/-- Whether the station's obligations accrue (R90). -/
def State.accrues (s : State) (a : Nat) : Bool :=
  (s.station a).state == .active || (s.station a).state == .trimming

/-- A breach (R91): claimed from ACTIVE. -/
def breach (a : Nat) (s : State) : State :=
  if (s.station a).state = .active then s.enterFaulted a .breach .faulted .faulted else s

/-- The trim falls due (R90): the countdown is reloaded, and the balance rises or the station breaches. -/
def trimFallsDue (a : Nat) (s : State) : State :=
  let s := s.onAccount a (fun c => { c with countdown := (s.station a).interval.getD 0 * 16 })
  if (s.account a).balance < Config.balanceLimit then s.onAccount a (fun c => { c with balance := c.balance + 1 })
  else breach a s

/-- One station's countdown falls by one (R90). -/
def accrueStation (s : State) (a : Nat) : State :=
  if s.accrues a then
    if (s.account a).countdown - 1 = 0 then trimFallsDue a s
    else s.onAccount a (fun c => { c with countdown := c.countdown - 1 })
  else s

/-- Step 2 of R93, stations in ascending order (DESIGN CHOICE, log entry 3). -/
def accrue (s : State) : State := addresses.foldl accrueStation s

/-! ## The service arbiter (R94 to R97) -/

/-- Whether a stream of the plan that governs the frame names the station (R95). -/
def State.hasLiveStream (s : State) (a : Nat) : Bool :=
  s.plans.active.streams.any (fun id => ((s.stream id).map (·.station)) == some a)

/-- Eligibility for a service pair (R94). -/
def State.trimEligible (s : State) (a : Nat) : Bool :=
  let r := s.station a
  let b := (s.account a).balance
  r.state == .active && r.exchange.isNone &&
    (b == Config.balanceLimit || (r.hostTrim && -Config.balanceLimit < b) || (r.depth : Int) ≤ b
      || (1 ≤ b && !s.hasLiveStream a))

/-- Whether a station goes before another of higher address by the first three keys of R96, or is equal in them. -/
def State.ranksBefore (s : State) (a b : Nat) : Bool :=
  let forced (x : Nat) : Bool := (s.account x).balance == Config.balanceLimit
  if forced a != forced b then forced a
  else if (s.station a).hostTrim != (s.station b).hostTrim then (s.station a).hostTrim
  else (s.account b).balance ≤ (s.account a).balance

/-- A station takes its place among those ranked, all of higher address (R96, key 4). -/
def State.rankInto (s : State) (a : Nat) : List Nat → List Nat
  | [] => [a]
  | b :: rest => if s.ranksBefore a b then a :: b :: rest else b :: s.rankInto a rest

/-- The eligible stations in the order of R96. -/
def State.ranked (s : State) : List Nat := (addresses.filter s.trimEligible).foldr s.rankInto []

/-- A service pair is granted to a station (R96, R97). -/
def grantService (s : State) (grant : Nat × Nat) : State :=
  (s.holdTrim grant.1 (some grant.2)).onStation grant.2 (fun r => { r with exchange := some (.service grant.1) })

/-- Step 3 of R93: pair 1 to the first station, pair 2 to the second, up to S (R96). -/
def grantServices (s : State) : State :=
  ((pairNumbers.take s.engine.setup.service).zip s.ranked).foldl grantService s

/-! ## The trim answer (R99 to R101) -/

/-- DONE in service pair k (R99). -/
def trimDone (k a : Nat) (s : State) : State :=
  let s := s.reportValid a
  let s := s.onAccount a (fun c =>
    { c with balance := c.balance - 1, quietEnd := some (s.engine.frameNumber + (s.station a).quiet.getD 0),
             ackPair := some k })
  if (s.station a).state = .active then s.moveStation a .trimming .trim else s.endQuiet a

/-- REFUSED or UNKNOWN_ATTR (R100): under a host TRIM the refusals count, and the eighth ends it REFUSED (R107). -/
def trimRefused (a : Nat) (s : State) : State :=
  let s := s.reportValid a
  if (s.station a).hostTrim then
    let s := s.onStation a (fun r => { r with refusals := r.refusals + 1 })
    if Config.refusalLimit ≤ (s.station a).refusals then s.endHostTrim a .refused .short else s
  else s

/-- A silent, garbled or foreign answer is a miss (R101); at the miss limit the station becomes FAULTED (R70). -/
def trimMiss (a : Nat) (s : State) : State :=
  let s := s.reportMiss a
  if s.atMissLimit a then s.missLimit a (s.station a).state else s

/-- The class of the up slot of service pair k, which holds a trim exchange for station a (R18, R98 to R101). -/
def trimAnswer (k slot a : Nat) (c : UpClass) (s : State) : State :=
  let s := s.freeService k a
  match c with
  | .silent => trimMiss a s
  | .check raw => trimMiss a (s.reportFault a .check slot (some raw))
  | .foreign raw => trimMiss a (s.reportFault a .foreign slot (some raw))
  | .valid (.done _ _) => trimDone k a s
  | .valid (.refused _ _) => trimRefused a s
  | .valid .unknownAttr => trimRefused a s
  | .valid .wait | .valid (.sample _) => s

end Sys2Proof.Machine
end

