-- ==== Sys2Proof/WellFormed.lean ====
section
/-! DEFINITION. Which terms of Instr name a command the part can meet: a station, pair or slot that exists, a length
byte that is bad, and at least one byte where bytes arrive. -/

namespace Sys2Proof

/-- Station addresses are 1 to 15 (0.7). -/
def goodStation (address : Nat) : Bool := 1 ≤ address && address ≤ 15

/-- Service and command pairs are 1 to 4 (0.7). -/
def goodPair (pair : Nat) : Bool := 1 ≤ pair && pair ≤ 4

/-- Slots other than the beacon's are 1 to 31 (0.7). -/
def goodSlot (slot : Nat) : Bool := 1 ≤ slot && slot ≤ 31

/-- A length byte out of its range (R145). -/
def badLength (byte : Byte) : Bool := byte.toNat < Config.minLength || Config.maxLength < byte.toNat

def Instr.wellFormed : Instr → Bool
  | .receiveFrame bytes => !bytes.isEmpty
  | .trimDue a => goodStation a
  | .quietSpanEnd a => goodStation a
  | .wakeLatencyEnd a => goodStation a
  | .responseWindowExpiry j => goodPair j
  | .serviceDownSlot k _ => goodPair k
  | .serviceUpSlot k _ => goodPair k
  | .commandDownSlot j _ => goodPair j
  | .commandUpSlot j _ => goodPair j
  | .streamDownSlot k _ => goodSlot k
  | .streamUpSlot k _ => goodSlot k
  | .unexpectedWordSlot k _ => goodSlot k
  | .badLengthByte b => badLength b
  | .powerOn _ _ | .rstnLow | .gapLimitExpiry | .badKindFrame | .hello | .status | .grant | .cancel | .restart
  | .trunkSetup | .trunkStart | .trunkStop | .enroll | .drop | .drowse | .wake | .trim | .policy | .call
  | .clearFault | .stationInfo | .openStream | .closeStream | .commit | .discard | .planInfo | .write | .streamInfo
  | .replyStart | .noticeStart | .messageEnd | .resetPoint | .frameStart | .frameEnd | .startingEnd
  | .trunkStopComplete | .frameNumberExhausted | .planSwap | .beaconSlot _ | .syncByteReceived
  | .framingErrorByte _ => true

end Sys2Proof
end

