-- ==== Sys2Proof/Machine/Slots.lean ====
section
/-! DEFINITION. The slots of a frame (1.8 to 1.11): what a down slot sends and reads back, what an up slot expects and
where its class goes. A slot whose event is not commanded passes undisturbed: a down word reads back as sent, an up slot
is not driven (log entry 8). -/

namespace Sys2Proof.Machine

/-- The role a slot has in the frame in progress: a frame that started in STARTING carries the beacon alone (R9, R15). -/
def State.roleNow (s : State) (k : Nat) : Role :=
  match s.engine.frame with
  | none => .free
  | some fr => if fr.full then s.plans.active.role k else if k = 0 then .beacon else .free

/-- A down word is sent and read back; where another word is read back the fault is FOREIGN at address 0 (R14). -/
def drive (slot : Nat) (w : Word) (line : Option Word) (s : State) : State :=
  let s := { s with engine := { s.engine with line := some w } }
  match line with
  | none => s
  | some r => if r = w then s else s.reportFault 0 .foreign slot (some r)

/-- A slot that expects no word: silence has no effect, a word is FOREIGN at address 0 (R19). -/
def unexpected (slot : Nat) (line : Option Word) (s : State) : State :=
  match line with
  | none => s
  | some w => s.reportFault 0 .foreign slot (some w)

/-- The beacon of the frame in progress (R13). -/
def State.beacon (s : State) : Word :=
  beaconWord s.engine.frameNumber ((s.engine.frame.map (·.wakeAddress)).getD 0) s.plans.active.generation

/-- The word of a service pair's down slot: the TRIM order to the granted station, or FILL (R98). -/
def State.serviceWord (s : State) (k : Nat) : Word :=
  match s.trims.held k with
  | some a => orderWord a .trim 0 0
  | none => fillWord 0

/-- The word of a command pair's down slot: the ORDER when send due is set, else FILL (R116). -/
def State.commandWord (s : State) (j : Nat) : Word :=
  match s.exchange j with
  | some x => if x.sendDue then orderWord x.entry.station x.entry.order x.entry.attr x.entry.value else fillWord 0
  | none => fillWord 0

/-- Send due is cleared once the order is sent (R116). -/
def clearSendDue (j : Nat) (s : State) : State :=
  match s.exchange j with
  | some x => s.setExchange j (some { x with sendDue := false })
  | none => s

/-- A DOWN stream slot (R52 to R55): the Stream Unit supplies the word, it is sent and read back,
the SPACE test is made (the place of the read-back's FAULT notice is a DESIGN CHOICE, log entry 4). -/
def streamDown (id slot : Nat) (st : Stream) (line : Option Word) (s : State) : State :=
  if st.state = .live then spaceTest id (drive slot st.downWord line (supplyDown id slot st s))
  else drive slot st.downWord line s

/-- The slot event of a slot of a role (R14, R15, R17, R18, R19). -/
def serveSlot (role : Role) (slot : Nat) (line : Option Word) (s : State) : State :=
  match role with
  | .free => unexpected slot line s
  | .beacon => drive slot s.beacon line s
  | .serviceDown k => drive slot (s.serviceWord k) line s
  | .serviceUp k =>
    match s.trims.held k with
    | some a => trimAnswer k slot a (classify a .reply line) s
    | none => unexpected slot line s
  | .commandDown j => drive slot (s.commandWord j) line (clearSendDue j s)
  | .commandUp j =>
    match s.exchange j with
    | some x => commandAnswer j slot x (classify x.entry.station .replyOrWait line) s
    | none => unexpected slot line s
  | .stream id =>
    match s.stream id with
    | none => unexpected slot line s
    | some st =>
      match st.direction with
      | .down => streamDown id slot st line s
      | .up =>
        if st.state = .live then streamAnswer id slot st (classify st.station .data line) s
        else unexpected slot line s

/-- The slot that comes next moves on, and the line is released until a down word is sent. -/
def beginSlot (slot : Nat) (s : State) : State :=
  { s with engine := { s.engine with frame := s.engine.frame.map (fun fr => { fr with nextSlot := slot + 1 }),
                                     line := none } }

/-- One slot event of the frame in progress. -/
def slotEvent (slot : Nat) (line : Option Word) (s : State) : State :=
  serveSlot (s.roleNow slot) slot line (beginSlot slot s)

/-- So many slots pass undisturbed, from a slot on. -/
def passFrom : Nat → Nat → State → State
  | _, 0, s => s
  | slot, n + 1, s => passFrom (slot + 1) n (slotEvent slot none s)

/-- The slots before a slot that have not come yet pass undisturbed (log entry 8). -/
def passSlots (slot : Nat) (s : State) : State :=
  match s.engine.frame with
  | none => s
  | some fr => passFrom fr.nextSlot (slot - fr.nextSlot) s

/-- A commanded slot event: it comes in a frame in progress whose slots have not passed it, and only where the slot is
what the row says it is (log entry 7). -/
def slotRow (slot : Nat) (isRow : State → Bool) (line : Option Word) (s : State) : Out :=
  whileReleased s fun s =>
    match s.engine.frame with
    | none => s
    | some fr =>
      if fr.nextSlot ≤ slot ∧ isRow (passSlots slot s) then slotEvent slot line (passSlots slot s) else s

/-- Rows with a pair operand name one of the four pairs. -/
def forPair (k : Nat) (o : Out) : Out := if goodPair k then o else .fault .noSuchPair

/-- Rows with a slot operand name one of slots 1 to 31. -/
def forSlot (k : Nat) (o : Out) : Out := if goodSlot k then o else .fault .noSuchSlot

/-- The slots of the pairs (R1). -/
def serviceDownIndex (k : Nat) : Nat := 2 * k - 1
def serviceUpIndex (k : Nat) : Nat := 2 * k
def commandDownIndex (s : State) (j : Nat) : Nat := 2 * s.engine.setup.service + 2 * j - 1
def commandUpIndex (s : State) (j : Nat) : Nat := 2 * s.engine.setup.service + 2 * j

/-- Whether a slot of the active plan belongs to a stream of a direction. -/
def State.isStreamSlot (s : State) (direction : Direction) (role : Role) : Bool :=
  match role with
  | .stream id => ((s.stream id).map (·.direction)) == some direction
  | .free | .beacon | .serviceDown _ | .serviceUp _ | .commandDown _ | .commandUp _ => false

/-- Whether a slot event expects no word and sends none (R15, R19). -/
def State.expectsNone (s : State) (slot : Nat) : Bool :=
  match s.roleNow slot with
  | .free => true
  | .serviceUp k => (s.trims.held k).isNone
  | .commandUp j => (s.exchange j).isNone
  | .stream id =>
    match s.stream id with
    | none => true
    | some st => st.direction == .up && st.state != .live
  | .beacon | .serviceDown _ | .commandDown _ => false

/-- BEACON_SLOT (R13, R14). -/
def execBeaconSlot (line : Option Word) (s : State) : Out := slotRow 0 (fun _ => true) line s

/-- SERVICE_DOWN_SLOT (R98, R14). -/
def execServiceDownSlot (pair : Nat) (line : Option Word) (s : State) : Out :=
  forPair pair (slotRow (serviceDownIndex pair)
    (fun t => t.roleNow (serviceDownIndex pair) == .serviceDown pair) line s)

/-- SERVICE_UP_SLOT (R18, R99 to R101; R19 where the pair holds no trim exchange). -/
def execServiceUpSlot (pair : Nat) (line : Option Word) (s : State) : Out :=
  forPair pair (slotRow (serviceUpIndex pair)
    (fun t => t.plans.active.role (serviceUpIndex pair) == .serviceUp pair) line s)

/-- COMMAND_DOWN_SLOT (R116, R14). -/
def execCommandDownSlot (pair : Nat) (line : Option Word) (s : State) : Out :=
  forPair pair (slotRow (commandDownIndex s pair)
    (fun t => t.roleNow (commandDownIndex s pair) == .commandDown pair) line s)

/-- COMMAND_UP_SLOT (R18, R117 to R120; R19 where the pair is free, R130). -/
def execCommandUpSlot (pair : Nat) (line : Option Word) (s : State) : Out :=
  forPair pair (slotRow (commandUpIndex s pair)
    (fun t => t.plans.active.role (commandUpIndex s pair) == .commandUp pair) line s)

/-- RESPONSE_WINDOW_EXPIRY (R119): the silent up slot at which the frames left of the pair's attempt reach 0. -/
def execResponseWindowExpiry (pair : Nat) (s : State) : Out :=
  forPair pair (slotRow (commandUpIndex s pair)
    (fun t => t.roleNow (commandUpIndex s pair) == .commandUp pair
      && ((t.exchange pair).map (·.framesLeft)) == some 1) none s)

/-- STREAM_DOWN_SLOT (R52 to R55, R14). -/
def execStreamDownSlot (slot : Nat) (line : Option Word) (s : State) : Out :=
  forSlot slot (slotRow slot (fun t => t.isStreamSlot .down (t.roleNow slot)) line s)

/-- STREAM_UP_SLOT (R17, R56 to R58; R19 where the stream is HELD). -/
def execStreamUpSlot (slot : Nat) (line : Option Word) (s : State) : Out :=
  forSlot slot (slotRow slot (fun t => t.isStreamSlot .up (t.plans.active.role slot)) line s)

/-- UNEXPECTED_WORD_SLOT (R19). -/
def execUnexpectedWordSlot (slot : Nat) (word : Word) (s : State) : Out :=
  forSlot slot (slotRow slot (fun t => t.expectsNone slot) (some word) s)

end Sys2Proof.Machine
end

