-- ==== Sys2Proof/Machine/Frames.lean ====
section
/-! DEFINITION. Frame starts and frame ends (1.5 to 1.7, R4). A frame start is one event: the number is assigned, then
the plan swap (R33, R34), the Trim Scheduler's three steps (R93), the grant of the command pairs (R114) and the wake
naming (R81). A frame end is one event: the last slots, the wake countdowns (R81), then the STARTING countdown (R9) or
the completion of a stop (R3, R11); that the wake countdowns come first is the model's choice (log entry 19). The rows PLAN_SWAP, QUIET_SPAN_END and TRIM_DUE are the frame starts, and
STARTING_END, TRUNK_STOP_COMPLETE, FRAME_NUMBER_EXHAUSTED and WAKE_LATENCY_END the frame ends, at which those things
come about (log entry 9). -/

namespace Sys2Proof.Machine

/-! ## Frame start -/

/-- A frame start is due: the trunk makes frames, none is in progress, and a number is left for it (R3, R4, R8). -/
def State.frameDue (s : State) : Bool :=
  s.engine.frame.isNone && (s.engine.trunk == .starting || s.engine.trunk == .running)
    && s.engine.frameNumber < Config.lastFrame

/-- The number of the frame that starts is assigned (R3); the frame is full when it starts in RUNNING (R4, R9). -/
def assignFrame (s : State) : State :=
  { s with engine := { s.engine with
      frameNumber := s.engine.frameNumber + 1
      frame := some { full := s.engine.trunk == .running, nextSlot := 0, wakeAddress := 0 }
      line := none } }

/-- The station at the head of the wake queue is named in the beacon and its countdown set to its W (R81). -/
def nameWake (s : State) : State :=
  match s.stations.wakeQueue with
  | [] => s
  | a :: rest =>
    let s : State := { s with
      stations := { s.stations with wakeQueue := rest }
      engine := { s.engine with frame := s.engine.frame.map (fun fr => { fr with wakeAddress := a }) } }
    s.onStation a (fun r => { r with wakeCountdown := some (r.latency.getD 0) })

/-- The grants and the wake naming of a frame that starts in RUNNING (R93, R114, R81). -/
def grantFrame (s : State) : State := nameWake (grantCommands (grantServices s))

/-- The whole frame start (R4). -/
def frameStart (s : State) : State :=
  let t := accrue (endQuietSpans (planSwap (assignFrame s)))
  if s.engine.trunk = .running then grantFrame t else t

/-- FRAME_START (R4). -/
def execFrameStart (s : State) : Out :=
  whileReleased s fun s => if s.frameDue then frameStart s else s

/-- PLAN_SWAP (R33, R34): the frame start at which the frame number becomes the F of the pending commit. -/
def execPlanSwap (s : State) : Out :=
  whileReleased s fun s =>
    if s.frameDue ∧ s.plans.commit.map (·.target) = some (s.engine.frameNumber + 1) then frameStart s else s

/-- Rows with a station operand name one of stations 1 to 15. -/
def forStation (a : Nat) (o : Out) : Out := if goodStation a then o else .fault .noSuchStation

/-- QUIET_SPAN_END (R103): the frame start at which the frame number becomes the station's quiet end. -/
def execQuietSpanEnd (address : Nat) (s : State) : Out :=
  forStation address (whileReleased s fun s =>
    if s.frameDue ∧ s.quietEnds (s.engine.frameNumber + 1) address then frameStart s else s)

/-- TRIM_DUE (R90, R91): the frame start at which the station's countdown reaches 0. -/
def execTrimDue (address : Nat) (s : State) : Out :=
  forStation address (whileReleased s fun s =>
    if s.frameDue ∧ s.accrues address ∧ (s.account address).countdown - 1 = 0 then frameStart s else s)

/-! ## Frame end -/

/-- A PROBE entry owned by the WAKE's tag joins the queue and the request's phase becomes QUEUED (R81, R112). -/
def queueProbe (a : Nat) (s : State) : State :=
  match (s.station a).operation with
  | none => s
  | some (_, tag) =>
    let e : Entry := { tag := tag, owner := .wake, station := a, order := .probe, attr := 240, value := 0 }
    (s.enqueue e).setPhase tag .queued

/-- One station's wake countdown falls by one; at 0 it is removed and the PROBE is queued (R81). -/
def wakeTick (s : State) (a : Nat) : State :=
  match (s.station a).wakeCountdown with
  | none => s
  | some n =>
    if n - 1 = 0 then queueProbe a (s.onStation a (fun r => { r with wakeCountdown := none }))
    else s.onStation a (fun r => { r with wakeCountdown := some (n - 1) })

/-- Each station not ABSENT becomes ABSENT with reason STOPPED, ascending; the wake queue is emptied (R86). -/
def stopStation (s : State) (a : Nat) : State :=
  if (s.station a).state = .absent then s else s.enterAbsent a .stopped .aborted .aborted

def stationManagerStop (s : State) : State :=
  let s := addresses.foldl stopStation s
  { s with stations := { s.stations with wakeQueue := [] } }

/-- The stop completes (R11): the owners deal with it, then the replies of TRUNK START and TRUNK STOP are queued. The
STARTING countdown is 0 as R10 leaves it (DEDUCED for the end of frame FFFFFFFFFFFFh, log entry 6). -/
def trunkStops (s : State) : State :=
  let s := { s with engine := { s.engine with trunk := .stopped, countdown := 0, frame := none, line := none } }
  let s := streamUnitStop (callUnitStop (stationManagerStop s))
  (s.answerKind .trunkStart none .aborted .short).answerKind .trunkStop none .ok .short

/-- The frame end of a beacon-only frame in STARTING (R9). -/
def startingTick (s : State) : State :=
  let n := s.engine.countdown - 1
  let s := { s with engine := { s.engine with countdown := n } }
  if n = 0 then
    { s with engine := { s.engine with trunk := .running } }.answerKind .trunkStart none .ok .short
  else s

/-- The slots left have passed, the frame is over, and the wake countdowns fall (R4, R81). -/
def closeFrame (s : State) : State :=
  let s := passSlots Config.slots s
  let s := { s with engine := { s.engine with frame := none, line := none } }
  addresses.foldl wakeTick s

/-- What a frame end does to the trunk (R3, R9, R11). -/
def settleTrunk (s : State) : State :=
  match s.engine.trunk with
  | .stopped => s
  | .stopping => trunkStops s
  | .starting => if s.engine.frameNumber = Config.lastFrame then trunkStops s else startingTick s
  | .running => if s.engine.frameNumber = Config.lastFrame then trunkStops s else s

/-- The whole frame end (R4). The wake countdowns fall before a stop completes (DESIGN CHOICE, log entry 19; R11, R81). -/
def frameEnd (s : State) : State := settleTrunk (closeFrame s)

/-- FRAME_END (R4). -/
def execFrameEnd (s : State) : Out :=
  whileReleased s fun s => if s.engine.frame.isSome then frameEnd s else s

/-- STARTING_END (R9): the frame end in STARTING at which the countdown reaches 0. -/
def execStartingEnd (s : State) : Out :=
  whileReleased s fun s =>
    if s.engine.frame.isSome ∧ s.engine.trunk = .starting ∧ s.engine.countdown = 1
      ∧ s.engine.frameNumber ≠ Config.lastFrame then frameEnd s else s

/-- TRUNK_STOP_COMPLETE (R11): the frame end in STOPPING. -/
def execTrunkStopComplete (s : State) : Out :=
  whileReleased s fun s =>
    if s.engine.frame.isSome ∧ s.engine.trunk = .stopping then frameEnd s else s

/-- FRAME_NUMBER_EXHAUSTED (R3): the end of frame FFFFFFFFFFFFh in STARTING or RUNNING. -/
def execFrameNumberExhausted (s : State) : Out :=
  whileReleased s fun s =>
    if s.engine.frame.isSome ∧ s.engine.frameNumber = Config.lastFrame
      ∧ (s.engine.trunk = .starting ∨ s.engine.trunk = .running) then frameEnd s else s

/-- WAKE_LATENCY_END (R81): the frame end at which the station's wake countdown reaches 0. -/
def execWakeLatencyEnd (address : Nat) (s : State) : Out :=
  forStation address (whileReleased s fun s =>
    if s.engine.frame.isSome ∧ (s.station address).wakeCountdown = some 1 then frameEnd s else s)

end Sys2Proof.Machine
end

