-- ==== Sys2Proof/Machine/General.lean ====
section
/-! DEFINITION. The general requests (8.5, 8.6, 9.4): HELLO, STATUS, GRANT, CANCEL, RESTART. -/

namespace Sys2Proof.Machine

/-- HELLO (R156) changes nothing and reports the part. -/
def serveHello (f : ReqFrame) (s : State) : State := s.accept .hello f (.hello s.port.baud)

def execHello (s : State) : Out := takeRequest .hello serveHello s

/-- The items of R157 as they stand at the take. -/
def statusReport (s : State) : StatusReport :=
  { trunk := s.engine.trunk, frameNumber := s.engine.frameNumber, generation := s.plans.active.generation,
    pendingCommit := s.plans.commit.isSome, mode := s.engine.setup.mode, freeBlocks := s.streams.freeBlocks,
    credits := s.notices.credits, intake := s.port.intake.length, table := s.port.table.length,
    replies := s.port.replies.length, commandQueue := s.calls.queue.length, wakeQueue := s.stations.wakeQueue.length,
    notices := s.notices.entries.length, droppedNotices := s.notices.dropped, discardedFrames := s.port.discarded }

/-- STATUS (R157) changes nothing. -/
def serveStatus (f : ReqFrame) (s : State) : State := s.accept .status f (.status (statusReport s))

def execStatus (s : State) : Out := takeRequest .status serveStatus s

/-- GRANT (R173): credits rise, at most to 255. -/
def serveGrant (f : ReqFrame) (s : State) : State :=
  let n := f.param 0
  if 1 ≤ n then
    let credits := min (s.notices.credits + n) Config.maxCredits
    { s with notices := { s.notices with credits := credits } }.accept .grant f (.grant credits)
  else s.refuse .grant f .badParam

def execGrant (s : State) : Out := takeRequest .grant serveGrant s

/-! ## CANCEL (R158) -/

/-- Whether an entry of the command queue is owned by a tag (R111). -/
def State.isQueued (tag : Byte) (s : State) : Bool := s.calls.queue.any (fun e => e.tag == tag)

/-- CANCEL of a COMMIT whose record is still present (R36): none when it is too late. -/
def cancelCommit (tag : Byte) (s : State) : Option State :=
  match s.plans.commit with
  | some c => if c.tag = tag then some ({ s with plans := { s.plans with commit := none } }.answer tag .cancelled .short)
              else none
  | none => none

/-- CANCEL of an ENROLL whose JOIN is still queued (R76). -/
def cancelEnroll (tag : Byte) (a : Nat) (s : State) : Option State :=
  if (s.station a).step = some .join ∧ s.isQueued tag then
    some ((s.dequeue (fun e => e.tag == tag)).enterAbsent a .cancelled .cancelled .cancelled)
  else none

/-- CANCEL of a DROWSE whose entry is still queued (R78). -/
def cancelDrowse (tag : Byte) (a : Nat) (s : State) : Option State :=
  if s.isQueued tag then some ((s.dequeue (fun e => e.tag == tag)).endOperation a .cancelled .short) else none

/-- CANCEL of a WAKE whose station is still in the wake queue (R82). -/
def cancelWake (a : Nat) (s : State) : Option State :=
  if a ∈ s.stations.wakeQueue then
    let s := { s with stations := { s.stations with wakeQueue := s.stations.wakeQueue.filter (· != a) } }
    some ((s.moveStation a .drowsy .cancelled).endOperation a .cancelled .short)
  else none

/-- CANCEL of a host TRIM while the station is ACTIVE and no service pair holds a trim exchange for it (R109). -/
def cancelTrim (a : Nat) (s : State) : Option State :=
  if (s.station a).state = .active ∧ !pairNumbers.any (fun k => s.trims.held k == some a) then
    some (s.endHostTrim a .cancelled .short)
  else none

/-- CANCEL of a CALL whose entry is still queued (R125). -/
def cancelCall (tag : Byte) (s : State) : Option State :=
  match s.calls.queue.find? (fun e => e.tag == tag) with
  | some e => some ((s.dequeue (fun e => e.tag == tag)).failCall e .cancelled)
  | none => none

/-- The owner's rule for an entry with no reply queued and not in flight (R158); none is TOO_LATE. -/
def cancelEntry (e : Outstanding) (s : State) : Option State :=
  match e.kind with
  | .commit => cancelCommit e.tag s
  | .enroll => cancelEnroll e.tag (e.target.getD 0) s
  | .drowse => cancelDrowse e.tag (e.target.getD 0) s
  | .wake => cancelWake (e.target.getD 0) s
  | .trim => cancelTrim (e.target.getD 0) s
  | .call => cancelCall e.tag s
  | .trunkStart | .trunkStop | .hello | .status | .grant | .cancel | .restart | .trunkSetup | .drop | .policy
  | .clearFault | .stationInfo | .openStream | .closeStream | .discard | .planInfo | .write | .streamInfo => none

/-- CANCEL (R158): the reply carries the target tag; a withdrawn request's CANCELLED goes before the CANCEL reply OK. -/
def serveCancel (f : ReqFrame) (s : State) : State :=
  let tag : Byte := f.payload.getD 0 0
  let reply (status : Status) (s : State) : State := s.replyNow ReqKind.cancel.replyCode f.tag status (.cancel tag)
  match s.port.table.find? (fun e => e.tag == tag) with
  | none => reply .notFound s
  | some e =>
    if e.replied || e.phase == .inFlight then reply .tooLate s
    else match cancelEntry e s with
      | some t => reply .ok t
      | none => reply .tooLate s

def execCancel (s : State) : Out := takeRequest .cancel serveCancel s

/-! ## RESTART (R159, R160) -/

/-- The Call Unit gives up a request's entry, or the pair that holds its exchange, with no miss and no fault (R159). -/
def giveUpExchange (tag : Byte) (s : State) (j : Nat) : State :=
  match s.exchange j with
  | some x => if x.entry.tag = tag then s.freePair j x.entry.station else s
  | none => s

/-- The Station Manager removes the station's pending operation and leaves its state (R159). -/
def giveUpOperation (tag : Byte) (s : State) (a : Nat) : State :=
  match (s.station a).operation with
  | some (_, t) => if t = tag then s.onStation a (fun r => { r with operation := none }) else s
  | none => s

/-- Each owner gives up what it holds for a request (R159, R37). -/
def giveUp (tag : Byte) (s : State) : State :=
  let s := s.dequeue (fun e => e.tag == tag)
  let s := pairNumbers.foldl (giveUpExchange tag) s
  let s := addresses.foldl (giveUpOperation tag) s
  match s.plans.commit with
  | some c => if c.tag = tag then { s with plans := { s.plans with commit := none } } else s
  | none => s

/-- What the ABORTED reply of an outstanding request carries: a CALL's takes the full form (R124, R178). -/
def Outstanding.failBody (e : Outstanding) : ReplyBody :=
  match e.data with
  | some d => .call (e.target.getD 0) d.order.code d.attr 0 0
  | none => .short

/-- One entry with no reply queued is answered ABORTED and given up (R159, step 2). -/
def abortOne (s : State) (e : Outstanding) : State :=
  if e.replied then s else (giveUp e.tag s).answer e.tag .aborted e.failBody

/-- RESTART (R159): the intake is closed, every unanswered request is answered ABORTED in the order taken, then the
RESTART reply OK is queued. -/
def serveRestart (f : ReqFrame) (s : State) : State :=
  let s := { s with port := { s.port with restarting := true } }
  (s.port.table.foldl abortOne s).accept .restart f .short

def execRestart (s : State) : Out := takeRequest .restart serveRestart s

end Sys2Proof.Machine
end

