-- ==== Sys2Proof/Machine/Pins.lean ====
section
/-! DEFINITION. The pins: POWER_ON and RSTN_LOW (R5, R162). -/

namespace Sys2Proof.Machine

/-- The baud code of the straps, BDS1 the high bit (10.3). -/
def strapCode (bds1 bds0 : Bool) : BitVec 2 := BitVec.ofNat 2 (2 * bds1.toNat + bds0.toNat)

/-- POWER_ON (R162): RSTN is released; every block takes its power-on state and a START notice with reason POWER is
offered (R174). The baud rate is that of the straps sampled while RSTN was low. It has its effect whether or
not an RSTN_LOW came before it (log entry 15). -/
def execPowerOn (bds1 bds0 : Bool) (s : State) : Out :=
  .next (State.atPowerOn .power (strapCode bds1 bds0) s.pending)

/-- What RSTN going low leaves of the host port (R162): no message, no request, no reply, no frame; the receiver ignores
HRX. -/
def HostPort.cutOff (p : HostPort) : HostPort :=
  { p with rstnLow := true, receiver := { kept := [], gapPassed := false }, intake := [], table := [], replies := [],
           transmitter := .idle }

/-- RSTN_LOW (R162): the port is cut off; the frame in progress is cut off and the trunk line released (R5). -/
def execRstnLow (s : State) : Out :=
  .next { s with port := s.port.cutOff, engine := { s.engine with frame := none, line := none } }

end Sys2Proof.Machine
end

