-- ==== Sys2Proof/Machine/Receiver.lean ====
section
/-! DEFINITION. The receiver of the host port (8.1): HUNTING, candidate frames, the CRC test, the gap limit and the
rescan. One scan serves the live bytes and the rescan alike: the bytes kept from the candidate's sync byte on, with the
new bytes behind them, are taken from the first as though they were arriving (R148). -/

namespace Sys2Proof.Machine

/-- Whether a byte may not stand in a candidate: the gap before it passed the limit or its stop bit was not high (R147,
R148). -/
def RxByte.flawed (b : RxByte) : Bool := b.gapBefore || b.framingError

/-- Whether a byte begins a candidate in HUNTING (R145); a gap before it does not count (R147). -/
def RxByte.isSync (b : RxByte) : Bool := b.byte == Config.syncByte && !b.framingError

/-- What the bytes after a sync byte make of the candidate. -/
inductive Verdict where
  | failed
  | unfinished
  /-- a good frame that took `length` bytes after the sync byte -/
  | good (length : Nat) (frame : ReqFrame)
deriving DecidableEq, Repr

/-- A candidate that has all its bytes: the length byte, and the L + 2 bytes that follow it (R145, R146). -/
def judge (length : Byte) (bytes : List Byte) : Verdict :=
  let l := length.toNat
  if crcBytes (length :: bytes.take l) = bytes.drop l then
    .good (l + 3) { kind := bytes.getD 0 0, tag := bytes.getD 1 0, flags := bytes.getD 2 0,
                    payload := (bytes.take l).drop 3 }
  else .failed

/-- The candidate whose sync byte these bytes follow (R145 to R147). At the end of the bytes it goes on with those still
to arrive, unless the line has been idle past the limit (R148). -/
def examine (idle : Bool) : List RxByte → Verdict
  | [] => if idle then .failed else .unfinished
  | length :: more =>
    if length.flawed || length.byte.toNat < Config.minLength || Config.maxLength < length.byte.toNat then .failed
    else
      let body := more.take (length.byte.toNat + 2)
      if body.any RxByte.flawed then .failed
      else if body.length < length.byte.toNat + 2 then if idle then .failed else .unfinished
      else judge length.byte (body.map (·.byte))

/-- What a scan leaves: the candidate being assembled, the good frames found, and how many candidates failed. -/
structure Scan where
  kept : List RxByte
  frames : List ReqFrame
  failed : Nat
deriving DecidableEq, Repr

/-- The receiver takes bytes in order from HUNTING (R145, R148); `skip` bytes still belong to a good frame. -/
def scan (idle : Bool) : Nat → List RxByte → Scan
  | _, [] => { kept := [], frames := [], failed := 0 }
  | n + 1, _ :: rest => scan idle n rest
  | 0, b :: rest =>
    if b.isSync then
      match examine idle rest with
      | .unfinished => { kept := b :: rest, frames := [], failed := 0 }
      | .failed => let r := scan idle 0 rest; { r with failed := r.failed + 1 }
      | .good length frame => let r := scan idle length rest; { r with frames := frame :: r.frames }
    else scan idle 0 rest

/-- The discarded-frame count rises, saturating at 255 (R149). -/
def HostPort.countDiscard (p : HostPort) : HostPort := { p with discarded := satSucc Config.byteCount p.discarded }

/-- A good frame joins the intake buffer, or is discarded and counted when the buffer is full (R146). -/
def HostPort.place (p : HostPort) (f : ReqFrame) : HostPort :=
  if p.intake.length < Config.intake then { p with intake := p.intake ++ [f] } else p.countDiscard

/-- The candidates that failed are counted (R148), the good frames placed in their order (R146). Frames that one command's
scan finds are placed together and the intake takes none between them, so those beyond its room are discarded and counted
(DESIGN CHOICE, log entry 18; R148, R150). -/
def HostPort.settle (r : Scan) (p : HostPort) : HostPort :=
  let p := r.frames.foldl HostPort.place p
  (List.range r.failed).foldl (fun p _ => p.countDiscard) p

/-- The bytes as the receiver records them; only the first can have had an over-limit gap before it (R147). -/
def Receiver.record (r : Receiver) (framingError : Bool) : List Byte → List RxByte
  | [] => []
  | b :: rest =>
    { byte := b, gapBefore := r.gapPassed, framingError := framingError }
      :: rest.map (fun c => { byte := c, gapBefore := false, framingError := framingError })

/-- Bytes arrive, one after another within the gap limit (R145 to R149). -/
def HostPort.receive (framingError : Bool) (bytes : List Byte) (p : HostPort) : HostPort :=
  let r := scan false 0 (p.receiver.kept ++ p.receiver.record framingError bytes)
  { p with receiver := { kept := r.kept, gapPassed := p.receiver.gapPassed && bytes.isEmpty } }.settle r

/-- The gap after the last byte passes the limit: the candidate fails and its bytes are scanned again (R147, R148). -/
def HostPort.gapLimit (p : HostPort) : HostPort :=
  let r := scan true 0 p.receiver.kept
  { p with receiver := { kept := r.kept, gapPassed := true } }.settle r

/-- RECEIVE_FRAME (R146): the bytes that complete a candidate frame arrive, and the candidate is tested. -/
def execReceiveFrame (bytes : List Byte) (s : State) : Out :=
  whileReleased s fun s => { s with port := s.port.receive false bytes }

/-- GAP_LIMIT_EXPIRY (R147). -/
def execGapLimitExpiry (s : State) : Out :=
  whileReleased s fun s => { s with port := s.port.gapLimit }

/-- SYNC_BYTE_RECEIVED (R145): a C3h byte; in HUNTING it begins a candidate, in a candidate it is a byte like others. -/
def execSyncByteReceived (s : State) : Out :=
  whileReleased s fun s => { s with port := s.port.receive false [Config.syncByte] }

/-- BAD_LENGTH_BYTE (R145): where the length stands, the candidate fails at this byte and is scanned again (R148). -/
def execBadLengthByte (byte : Byte) (s : State) : Out :=
  whileReleased s fun s => { s with port := s.port.receive false [byte] }

/-- FRAMING_ERROR_BYTE (R147): it fails the candidate at that byte, or is dropped in HUNTING. -/
def execFramingErrorByte (byte : Byte) (s : State) : Out :=
  whileReleased s fun s => { s with port := s.port.receive true [byte] }

end Sys2Proof.Machine
end

