-- ==== Sys2Proof/Machine/StationRequests.lean ====
section
/-! DEFINITION. The station requests: ENROLL, DROP, DROWSE, WAKE, POLICY, STATION INFO (chapter 4), TRIM (5.5), CALL (6.4)
and CLEAR FAULT (7.5). -/

namespace Sys2Proof.Machine

/-! ## ENROLL (R71) -/

/-- The record of a station that enters JOINING: the chain begins, the values are removed, the miss count is 0 (R71). -/
def Station.beginEnroll (tag : Byte) (r : Station) : Station :=
  { r with operation := some (.enroll, tag), step := some .join, identity := none, interval := none, quiet := none,
           latency := none, misses := 0 }

/-- The effects of an accepted ENROLL, in the steps of R71; the account starts afresh (R89). -/
def beginEnroll (a : Nat) (f : ReqFrame) (s : State) : State :=
  let s := (s.moveStation a .joining .enroll).onStation a (Station.beginEnroll f.tag)
  let s := s.setAccount a {}
  let s := s.enqueue { tag := f.tag, owner := .enroll, station := a, order := .join, attr := 0, value := 0 }
  s.enter (outstanding .enroll f (some a) .queued)

/-- ENROLL: the tests of R71. -/
def serveEnroll (f : ReqFrame) (s : State) : State :=
  let a := f.param 0
  if !goodStation a then s.refuse .enroll f .badParam
  else if (s.station a).state = .absent ∨ (s.station a).state = .faulted then beginEnroll a f s
  else s.refuse .enroll f .state

def execEnroll (s : State) : Out := takeRequest .enroll serveEnroll s

/-! ## DROP (R77) -/

/-- DROP: a station not ABSENT becomes ABSENT; the reply follows those of the work it ends. -/
def serveDrop (f : ReqFrame) (s : State) : State :=
  let a := f.param 0
  if !goodStation a then s.refuse .drop f .badParam
  else if (s.station a).state = .absent then s.refuse .drop f .state
  else (s.enterAbsent a .dropped .dropped .dropped).accept .drop f (.drop a (s.station a).state)

def execDrop (s : State) : Out := takeRequest .drop serveDrop s

/-! ## DROWSE (R78) and WAKE (R80) -/

/-- The third test of R78 fails: a DROWSE is pending or the host-trim flag is set. -/
def Station.restBusy (r : Station) : Bool := (r.operation.map (·.1)) == some .drowse || r.hostTrim

/-- The effects of an accepted DROWSE (R78). -/
def beginDrowse (a : Nat) (f : ReqFrame) (s : State) : State :=
  let s := s.onStation a (fun r => { r with operation := some (.drowse, f.tag) })
  let s := s.enqueue { tag := f.tag, owner := .drowse, station := a, order := .drowse, attr := 0, value := 0 }
  s.enter (outstanding .drowse f (some a) .queued)

/-- DROWSE: the tests of R78 in their order. -/
def serveDrowse (f : ReqFrame) (s : State) : State :=
  let a := f.param 0
  if !goodStation a then s.refuse .drowse f .badParam
  else if (s.station a).state ≠ .active then s.refuse .drowse f .state
  else if (s.station a).restBusy then s.refuse .drowse f .inProgress
  else beginDrowse a f s

def execDrowse (s : State) : Out := takeRequest .drowse serveDrowse s

/-- The effects of an accepted WAKE, in the steps of R80. -/
def beginWake (a : Nat) (f : ReqFrame) (s : State) : State :=
  let s := (s.moveStation a .waking .wake).onStation a (fun r => { r with operation := some (.wake, f.tag) })
  let s := { s with stations := { s.stations with wakeQueue := s.stations.wakeQueue ++ [a] } }
  s.enter (outstanding .wake f (some a) .awaitingFrame)

/-- WAKE: the tests of R80. -/
def serveWake (f : ReqFrame) (s : State) : State :=
  let a := f.param 0
  if !goodStation a then s.refuse .wake f .badParam
  else if (s.station a).state ≠ .drowsy then s.refuse .wake f .state
  else beginWake a f s

def execWake (s : State) : Out := takeRequest .wake serveWake s

/-! ## TRIM (R105) and POLICY (R85) -/

/-- TRIM: the tests of R105 in their order; an accepted TRIM sets the flag and the refusal count to 0. -/
def serveTrim (f : ReqFrame) (s : State) : State :=
  let a := f.param 0
  if !goodStation a then s.refuse .trim f .badParam
  else if (s.station a).state ≠ .active then s.refuse .trim f .state
  else if (s.station a).hostTrim then s.refuse .trim f .inProgress
  else if (s.account a).balance ≤ -Config.balanceLimit then s.refuse .trim f .aheadLimit
  else
    (s.onStation a (fun r => { r with hostTrim := true, refusals := 0 })).enter
      (outstanding .trim f (some a) .awaitingFrame)

def execTrim (s : State) : Out := takeRequest .trim serveTrim s

/-- POLICY (R85): the defer depth of a station not ABSENT is replaced. -/
def servePolicy (f : ReqFrame) (s : State) : State :=
  let a := f.param 0
  let depth := f.param 1
  if !(goodStation a && 1 ≤ depth && depth ≤ 8) then s.refuse .policy f .badParam
  else if (s.station a).state = .absent then s.refuse .policy f .state
  else (s.onStation a (fun r => { r with depth := depth })).accept .policy f (.policy a depth)

def execPolicy (s : State) : Out := takeRequest .policy servePolicy s

/-! ## CALL (R123, R124) -/

/-- The operation of a CALL: order code 2 is GET, 3 is PUT (10.4). -/
def callOrder (operation : Nat) : Option Order :=
  if operation = 2 then some .get else if operation = 3 then some .put else none

/-- Tests 1 and 2 of R123: the ranges, and that a PUT does not name an attribute of enrollment. -/
def callInRange (a : Nat) (order : Order) (attr value : Nat) : Bool :=
  goodStation a && value ≤ 4095 && !(order == .put && 240 ≤ attr && attr ≤ 243)

/-- The states of test 3 of R123. -/
def StationState.takesCalls : StationState → Bool
  | .active | .trimming | .drowsy | .waking => true
  | .absent | .joining | .faulted => false

/-- An accepted CALL joins the command queue; the value of a GET is sent as 0 (R112, R123, R124). -/
def beginCall (f : ReqFrame) (order : Order) (s : State) : State :=
  let value := if order = .put then f.param16 3 else 0
  let s := s.enqueue
    { tag := f.tag, owner := .call, station := f.param 0, order := order, attr := f.param 2, value := value }
  s.enter { outstanding .call f (some (f.param 0)) .queued with
            data := some { order := order, attr := f.param 2, value := f.param16 3 } }

/-- CALL: the five tests of R123 in their order. -/
def serveCall (f : ReqFrame) (s : State) : State :=
  let a := f.param 0
  match callOrder (f.param 1) with
  | none => s.refuse .call f .badParam
  | some order =>
    if !callInRange a order (f.param 2) (f.param16 3) then s.refuse .call f .badParam
    else if !(s.station a).state.takesCalls then s.refuse .call f .state
    else if s.engine.setup.mode = .strict ∧ (s.faultCell a).record.isSome then s.refuse .call f .faultHeld
    else if Config.commandQueue ≤ s.calls.queue.length then s.refuse .call f .queueFull
    else beginCall f order s

def execCall (s : State) : Out := takeRequest .call serveCall s

/-! ## CLEAR FAULT (R140) and STATION INFO (R87) -/

/-- CLEAR FAULT: the reply carries the record and count as they stood, then both are removed. -/
def serveClearFault (f : ReqFrame) (s : State) : State :=
  let a := f.param 0
  if 15 < a then s.refuse .clearFault f .badParam
  else (s.setFault a {}).accept .clearFault f (.clearFault a (s.faultCell a))

def execClearFault (s : State) : Out := takeRequest .clearFault serveClearFault s

/-- The order of the exchange that holds a station: TRIM in a service pair, the entry's in a command pair (R87). -/
def State.exchangeOrder (s : State) (a : Nat) : Option Order :=
  match (s.station a).exchange with
  | none => none
  | some (.service _) => some .trim
  | some (.command j) => (s.exchange j).map (·.entry.order)

/-- The station's place in the wake queue, from 1, or 0 (R87, 10.5). -/
def StationManager.wakePosition (m : StationManager) (a : Nat) : Nat :=
  if a ∈ m.wakeQueue then m.wakeQueue.idxOf a + 1 else 0

/-- The station items of R87; the queued CALL entries are those of owner kind CALL (DEDUCED, log entry 5). -/
def stationReport (a : Nat) (s : State) : StationReport :=
  { station := s.station a, account := s.account a, exchangeOrder := s.exchangeOrder a,
    wakePosition := s.stations.wakePosition a,
    queuedCalls := s.calls.queue.countP (fun e => e.station == a && e.owner == .call) }

/-- STATION INFO (R87) changes nothing; for address 0 every station item is absent. -/
def serveStationInfo (f : ReqFrame) (s : State) : State :=
  let a := f.param 0
  if 15 < a then s.refuse .stationInfo f .badParam
  else s.accept .stationInfo f
    (.stationInfo a (if a = 0 then none else some (stationReport a s)) (s.faultCell a))

def execStationInfo (s : State) : Out := takeRequest .stationInfo serveStationInfo s

end Sys2Proof.Machine
end

