-- ==== Sys2Proof/Machine/Transmitter.lean ====
section
/-! DEFINITION. The transmitter (8.4, 9.3) and the reset point of a full restart (8.6). A message stands in the
transmitter whole, from its start to its end. -/

namespace Sys2Proof.Machine

/-- REPLY_START (R155, R149, R175): the idle transmitter starts the oldest reply, which stays in the queue to its end. -/
def execReplyStart (s : State) : Out :=
  whileReleased s fun s =>
    match s.port.transmitter, s.port.replies with
    | .idle, r :: _ =>
      let message := hostFrame r.kind r.tag (BitVec.ofNat 8 s.port.discarded) r.payload
      { s with port := { s.port with transmitter := .reply message, discarded := 0 } }
    | .idle, [] | .reply _, _ | .notice _, _ => s

/-- The stream a marker names. -/
def Notice.marker : Notice → Option Nat
  | .data id => some id
  | .space id => some id
  | .start .. | .station .. | .fault .. | .streamFault .. | .streamClosed .. => none

/-- The queue after its head has been started: steps 1 to 4 of R168. -/
def NoticeQueue.started (n : Notice) (rest : List Notice) (q : NoticeQueue) : NoticeQueue :=
  let q := match n.marker with
    | some id => q.mark id false
    | none => q
  { q with entries := rest, credits := q.credits - 1, nextSequence := q.nextSequence + 1, dropped := 0 }

/-- The message of a notice: its tag is the sequence number, its payload begins with the dropped-notice count, and a
marker reports its stream as it stands (R168 to R171, R179). -/
def noticeMessage (n : Notice) (s : State) : List Byte :=
  hostFrame n.kind s.notices.nextSequence (BitVec.ofNat 8 s.port.discarded)
    (byte s.notices.dropped ++ n.bytes (n.marker.bind s.stream))

/-- A notice is started, in the steps of R168; a DATA marker then takes its words (R60, R169). -/
def startNotice (n : Notice) (rest : List Notice) (s : State) : State :=
  let t : State := { s with
    notices := s.notices.started n rest
    port := { s.port with transmitter := .notice (noticeMessage n s), discarded := 0 } }
  match n with
  | .data id => takeData id t
  | .start .. | .station .. | .fault .. | .streamFault .. | .streamClosed .. | .space .. => t

/-- Whether the idle transmitter chooses a notice (R155): no reply waits, credits are above 0, and no full restart runs
(R160, R164). -/
def State.choosesNotice (s : State) : Bool :=
  s.port.transmitter == .idle && s.port.replies.isEmpty && 0 < s.notices.credits && !s.port.restarting

/-- NOTICE_START (R168). -/
def execNoticeStart (s : State) : Out :=
  whileReleased s fun s =>
    match s.notices.entries with
    | n :: rest => if s.choosesNotice then startNotice n rest s else s
    | [] => s

/-- The reply that has been sent leaves its queue, and the entry of a deferred one leaves the table (R153, R154). -/
def HostPort.replySent (p : HostPort) : HostPort :=
  match p.replies with
  | [] => p
  | r :: rest => { p with replies := rest, table := if r.deferred then p.table.filter (fun e => e.tag != r.tag)
                                                     else p.table }

/-- MESSAGE_END (R153, R154, R155): the last byte has left the port and the transmitter is idle. -/
def execMessageEnd (s : State) : Out :=
  whileReleased s fun s =>
    match s.port.transmitter with
    | .idle => s
    | .notice _ => { s with port := { s.port with transmitter := .idle } }
    | .reply _ => { s with port := { s.port.replySent with transmitter := .idle } }

/-- RESET_POINT (R160, R161): the reply queue is empty and the transmitter has ended its message; every block takes its
power-on state, the baud rate is kept and a START notice with reason RESTART is offered. -/
def execResetPoint (s : State) : Out :=
  whileReleased s fun s =>
    if s.port.restarting ∧ s.port.replies = [] ∧ s.port.transmitter = .idle then
      State.atPowerOn .restart s.port.baud s.pending
    else s

end Sys2Proof.Machine
end

