-- ==== Sys2Proof/Machine/TrunkRequests.lean ====
section
/-! DEFINITION. The trunk requests (1.5 to 1.7): TRUNK SETUP, TRUNK START, TRUNK STOP. -/

namespace Sys2Proof.Machine

/-! ## TRUNK SETUP (R6, R7) -/

/-- The ranges of R6 for the five values of a TRUNK SETUP. -/
def setupInRange (service command window missLimit mode : Nat) : Bool :=
  1 ≤ service && service ≤ 4 && 1 ≤ command && command ≤ 4 && 1 ≤ window && window ≤ 16
    && 1 ≤ missLimit && missLimit ≤ 15 && mode ≤ 1

/-- The five values a TRUNK SETUP carries (10.4); a fault mode of 0 is STRICT (10.3). -/
def ReqFrame.setup (f : ReqFrame) : Setup :=
  { service := f.param 0, command := f.param 1, window := f.param 2, missLimit := f.param 3,
    mode := if f.param 4 = 0 then .strict else .lenient }

/-- A plan whose roles are rewritten for new pair counts, its generation kept (R7). -/
def Plan.rewrite (service command : Nat) (p : Plan) : Plan := { p with slots := emptySlots service command }

/-- The values are replaced and both plans rewritten; a pending commit stays (R7). -/
def applySetup (u : Setup) (s : State) : State :=
  { s with
    engine := { s.engine with setup := u }
    plans := { s.plans with active := s.plans.active.rewrite u.service u.command
                            staged := s.plans.staged.rewrite u.service u.command } }

/-- TRUNK SETUP: the three tests of R6 in their order, then R7. -/
def serveTrunkSetup (f : ReqFrame) (s : State) : State :=
  if !setupInRange (f.param 0) (f.param 1) (f.param 2) (f.param 3) (f.param 4) then s.refuse .trunkSetup f .badParam
  else if s.engine.trunk ≠ .stopped then s.refuse .trunkSetup f .state
  else if s.plans.active.streams ≠ [] ∨ s.plans.staged.streams ≠ [] then s.refuse .trunkSetup f .planNotEmpty
  else (applySetup f.setup s).accept .trunkSetup f (.setup f.setup)

def execTrunkSetup (s : State) : Out := takeRequest .trunkSetup serveTrunkSetup s

/-! ## TRUNK START (R8) and TRUNK STOP (R10) -/

/-- TRUNK START (R8): STARTING with a countdown of 16; the first frame start is due at once. -/
def serveTrunkStart (f : ReqFrame) (s : State) : State :=
  if s.engine.trunk = .stopped ∧ s.engine.frameNumber < Config.lastFrame then
    { s with engine := { s.engine with trunk := .starting, countdown := Config.startFrames } }.enter
      (outstanding .trunkStart f none .awaitingFrame)
  else s.refuse .trunkStart f .state

def execTrunkStart (s : State) : Out := takeRequest .trunkStart serveTrunkStart s

/-- The state becomes STOPPING and the STARTING countdown 0 (R10). -/
def beginStop (s : State) : State := { s with engine := { s.engine with trunk := .stopping, countdown := 0 } }

/-- TRUNK STOP (R10): between two frames the next frame start has no interval before it (R4), so it comes first (log
entry 10). -/
def serveTrunkStop (f : ReqFrame) (s : State) : State :=
  if s.engine.trunk = .starting ∨ s.engine.trunk = .running then
    (beginStop (if s.frameDue then frameStart s else s)).enter (outstanding .trunkStop f none .awaitingFrame)
  else s.refuse .trunkStop f .state

def execTrunkStop (s : State) : Out := takeRequest .trunkStop serveTrunkStop s

end Sys2Proof.Machine
end

