-- ==== Sys2Proof/Machine/Dispatch.lean ====
section
/-! DEFINITION. The effect of each command, one arm for each row of the table. -/

namespace Sys2Proof.Machine

def exec (i : Instr) (s : State) : Host.Outcome State Fault Refusal :=
  match i with
  | .powerOn bds1 bds0 => Sys2Proof.Machine.execPowerOn bds1 bds0 s
  | .rstnLow => Sys2Proof.Machine.execRstnLow s
  | .receiveFrame bytes => Sys2Proof.Machine.execReceiveFrame bytes s
  | .gapLimitExpiry => Sys2Proof.Machine.execGapLimitExpiry s
  | .badKindFrame => Sys2Proof.Machine.execBadKindFrame s
  | .hello => Sys2Proof.Machine.execHello s
  | .status => Sys2Proof.Machine.execStatus s
  | .grant => Sys2Proof.Machine.execGrant s
  | .cancel => Sys2Proof.Machine.execCancel s
  | .restart => Sys2Proof.Machine.execRestart s
  | .trunkSetup => Sys2Proof.Machine.execTrunkSetup s
  | .trunkStart => Sys2Proof.Machine.execTrunkStart s
  | .trunkStop => Sys2Proof.Machine.execTrunkStop s
  | .enroll => Sys2Proof.Machine.execEnroll s
  | .drop => Sys2Proof.Machine.execDrop s
  | .drowse => Sys2Proof.Machine.execDrowse s
  | .wake => Sys2Proof.Machine.execWake s
  | .trim => Sys2Proof.Machine.execTrim s
  | .policy => Sys2Proof.Machine.execPolicy s
  | .call => Sys2Proof.Machine.execCall s
  | .clearFault => Sys2Proof.Machine.execClearFault s
  | .stationInfo => Sys2Proof.Machine.execStationInfo s
  | .openStream => Sys2Proof.Machine.execOpenStream s
  | .closeStream => Sys2Proof.Machine.execCloseStream s
  | .commit => Sys2Proof.Machine.execCommit s
  | .discard => Sys2Proof.Machine.execDiscard s
  | .planInfo => Sys2Proof.Machine.execPlanInfo s
  | .write => Sys2Proof.Machine.execWrite s
  | .streamInfo => Sys2Proof.Machine.execStreamInfo s
  | .replyStart => Sys2Proof.Machine.execReplyStart s
  | .noticeStart => Sys2Proof.Machine.execNoticeStart s
  | .messageEnd => Sys2Proof.Machine.execMessageEnd s
  | .resetPoint => Sys2Proof.Machine.execResetPoint s
  | .frameStart => Sys2Proof.Machine.execFrameStart s
  | .frameEnd => Sys2Proof.Machine.execFrameEnd s
  | .startingEnd => Sys2Proof.Machine.execStartingEnd s
  | .trunkStopComplete => Sys2Proof.Machine.execTrunkStopComplete s
  | .frameNumberExhausted => Sys2Proof.Machine.execFrameNumberExhausted s
  | .planSwap => Sys2Proof.Machine.execPlanSwap s
  | .trimDue address => Sys2Proof.Machine.execTrimDue address s
  | .quietSpanEnd address => Sys2Proof.Machine.execQuietSpanEnd address s
  | .wakeLatencyEnd address => Sys2Proof.Machine.execWakeLatencyEnd address s
  | .responseWindowExpiry pair => Sys2Proof.Machine.execResponseWindowExpiry pair s
  | .beaconSlot line => Sys2Proof.Machine.execBeaconSlot line s
  | .serviceDownSlot pair line => Sys2Proof.Machine.execServiceDownSlot pair line s
  | .serviceUpSlot pair line => Sys2Proof.Machine.execServiceUpSlot pair line s
  | .commandDownSlot pair line => Sys2Proof.Machine.execCommandDownSlot pair line s
  | .commandUpSlot pair line => Sys2Proof.Machine.execCommandUpSlot pair line s
  | .streamDownSlot slot line => Sys2Proof.Machine.execStreamDownSlot slot line s
  | .streamUpSlot slot line => Sys2Proof.Machine.execStreamUpSlot slot line s
  | .unexpectedWordSlot slot word => Sys2Proof.Machine.execUnexpectedWordSlot slot word s
  | .syncByteReceived => Sys2Proof.Machine.execSyncByteReceived s
  | .badLengthByte byte => Sys2Proof.Machine.execBadLengthByte byte s
  | .framingErrorByte byte => Sys2Proof.Machine.execFramingErrorByte byte s

end Sys2Proof.Machine
end

