-- ==== Sys2Proof/Safety.lean ====
section
/-! DEFINITION. The words the statements are written in (a request that is taken, its reply, the rules of a fault
report), and the invariants of the machine, each over the state alone. -/

namespace Sys2Proof.Machine

/-! ## Words of the statements -/

/-- The command that takes a request of a kind (R150). -/
def ReqKind.command : ReqKind → Instr
  | .hello => .hello
  | .status => .status
  | .grant => .grant
  | .cancel => .cancel
  | .restart => .restart
  | .trunkSetup => .trunkSetup
  | .trunkStart => .trunkStart
  | .trunkStop => .trunkStop
  | .enroll => .enroll
  | .drop => .drop
  | .drowse => .drowse
  | .wake => .wake
  | .trim => .trim
  | .policy => .policy
  | .call => .call
  | .clearFault => .clearFault
  | .stationInfo => .stationInfo
  | .openStream => .openStream
  | .closeStream => .closeStream
  | .commit => .commit
  | .discard => .discard
  | .planInfo => .planInfo
  | .write => .write
  | .streamInfo => .streamInfo

/-- The intake is open and f is its oldest frame (R150, R162). -/
def State.offersFrame (s : State) (f : ReqFrame) : Prop :=
  s.port.rstnLow = false ∧ s.port.restarting = false ∧ s.port.immediate < Config.immediateReplies ∧
  s.port.intake.head? = some f

/-- The intake takes f as a request of kind k, and f passes the port's own tests (R150, R151). -/
def State.takesRequest (s : State) (k : ReqKind) (f : ReqFrame) : Prop :=
  s.offersFrame f ∧ f.kind = k.code ∧ k.allowsLength f.payload.length = true ∧
  (k = .restart ∨ f.tag ∉ s.port.table.map (·.tag)) ∧ (k.isDeferred = true → s.port.table.length < Config.table)

/-- The oldest frame has left the intake buffer and an immediate reply to it has joined the reply queue (R152). -/
def State.replied (s : State) (kind tag : Byte) (st : Status) (body : ReplyBody) : State :=
  { s with port := { s.port with
      intake := s.port.intake.tail
      replies := s.port.replies ++ [{ kind := kind, tag := tag, status := st, body := body, deferred := false }] } }

/-- As `replied`, with status OK. -/
def State.repliedOk (s : State) (k : ReqKind) (f : ReqFrame) (body : ReplyBody) : State :=
  s.replied k.replyCode f.tag .ok body

/-- As `replied`, for a refusal. -/
def State.refused (s : State) (k : ReqKind) (f : ReqFrame) (st : Status) : State :=
  s.replied k.replyCode f.tag st (refusalBody k f)

/-- The oldest frame has left the intake buffer and its request has entered the outstanding table (R152, R153). -/
def State.entered (s : State) (k : ReqKind) (f : ReqFrame) (target : Option Nat) (phase : Phase)
    (data : Option CallData) : State :=
  { s with port := { s.port with
      intake := s.port.intake.tail
      table := s.port.table ++
        [{ tag := f.tag, kind := k, target := target, phase := phase, replied := false, data := data }] } }

/-- Between s and t one fault of a kind was reported at an address, and none elsewhere (R132, R133). -/
def faultReported (a : Nat) (kind : FaultKind) (slot : Nat) (raw : Option Word) (s t : State) : Prop :=
  (t.faultCell a).count = satSucc Config.wordCount (s.faultCell a).count ∧
  (t.faultCell a).record = some ((s.faultCell a).record.getD
    { kind := kind, frame := s.engine.frameNumber, slot := slot, raw := raw }) ∧
  ∀ b, b ≠ a → t.faultCell b = s.faultCell b

/-- A frame start is due: RSTN is released and the trunk makes frames (R3, R4). -/
def State.startsFrame (s : State) : Prop :=
  s.port.rstnLow = false ∧ s.engine.frame = none ∧ (s.engine.trunk = .starting ∨ s.engine.trunk = .running) ∧
  s.engine.frameNumber < Config.lastFrame

/-- A slot of the frame in progress has not passed; the slots before it pass undisturbed first (R4, log entry 8). -/
def State.reachesSlot (s : State) (slot : Nat) : Prop :=
  s.port.rstnLow = false ∧ ∃ fr, s.engine.frame = some fr ∧ fr.nextSlot ≤ slot

/-- The up slot of command pair j comes, in state u, and the pair holds exchange x with station a (R15, R18). -/
def State.upSlotComes (s u : State) (j a slot : Nat) (x : Exchange) : Prop :=
  1 ≤ j ∧ j ≤ 4 ∧ 1 ≤ a ∧ a ≤ 15 ∧ slot = 2 * s.engine.setup.service + 2 * j ∧ s.reachesSlot slot ∧
  u = passSlots slot s ∧ u.roleNow slot = .commandUp j ∧ u.plans.active.role slot = .commandUp j ∧
  u.exchange j = some x ∧ x.entry.station = a

/-- A word is a REPLY of station a with a status: 1 DONE, 2 REFUSED, 3 UNKNOWN_ATTR (R16, 10.7). -/
def isReply (a status : Nat) (w : Word) : Prop :=
  oddParity w = false ∧ wordAddress w = a ∧ wordKind w = 5 ∧ payloadHigh (wordPayload w) = status

/-- A word is a WAIT of station a (R16, 10.7). -/
def isWait (a : Nat) (w : Word) : Prop := oddParity w = false ∧ wordAddress w = a ∧ wordKind w = 6

/-- A word of even parity that is no answer of station a to an order (R16). -/
def isForeign (a : Nat) (w : Word) : Prop :=
  oddParity w = false ∧ ¬ isWait a w ∧ ∀ status, 1 ≤ status → status ≤ 3 → ¬ isReply a status w

/-- A slot event ends an attempt of exchange x with station a as a miss: the window runs out in silence, or the word is
CHECK or FOREIGN (R119 to R121). -/
def Exchange.misses (a : Nat) (x : Exchange) (line : Option Word) : Prop :=
  (line = none ∧ x.framesLeft = 1) ∨ ∃ w, line = some w ∧ (oddParity w = true ∨ isForeign a w)

/-- A slot event ends exchange x with station a without a DONE, with the status it has for a request of the Station
Manager: REFUSED, UNKNOWN_ATTR, the fifth WAIT, the third miss (R75, R79, R83, R117, R118, R121). -/
def Exchange.failsWith (a : Nat) (x : Exchange) (line : Option Word) (st : Status) : Prop :=
  (∃ w, line = some w ∧ isReply a 2 w ∧ st = .refused) ∨ (∃ w, line = some w ∧ isReply a 3 w ∧ st = .unknownAttr) ∨
  (∃ w, line = some w ∧ isWait a w ∧ 4 ≤ x.waits ∧ st = .stall) ∨ (x.misses a line ∧ 3 ≤ x.attempt ∧ st = .noReply)

/-- The miss that comes now is not the last before the limit in force (R70). -/
def State.belowMissLimit (u : State) (a : Nat) : Prop := (u.station a).misses + 1 < u.engine.setup.missLimit

/-- A stream of the active plan in the state that its station requires, ACTIVE or not (R47). -/
def Stream.follow (active : Bool) (st : Stream) : Stream :=
  if st.state = .staged then st
  else if active = false then { st with state := .held }
  else if st.state = .held then
    { st with state := .live, underrunRun := false, gapRun := false, overrunRun := false }
  else st

/-- Between s and t the streams of station a followed it to the state it has in t and no other stream changed; with
room in the notice queue for three notices and every marker, an UP stream that became HELD with words has its DATA marker
waiting (R47, R59). -/
def streamsFollow (a : Nat) (s t : State) : Prop :=
  (∀ id, t.stream id =
    (s.stream id).map (fun st => if st.station = a then st.follow ((t.station a).state == .active) else st)) ∧
  (s.notices.entries.length ≤ 5 → ∀ id st, s.stream id = some st → st.station = a → st.state = .live →
    (t.station a).state ≠ .active → st.direction = .up → st.buffer ≠ [] → t.notices.marked id = true)

/-- Between s and t the STATION notice of a change of station a was offered; two FAULT notices may have been before it,
so it joins the queue where three places are free (R66, R134). -/
def stationTold (a : Nat) (new : StationState) (reason : Reason) (s t : State) : Prop :=
  s.notices.entries.length ≤ 29 →
    Notice.station a (s.station a).state new reason s.engine.frameNumber ∈ t.notices.entries

/-! ## The replies of the work a station's change ends (R68) -/

/-- The kind of the request that owns an entry of the command queue (R111). -/
def OwnerKind.request : OwnerKind → ReqKind
  | .call => .call
  | .enroll => .enroll
  | .drowse => .drowse
  | .wake => .wake

/-- The pending operation that stands beside an entry, none beside a CALL's (R71, R78, R81). -/
def OwnerKind.operation : OwnerKind → Option Operation
  | .call => none
  | .enroll => some .enroll
  | .drowse => some .drowse
  | .wake => some .wake

/-- The kind of the request of a pending operation (R64). -/
def Operation.request : Operation → ReqKind
  | .enroll => .enroll
  | .drowse => .drowse
  | .wake => .wake

/-- The states a station can have while an operation is pending (R64). -/
def Operation.states : Operation → List StationState
  | .enroll => [.joining]
  | .drowse => [.active, .trimming]
  | .wake => [.waking]

/-- A deferred reply (R154). -/
def deferredReply (k : ReqKind) (tag : Byte) (st : Status) (body : ReplyBody) : Reply :=
  { kind := k.replyCode, tag := tag, status := st, body := body, deferred := true }

/-- The reply of the station's pending operation, if there is one (R67, step 4). -/
def State.operationReply (s : State) (a : Nat) (st : Status) (body : ReplyBody) : List Reply :=
  (s.station a).operation.toList.map (fun o => deferredReply o.1.request o.2 st body)

/-- The reply of the station's pending host TRIM, if there is one (R106, R108). -/
def State.hostTrimReply (s : State) (a : Nat) (st : Status) : List Reply :=
  if (s.station a).hostTrim then
    (s.port.waiting .trim (some a)).toList.map (fun tag => deferredReply .trim tag st .short)
  else []

/-- The failure reply of a CALL's entry (R124, R178); an entry of another owner gives none. -/
def Entry.failReply (st : Status) (e : Entry) : List Reply :=
  if e.owner = .call then [deferredReply .call e.tag st (.call e.station e.order.code e.attr 0 0)] else []

/-- The entry of the exchange that a command pair holds with the station (R69). -/
def State.entryInFlight (s : State) (a : Nat) : Option Entry :=
  (s.station a).exchange.bind (fun
    | .service _ => none
    | .command j => (s.exchange j).map (·.entry))

/-- The failure replies of the station's queued CALLs, in queue order (R127). -/
def State.queueReplies (s : State) (a : Nat) (st : Status) : List Reply :=
  (s.calls.queue.filter (fun e => e.station == a)).flatMap (Entry.failReply st)

/-- The replies of all the work that a station's change to FAULTED or ABSENT ends, in the order of R68. -/
def State.workReplies (s : State) (a : Nat) (operation work : Status) : List Reply :=
  s.operationReply a operation .short ++ s.hostTrimReply a work ++
    (s.entryInFlight a).toList.flatMap (Entry.failReply work) ++ s.queueReplies a work

/-! ## The grant of the command pairs (R114, R115) -/

/-- The state of the station that an entry's order needs (R115). -/
def OwnerKind.needs : OwnerKind → StationState
  | .call | .drowse => .active
  | .enroll => .joining
  | .wake => .waking

/-- The four tests of R115. -/
def State.mayGrant (u : State) (e : Entry) : Prop :=
  (u.station e.station).exchange = none ∧ (u.station e.station).state = e.owner.needs ∧
  (u.account e.station).balance ≠ 8 ∧
  ¬ (e.owner = .call ∧ u.engine.setup.mode = .strict ∧ (u.faultCell e.station).record ≠ none)

/-- An entry is not eligible for pair j: it fails a test of R115 in u, where the grants begin, or between u and t a
pair below j was granted to its station (R114, step 3). -/
def passedOver (u t : State) (j : Nat) (e : Entry) : Prop :=
  ¬ u.mayGrant e ∨ ∃ i x, 1 ≤ i ∧ i < j ∧ u.exchange i = none ∧ t.exchange i = some x ∧ x.entry.station = e.station

/-- A frame start up to the grants: the number, the plan swap, the quiet spans that end, accrual (R4, R93). -/
def State.beforeGrants (s : State) : State := accrue (endQuietSpans (planSwap (assignFrame s)))

/-- The same state but for the receiver and the discarded-frame count. -/
def State.atReceiver (s : State) (kept : List RxByte) (gapPassed : Bool) (discarded : Nat) : State :=
  { s with port := { s.port with receiver := { kept := kept, gapPassed := gapPassed }, discarded := discarded } }

/-- A frame start up to the accrual of station a: the number, the plan swap, the quiet spans that end, and the accrual of
the stations before it, in ascending order (R4, R90, R93, log entry 3). -/
def State.beforeAccrual (s : State) (a : Nat) : State :=
  (addresses.filter (· < a)).foldl accrueStation (endQuietSpans (planSwap (assignFrame s)))

/-! ## The plan swap (R33, R49) -/

/-- The closing streams: of the active plan's stream set and not of the staged plan's (R33). -/
def State.closing (s : State) : List Nat := s.plans.active.streams.filter (fun id => !s.plans.staged.streams.contains id)

/-- The STREAM_CLOSED notice of a stream that is removed at a frame start (R49). -/
def Stream.closedNotice (id frame : Nat) (st : Stream) : Notice :=
  .streamClosed id st.station st.direction st.buffer.length frame st.underruns st.overruns st.gaps

/-! ## The receiver (R145 to R148) -/

/-- The bytes after a sync byte show that the candidate it began fails: a bad length, a gap over the limit or a framing
error among its bytes, a CRC that differs, or the line idle past the limit before the candidate is complete. -/
def candidateFails (idle : Bool) (after : List RxByte) : Prop :=
  (after = [] ∧ idle = true) ∨
  ∃ length more body, after = length :: more ∧ body = more.take (length.byte.toNat + 2) ∧
    (length.flawed = true ∨ length.byte.toNat < 3 ∨ 203 < length.byte.toNat ∨ (∃ b ∈ body, b.flawed = true) ∨
     (body.length < length.byte.toNat + 2 ∧ idle = true) ∨
     (body.length = length.byte.toNat + 2 ∧
       crcBytes (length.byte :: (body.take length.byte.toNat).map (·.byte)) ≠
         (body.drop length.byte.toNat).map (·.byte)))

/-! ## Invariants -/

/-- The pool's free blocks and the blocks held by all existing streams (R42). -/
def StreamUnit.total (u : StreamUnit) : Nat :=
  u.freeBlocks + (streamIds.map (fun id => ((u.get id).map (·.blocks)).getD 0)).sum

/-- R42: free blocks plus blocks held are always 64. -/
def PoolWhole (s : State) : Prop := s.streams.total = Config.poolBlocks

/-- R40: no buffer holds more words than its capacity. -/
def BuffersFit (s : State) : Prop := ∀ id ∈ streamIds, ∀ st ∈ s.stream id, st.level ≤ st.capacity

/-- R131, R132: a count saturates, and is 0 exactly while no record is present. -/
def FaultsCounted (s : State) : Prop :=
  ∀ a ∈ List.range 16, (s.faultCell a).count ≤ Config.wordCount ∧
    ((s.faultCell a).record = none ↔ (s.faultCell a).count = 0)

/-- R163, R172: the bounds of the notice queue, and the marker index tells of each stream whether the queue holds its
marker, of which there is at most one. -/
def MarkersIndexed (s : State) : Prop :=
  s.notices.entries.length ≤ Config.noticeQueue ∧ s.notices.credits ≤ Config.maxCredits ∧
  s.notices.dropped ≤ Config.byteCount ∧
  (∀ id ∈ streamIds,
    s.notices.entries.countP (Notice.isMarkerOf id) = if s.notices.marked id then 1 else 0) ∧
  ∀ n ∈ s.notices.entries, ∀ id ∈ n.marker, id ∈ streamIds

/-- The tags of the deferred replies that wait (R154). -/
def HostPort.deferredTags (p : HostPort) : List Byte := (p.replies.filter (·.deferred)).map (·.tag)

/-- R146, R149, R150, R153, R154: the bounds of the port's buffers, tags of the table differ, and the table's entries
with the reply-queued mark are exactly those whose deferred reply waits, once each. -/
def PortBounded (s : State) : Prop :=
  s.port.intake.length ≤ Config.intake ∧ s.port.discarded ≤ Config.byteCount ∧
  s.port.table.length ≤ Config.table ∧ (s.port.table.map (·.tag)).Nodup ∧
  s.port.immediate ≤ Config.immediateReplies ∧ s.port.deferredTags.Nodup ∧
  (∀ e ∈ s.port.table, (e.replied = true ↔ e.tag ∈ s.port.deferredTags)) ∧
  ∀ t ∈ s.port.deferredTags, t ∈ s.port.table.map (·.tag)

/-- R3, R5, R6, R8, R9, R11: the ranges of the Frame Engine, and when it counts down or has a frame in progress. -/
def EngineSound (s : State) : Prop :=
  s.engine.frameNumber ≤ Config.lastFrame ∧
  setupInRange s.engine.setup.service s.engine.setup.command s.engine.setup.window s.engine.setup.missLimit
    s.engine.setup.mode.code = true ∧
  (if s.engine.trunk = .starting then 1 ≤ s.engine.countdown ∧ s.engine.countdown ≤ Config.startFrames
   else s.engine.countdown = 0) ∧
  (s.engine.trunk = .stopped → s.engine.frame = none) ∧
  (s.port.rstnLow = false → s.engine.frame = none → s.engine.trunk ≠ .stopping ∧
    (s.engine.trunk ≠ .stopped → s.engine.frameNumber < Config.lastFrame)) ∧
  (∀ fr ∈ s.engine.frame, fr.nextSlot ≤ Config.slots ∧ fr.wakeAddress ≤ 15) ∧
  ∀ a ∈ s.stations.wakeQueue, goodStation a = true

/-- R69, R88, R99: a pair that holds an exchange is named by its station's exchange-in-flight field, so a station has at
most one; every balance lies between -8 and 8, and that of a station under a trim exchange above -8. -/
def ExchangesAgree (s : State) : Prop :=
  (∀ k ∈ pairNumbers, ∀ a ∈ s.trims.held k,
    (s.station a).exchange = some (.service k) ∧ -Config.balanceLimit < (s.account a).balance) ∧
  (∀ j ∈ pairNumbers, ∀ x ∈ s.exchange j, (s.station x.entry.station).exchange = some (.command j)) ∧
  ∀ a ∈ addresses, -Config.balanceLimit ≤ (s.account a).balance ∧ (s.account a).balance ≤ Config.balanceLimit

/-- R20: whether a plan holds exactly some of the streams, at their slots, beside the roles of R1. -/
def Plan.holds (p : Plan) (u : StreamUnit) (v : Setup) (has : Stream → Bool) : Prop :=
  p.streams.Pairwise (· < ·) ∧ (∀ id ∈ p.streams, id ∈ streamIds) ∧
  (∀ id ∈ streamIds, (id ∈ p.streams ↔ ((u.get id).map has).getD false = true)) ∧
  ∀ k ∈ List.range Config.slots,
    (∀ id ∈ streamIds, (p.role k = .stream id ↔
      ((u.get id).map (fun st => has st && st.slotList.contains k)).getD false = true)) ∧
    (p.role k = pairRole v.service v.command k ∨ ∃ id ∈ streamIds, p.role k = .stream id)

/-- R20, R23, R40: the active plan holds the LIVE and HELD streams, the staged plan those not closing, at slots after
the pairs; the generations are equal; a STAGED stream is not closing. -/
def PlansAgree (s : State) : Prop :=
  s.plans.active.holds s.streams s.engine.setup Stream.inActive ∧
  s.plans.staged.holds s.streams s.engine.setup (fun st => !st.closing) ∧
  s.plans.active.generation = s.plans.staged.generation ∧
  ∀ id ∈ streamIds, ∀ st ∈ s.stream id,
    (st.closing = true → st.state ≠ .staged) ∧
    ∀ k ∈ st.slotList, 2 * s.engine.setup.service + 2 * s.engine.setup.command < k ∧ k < Config.slots

/-- R40, R47: a stream of the active plan is LIVE exactly while its station is ACTIVE. -/
def StreamsFollowStations (s : State) : Prop :=
  ∀ id ∈ streamIds, ∀ st ∈ s.stream id, st.state ≠ .staged →
    (st.state = .live ↔ (s.station st.station).state = .active)

/-- The entries of the command queue and those whose exchange a command pair holds (R111, R113). -/
def State.entries (s : State) : List Entry := s.calls.queue ++ (pairNumbers.filterMap s.exchange).map (·.entry)

/-- An outstanding request of a tag, kind and target has no reply queued (R153). -/
def HostPort.awaits (p : HostPort) (tag : Byte) (kind : ReqKind) (target : Option Nat) : Prop :=
  ∃ o ∈ p.table, o.tag = tag ∧ o.kind = kind ∧ o.target = target ∧ o.replied = false

/-- R111, R113: the entries carry different tags; each belongs to an unanswered request for its station, and beside it
stands that request's pending operation, for a CALL a station that takes calls. -/
def EntriesOwned (s : State) : Prop :=
  (s.entries.map (·.tag)).Nodup ∧
  ∀ e ∈ s.entries, goodStation e.station = true ∧ s.port.awaits e.tag e.owner.request (some e.station) ∧
    (∀ o ∈ e.owner.operation, (s.station e.station).operation = some (o, e.tag)) ∧
    (e.owner = .call → (s.station e.station).state.takesCalls = true)

/-- Whether a station's exchange-in-flight field is true of a command pair; of a service pair, whether the station is
ACTIVE (R69, R97). -/
def State.backs (s : State) (a : Nat) : PairRef → Bool
  | .service _ => (s.station a).state == .active
  | .command j => (s.exchange j).any (fun x => x.entry.station == a)

/-- R69, R97, R115: the station of a command pair's exchange is in the state its order needs, that of a trim exchange
ACTIVE; an exchange-in-flight field that names a command pair names one that holds the station's exchange, and one that
names a service pair stands in ACTIVE alone. -/
def ExchangesOwned (s : State) : Prop :=
  (∀ j ∈ pairNumbers, ∀ x ∈ s.exchange j, (s.station x.entry.station).state = x.entry.owner.needs) ∧
  (∀ k ∈ pairNumbers, ∀ a ∈ s.trims.held k, (s.station a).state = .active) ∧
  ∀ a ∈ addresses, ∀ p ∈ (s.station a).exchange, s.backs a p = true

/-- R64, R80, R81: a pending operation belongs to an unanswered request and to a state of the station; the wake queue
names WAKING stations, once each; a station in it or with a wake countdown has no PROBE yet. -/
def OperationsOwned (s : State) : Prop :=
  (∀ a ∈ addresses, ∀ o ∈ (s.station a).operation,
    s.port.awaits o.2 o.1.request (some a) ∧ (s.station a).state ∈ o.1.states) ∧
  s.stations.wakeQueue.Nodup ∧
  (∀ a ∈ s.stations.wakeQueue, goodStation a = true ∧ (s.station a).state = .waking ∧
    (s.station a).wakeCountdown = none ∧ ∀ e ∈ s.entries, e.owner = .wake → e.station ≠ a) ∧
  ∀ a ∈ addresses, (s.station a).wakeCountdown ≠ none →
    (s.station a).state = .waking ∧ ∀ e ∈ s.entries, e.owner = .wake → e.station ≠ a

/-- R105, R108, R159: the host-trim flag stands in ACTIVE and TRIMMING alone, for one unanswered TRIM unless a full
restart has answered it. -/
def HostTrimsOwned (s : State) : Prop :=
  (∀ a ∈ addresses, (s.station a).hostTrim = true →
    ((s.station a).state = .active ∨ (s.station a).state = .trimming) ∧
    (s.port.restarting = true ∨ ∃ o ∈ s.port.table, o.kind = .trim ∧ o.target = some a ∧ o.replied = false)) ∧
  ∀ o ∈ s.port.table, ∀ p ∈ s.port.table, o.kind = .trim → p.kind = .trim → o.replied = false → p.replied = false →
    o.target = p.target → o.tag = p.tag

/-- R153: an unanswered CALL has its entry, an unanswered ENROLL, DROWSE or WAKE its pending operation, an unanswered
TRIM its flag; and a pending commit belongs to an unanswered COMMIT (R32). -/
def RequestsHeld (s : State) : Prop :=
  (∀ o ∈ s.port.table, o.replied = false →
    (o.kind = .call → ∃ e ∈ s.entries, e.tag = o.tag) ∧
    (∀ p ∈ [Operation.enroll, .drowse, .wake], o.kind = p.request →
      ∃ a ∈ addresses, o.target = some a ∧ (s.station a).operation = some (p, o.tag)) ∧
    (o.kind = .trim → ∃ a ∈ addresses, o.target = some a ∧ (s.station a).hostTrim = true)) ∧
  ∀ c ∈ s.plans.commit, s.port.awaits c.tag .commit none

/-- The command queue, the command pairs, the pending operations, the wake queue and the host trims are those of the
unanswered requests of the outstanding table. While RSTN is low the table is lost and nothing is claimed (R162). -/
def WorkOwned (s : State) : Prop :=
  s.port.rstnLow = false →
    EntriesOwned s ∧ ExchangesOwned s ∧ OperationsOwned s ∧ HostTrimsOwned s ∧ RequestsHeld s

end Sys2Proof.Machine
end

