-- ==== Sys2Proof/Certificates/Slice0/Obligations.lean ====
section
/-! DEFINITION. The statements for the provers. Titles, tiers and the rules they rest on stand in OBLIGATIONS.json. -/

section

open Sys2Proof Sys2Proof.Machine

/-! ## The step, the pins and the port's own tests -/

/-- A step is the command at the front of the queue, on the state with the queue's rest. An empty queue idles: the
model's choice, log entry 11. -/
def Obligations.StepRunsFrontCommand : Prop :=
  (∀ (c : Instr) (rest : List Instr) (s : State), s.pending = c :: rest →
    step s = exec c { s with pending := rest }) ∧
  ∀ s : State, s.pending = [] → step s = .next s

/-- Every well-formed command answers a next state and leaves the queue of those that wait. All of it is the model's
choice: a command whose event cannot come about answers the state as it is (log entry 7), POWER_ON and RESET_POINT keep
the queue (log entry 11), an operand that names no station, pair or slot of the part faults (log entry 2). -/
def Obligations.WellFormedCommandsComplete : Prop :=
  (∀ (c : Instr) (s : State), c.wellFormed = true → ∃ t, exec c s = .next t ∧ t.pending = s.pending) ∧
  ∀ (s : State) (n : Nat) (line : Option Word) (w : Word),
    (¬ (1 ≤ n ∧ n ≤ 15) →
      exec (.trimDue n) s = .fault .noSuchStation ∧ exec (.quietSpanEnd n) s = .fault .noSuchStation ∧
      exec (.wakeLatencyEnd n) s = .fault .noSuchStation) ∧
    (¬ (1 ≤ n ∧ n ≤ 4) →
      exec (.responseWindowExpiry n) s = .fault .noSuchPair ∧ exec (.serviceDownSlot n line) s = .fault .noSuchPair ∧
      exec (.serviceUpSlot n line) s = .fault .noSuchPair ∧ exec (.commandDownSlot n line) s = .fault .noSuchPair ∧
      exec (.commandUpSlot n line) s = .fault .noSuchPair) ∧
    (¬ (1 ≤ n ∧ n ≤ 31) →
      exec (.streamDownSlot n line) s = .fault .noSuchSlot ∧ exec (.streamUpSlot n line) s = .fault .noSuchSlot ∧
      exec (.unexpectedWordSlot n w) s = .fault .noSuchSlot)

/-- POWER_ON brings every block to its power-on state (R5, R21, R41, R65, R88, R111, R113, R131, R161, R162, R164, R174).
The model's choices: it does so from any state (log entry 15), the queue of commands stays (log entry 11), the receiver
begins with no gap passed (log entry 12), and State.reset is that state with both straps low (log entry 1). -/
def Obligations.PowerOnTakesPowerOnState : Prop :=
  (∀ (bds1 bds0 : Bool) (s : State), ∃ t, exec (.powerOn bds1 bds0) s = .next t ∧
    t.engine = { trunk := .stopped, frameNumber := 0, countdown := 0,
                 setup := { service := 1, command := 2, window := 4, missLimit := 4, mode := .strict },
                 frame := none, line := none } ∧
    (∀ p ∈ [t.plans.active, t.plans.staged], p.generation = 0 ∧ p.streams = [] ∧ p.role 0 = .beacon ∧
      p.role 1 = .serviceDown 1 ∧ p.role 2 = .serviceUp 1 ∧ p.role 3 = .commandDown 1 ∧ p.role 4 = .commandUp 1 ∧
      p.role 5 = .commandDown 2 ∧ p.role 6 = .commandUp 2 ∧ ∀ k, 7 ≤ k → p.role k = .free) ∧
    t.plans.commit = none ∧ t.streams.freeBlocks = 64 ∧ (∀ id, t.stream id = none) ∧
    (∀ a, t.station a = { state := .absent, identity := none, interval := none, quiet := none, latency := none,
                          depth := 2, misses := 0, exchange := none, operation := none, step := none,
                          wakeCountdown := none, hostTrim := false, refusals := 0 }) ∧
    t.stations.wakeQueue = [] ∧
    (∀ a, t.account a = { balance := 0, countdown := 0, quietEnd := none, ackPair := none }) ∧
    (∀ k, t.trims.held k = none) ∧ t.calls.queue = [] ∧ (∀ j, t.exchange j = none) ∧
    (∀ a, t.faultCell a = { record := none, count := 0 }) ∧
    t.notices.entries = [.start .power (BitVec.ofNat 2 (2 * bds1.toNat + bds0.toNat))] ∧ t.notices.credits = 8 ∧
    t.notices.nextSequence = 0 ∧ t.notices.dropped = 0 ∧ (∀ id, t.notices.marked id = false) ∧
    t.port = { rstnLow := false, baud := BitVec.ofNat 2 (2 * bds1.toNat + bds0.toNat),
               receiver := { kept := [], gapPassed := false }, discarded := 0, intake := [], table := [],
               replies := [], transmitter := .idle, restarting := false } ∧
    t.pending = s.pending) ∧
  exec (.powerOn false false) State.reset = .next State.reset

/-- RSTN going low cuts off the message being sent and the frame in progress and loses every request, reply and intake
frame (R5, R162); that no other command but POWER_ON has an effect while it is low is the model's choice (log entry 15).
-/
def Obligations.RstnLowCutsOff : Prop :=
  (∀ s : State, exec .rstnLow s = .next { s with
    port := { s.port with rstnLow := true, receiver := { kept := [], gapPassed := false }, intake := [], table := [],
                          replies := [], transmitter := .idle }
    engine := { s.engine with frame := none, line := none } }) ∧
  ∀ (c : Instr) (s : State), s.port.rstnLow = true → c.wellFormed = true → c ≠ .rstnLow →
    (∀ bds1 bds0, c ≠ .powerOn bds1 bds0) → exec c s = .next s

/-- The port's own tests 2 to 4, in their order, for every request kind (R150, R151). A closed intake takes nothing (R150,
R159); that a take commanded then answers the state as it is is the model's choice (log entry 7). -/
def Obligations.PortTestsInOrder : Prop :=
  ∀ (k : ReqKind) (f : ReqFrame) (s : State), f.kind = k.code → s.port.rstnLow = false →
    s.port.intake.head? = some f →
    ((4 ≤ s.port.immediate ∨ s.port.restarting = true) → exec k.command s = .next s) ∧
    (s.offersFrame f →
      (k.allowsLength f.payload.length = false → exec k.command s = .next (s.refused k f .badLength)) ∧
      (k.allowsLength f.payload.length = true → k ≠ .restart → f.tag ∈ s.port.table.map (·.tag) →
        exec k.command s = .next (s.refused k f .tagInUse)) ∧
      (k.allowsLength f.payload.length = true → f.tag ∉ s.port.table.map (·.tag) → k.isDeferred = true →
        8 ≤ s.port.table.length → exec k.command s = .next (s.refused k f .tableFull)))

/-- A frame of no request kind is answered with kind 40h, status BAD_KIND and its kind byte (R151, R176, R178). -/
def Obligations.BadKindFrameIsAnswered : Prop :=
  ∀ (f : ReqFrame) (s : State), s.offersFrame f → (∀ k : ReqKind, k.code ≠ f.kind) →
    exec .badKindFrame s = .next (s.replied 0x40#8 f.tag .badKind (.badKind f.kind)) ∧
    Reply.payload { kind := 0x40#8, tag := f.tag, status := .badKind, body := .badKind f.kind, deferred := false } =
      [0x01#8, f.kind]

/-! ## General requests -/

/-- HELLO, STATUS and PLAN INFO are answered OK at the take and change nothing (R156, R157, R39). -/
def Obligations.QueriesReportAndChangeNothing : Prop :=
  ∀ (f : ReqFrame) (s : State),
    (s.takesRequest .hello f →
      exec .hello s = .next (s.repliedOk .hello f (.hello s.port.baud)) ∧
      (ReplyBody.hello s.port.baud).bytes =
        [0x01, 0x0C, 0x8F, 0x01, BitVec.ofNat 8 s.port.baud.toNat, 15, 24, 64, 16, 8, 4, 12, 16, 15, 32, 200, 64]) ∧
    (s.takesRequest .status f →
      exec .status s = .next (s.repliedOk .status f (.status
        { trunk := s.engine.trunk, frameNumber := s.engine.frameNumber, generation := s.plans.active.generation,
          pendingCommit := s.plans.commit.isSome, mode := s.engine.setup.mode, freeBlocks := s.streams.freeBlocks,
          credits := s.notices.credits, intake := s.port.intake.tail.length, table := s.port.table.length,
          replies := s.port.replies.length, commandQueue := s.calls.queue.length,
          wakeQueue := s.stations.wakeQueue.length, notices := s.notices.entries.length,
          droppedNotices := s.notices.dropped, discardedFrames := s.port.discarded }))) ∧
    (s.takesRequest .planInfo f → ∀ plan : Plan,
      plan = (if f.param 0 = 0 then s.plans.active else s.plans.staged) →
      exec .planInfo s = .next (s.repliedOk .planInfo f (.planInfo
        { isStaged := f.param 0 != 0, plan := plan, service := s.engine.setup.service,
          command := s.engine.setup.command, commit := s.plans.commit,
          streams := plan.streams.filterMap (fun id => (s.stream id).map (fun st => (id, st))) })))

/-- GRANT (R173). -/
def Obligations.GrantAddsCredits : Prop :=
  ∀ (f : ReqFrame) (s : State), s.takesRequest .grant f →
    exec .grant s = .next (if f.param 0 = 0 then s.refused .grant f .badParam
      else { s.repliedOk .grant f (.grant (min (s.notices.credits + f.param 0) 255)) with
             notices := { s.notices with credits := min (s.notices.credits + f.param 0) 255 } })

/-- CANCEL of a tag that is not outstanding, of one whose reply is queued, of one in flight, and of a TRUNK START or
TRUNK STOP (R158, R12). -/
def Obligations.CancelAnswersNotFoundOrTooLate : Prop :=
  ∀ (f : ReqFrame) (s : State) (tag : Byte), s.takesRequest .cancel f → f.payload = [tag] →
    (s.port.table.find? (fun e => e.tag == tag) = none →
      exec .cancel s = .next (s.replied 0x44#8 f.tag .notFound (.cancel tag))) ∧
    ∀ e, s.port.table.find? (fun e => e.tag == tag) = some e →
      (e.replied = true ∨ e.phase = .inFlight ∨ e.kind = .trunkStart ∨ e.kind = .trunkStop) →
      exec .cancel s = .next (s.replied 0x44#8 f.tag .tooLate (.cancel tag))

/-- CANCEL withdraws a CALL or DROWSE whose entry is still queued (R125, R78), a COMMIT whose record is still present
(R36), an ENROLL whose JOIN is still queued (R76), a WAKE whose station is still in the wake queue (R82) and a TRIM of an
ACTIVE station that no service pair holds (R109): the withdrawn request's reply CANCELLED goes before the CANCEL reply OK
(R158). In each owner's other cases CANCEL is answered TOO_LATE. -/
def Obligations.CancelWithdrawsCallOrCommit : Prop :=
  ∀ (f : ReqFrame) (s : State) (tag : Byte) (e : Outstanding), s.takesRequest .cancel f → f.payload = [tag] →
    s.port.table.find? (fun e => e.tag == tag) = some e → e.replied = false → e.phase ≠ .inFlight →
    ∀ (after : ReplyBody → HostPort) (rest : CallUnit) (queued tooLate : Prop),
      (∀ body, after body = { s.port with
        intake := s.port.intake.tail
        table := s.port.table.map (fun e => if e.tag = tag then { e with replied := true } else e)
        replies := s.port.replies ++
          [{ kind := e.kind.replyCode, tag := tag, status := .cancelled, body := body, deferred := true },
           { kind := 0x44#8, tag := f.tag, status := .ok, body := .cancel tag, deferred := false }] }) →
      rest = { s.calls with queue := s.calls.queue.filter (fun q => q.tag != tag) } →
      queued = (∃ q ∈ s.calls.queue, q.tag = tag) →
      tooLate = (exec .cancel s = .next (s.replied 0x44#8 f.tag .tooLate (.cancel tag))) →
      (∀ q, e.kind = .call → s.calls.queue.find? (fun q => q.tag == tag) = some q → q.owner = .call →
        exec .cancel s = .next { s with calls := rest, port := after (.call q.station q.order.code q.attr 0 0) }) ∧
      (∀ c, e.kind = .commit → s.plans.commit = some c → c.tag = tag →
        exec .cancel s = .next { s with
          plans := { s.plans with commit := none }
          port := after .short }) ∧
      ((e.kind = .call ∨ e.kind = .drowse) → ¬ queued → tooLate) ∧
      (e.kind = .commit → (∀ c, s.plans.commit = some c → c.tag ≠ tag) → tooLate) ∧
      ∀ a, e.target = some a →
        (e.kind = .enroll → ((s.station a).step ≠ some .join ∨ ¬ queued) → tooLate) ∧
        (e.kind = .wake → a ∉ s.stations.wakeQueue → tooLate) ∧
        (e.kind = .trim → ((s.station a).state ≠ .active ∨ ∃ k ∈ pairNumbers, s.trims.held k = some a) → tooLate) ∧
        (PortBounded s → ExchangesAgree s → WorkOwned s →
          (e.kind = .drowse → queued →
            exec .cancel s = .next { s with
              stations := s.stations.set a { s.station a with operation := none }
              calls := rest
              port := after .short }) ∧
          (e.kind = .trim → (s.station a).state = .active → (∀ k ∈ pairNumbers, s.trims.held k ≠ some a) →
            exec .cancel s = .next { s with
              stations := s.stations.set a { s.station a with hostTrim := false, refusals := 0 }
              port := after .short }) ∧
          (e.kind = .wake → a ∈ s.stations.wakeQueue →
            ∃ t, exec .cancel s = .next t ∧
              t = { s with stations := t.stations, streams := t.streams, notices := t.notices, port := after .short } ∧
              t.station a = { s.station a with state := .drowsy, operation := none } ∧
              (∀ b, b ≠ a → t.station b = s.station b) ∧
              t.stations.wakeQueue = s.stations.wakeQueue.filter (· != a) ∧
              stationTold a .drowsy .cancelled s t ∧ streamsFollow a s t) ∧
          (e.kind = .enroll → (s.station a).step = some .join → queued →
            ∃ t, exec .cancel s = .next t ∧
              t = { s with stations := t.stations, streams := t.streams, trims := t.trims, notices := t.notices,
                           calls := rest, port := after .short } ∧
              t.station a = { s.station a with
                state := .absent, identity := none, interval := none, quiet := none, latency := none, misses := 0,
                operation := none, step := none, wakeCountdown := none } ∧
              t.account a = { s.account a with quietEnd := none, ackPair := none } ∧
              t.trims.pairs = s.trims.pairs ∧ t.stations.wakeQueue = s.stations.wakeQueue ∧
              (∀ b, b ≠ a → t.station b = s.station b ∧ t.account b = s.account b) ∧
              stationTold a .absent .cancelled s t ∧ streamsFollow a s t))

/-- RESTART (R159): the intake closes, every unanswered request is answered ABORTED in the order taken, RESTART is
answered OK behind them. The requests' queue entries, exchanges, pending operations and commit are given up, with no miss
and no fault, and no station changes state. -/
def Obligations.RestartAbortsOutstanding : Prop :=
  ∀ (f : ReqFrame) (s : State), s.takesRequest .restart f → (s.port.table.map (·.tag)).Nodup →
    ∃ t, exec .restart s = .next t ∧
      t.port.restarting = true ∧ t.port.intake = s.port.intake.tail ∧
      t.port.replies = s.port.replies ++
        (s.port.table.filter (fun e => !e.replied)).map (fun e =>
          { kind := e.kind.replyCode, tag := e.tag, status := .aborted, body := e.failBody, deferred := true }) ++
        [{ kind := 0x45#8, tag := f.tag, status := .ok, body := .short, deferred := false }] ∧
      t.port.table = s.port.table.map (fun e => { e with replied := true }) ∧
      t.calls.queue = s.calls.queue.filter (fun q => !s.port.table.any (fun e => e.tag == q.tag && !e.replied)) ∧
      (∀ c, s.plans.commit = some c → s.port.table.any (fun e => e.tag == c.tag && !e.replied) = true →
        t.plans.commit = none) ∧
      (∀ a, (t.station a).state = (s.station a).state) ∧
      (∀ owned : Byte → Bool, (∀ tag, owned tag = s.port.table.any (fun e => e.tag == tag && !e.replied)) →
        (∀ j, t.exchange j = (s.exchange j).filter (fun x => !owned x.entry.tag)) ∧
        (∀ j x, s.exchange j = some x → owned x.entry.tag = true → (t.station x.entry.station).exchange = none) ∧
        (∀ a, (∀ j x, s.exchange j = some x → owned x.entry.tag = true → x.entry.station ≠ a) →
          (t.station a).exchange = (s.station a).exchange) ∧
        ∀ a, t.station a = { s.station a with
          exchange := (t.station a).exchange
          operation := (s.station a).operation.filter (fun o => !owned o.2) }) ∧
      t.engine = s.engine ∧ t.streams = s.streams ∧ t.trims = s.trims ∧ t.faults = s.faults ∧ t.notices = s.notices

/-! ## Trunk requests -/

/-- TRUNK SETUP (R6, R7): three tests in order; accepted, it replaces the five values and rewrites the roles of both
plans as R1 gives them, generations and a pending commit kept. -/
def Obligations.TrunkSetupReplacesValues : Prop :=
  ∀ (f : ReqFrame) (s : State) (S C w m mode : Nat), s.takesRequest .trunkSetup f →
    f.param 0 = S → f.param 1 = C → f.param 2 = w → f.param 3 = m → f.param 4 = mode →
    ∀ ok : Prop, ok = (1 ≤ S ∧ S ≤ 4 ∧ 1 ≤ C ∧ C ≤ 4 ∧ 1 ≤ w ∧ w ≤ 16 ∧ 1 ≤ m ∧ m ≤ 15 ∧ mode ≤ 1) →
    (¬ ok → exec .trunkSetup s = .next (s.refused .trunkSetup f .badParam)) ∧
    (ok → s.engine.trunk ≠ .stopped → exec .trunkSetup s = .next (s.refused .trunkSetup f .state)) ∧
    (ok → s.engine.trunk = .stopped → (s.plans.active.streams ≠ [] ∨ s.plans.staged.streams ≠ []) →
      exec .trunkSetup s = .next (s.refused .trunkSetup f .planNotEmpty)) ∧
    (ok → s.engine.trunk = .stopped → s.plans.active.streams = [] → s.plans.staged.streams = [] →
      ∃ t u, exec .trunkSetup s = .next t ∧
        u = { service := S, command := C, window := w, missLimit := m,
              mode := if mode = 0 then .strict else .lenient : Setup } ∧
        t = { s.repliedOk .trunkSetup f (.setup u) with engine := { s.engine with setup := u }, plans := t.plans } ∧
        t.plans.commit = s.plans.commit ∧ t.plans.active.generation = s.plans.active.generation ∧
        t.plans.staged.generation = s.plans.staged.generation ∧
        ∀ p ∈ [t.plans.active, t.plans.staged], p.streams = [] ∧ p.role 0 = .beacon ∧
          (∀ k, 1 ≤ k → k ≤ S → p.role (2 * k - 1) = .serviceDown k ∧ p.role (2 * k) = .serviceUp k) ∧
          (∀ j, 1 ≤ j → j ≤ C →
            p.role (2 * S + 2 * j - 1) = .commandDown j ∧ p.role (2 * S + 2 * j) = .commandUp j) ∧
          ∀ k, 2 * S + 2 * C < k → p.role k = .free)

/-- TRUNK START (R8). -/
def Obligations.TrunkStartBeginsStarting : Prop :=
  ∀ (f : ReqFrame) (s : State), s.takesRequest .trunkStart f →
    (s.engine.trunk = .stopped → s.engine.frameNumber < 0xFFFFFFFFFFFF →
      exec .trunkStart s = .next { s.entered .trunkStart f none .awaitingFrame none with
        engine := { s.engine with trunk := .starting, countdown := 16 } }) ∧
    ((s.engine.trunk ≠ .stopped ∨ 0xFFFFFFFFFFFF ≤ s.engine.frameNumber) →
      exec .trunkStart s = .next (s.refused .trunkStart f .state))

/-- TRUNK STOP (R10). Taken between a frame end and the frame start that follows it with no interval (R4), it comes
after that frame start: the model's choice, log entry 10. -/
def Obligations.TrunkStopBeginsStopping : Prop :=
  ∀ (f : ReqFrame) (s : State), s.takesRequest .trunkStop f →
    ((s.engine.trunk = .stopped ∨ s.engine.trunk = .stopping) →
      exec .trunkStop s = .next (s.refused .trunkStop f .state)) ∧
    ((s.engine.trunk = .starting ∨ s.engine.trunk = .running) →
      (s.engine.frame.isSome = true →
        exec .trunkStop s = .next { s.entered .trunkStop f none .awaitingFrame none with
          engine := { s.engine with trunk := .stopping, countdown := 0 } }) ∧
      (s.engine.frame = none → s.engine.frameNumber < 0xFFFFFFFFFFFF →
        ∃ t, exec .trunkStop s = .next t ∧ t.engine.trunk = .stopping ∧ t.engine.countdown = 0 ∧
          t.engine.frameNumber = s.engine.frameNumber + 1 ∧ t.engine.frame.isSome = true ∧
          t.port.table.getLast? = some { tag := f.tag, kind := .trunkStop, target := none, phase := .awaitingFrame,
                                         replied := false, data := none }))

/-! ## Station requests -/

/-- ENROLL (R71, R89): the tests, then JOINING with the chain's first entry at the tail of the command queue. -/
def Obligations.EnrollBeginsChain : Prop :=
  ∀ (f : ReqFrame) (s : State) (a : Nat), s.takesRequest .enroll f → f.param 0 = a →
    (¬ (1 ≤ a ∧ a ≤ 15) → exec .enroll s = .next (s.refused .enroll f .badParam)) ∧
    (1 ≤ a → a ≤ 15 → (s.station a).state ≠ .absent → (s.station a).state ≠ .faulted →
      exec .enroll s = .next (s.refused .enroll f .state)) ∧
    (1 ≤ a → a ≤ 15 → ((s.station a).state = .absent ∨ (s.station a).state = .faulted) →
      ∃ t, exec .enroll s = .next t ∧
        t.station a = { s.station a with
          state := .joining, identity := none, interval := none, quiet := none, latency := none, misses := 0,
          operation := some (.enroll, f.tag), step := some .join } ∧
        t.account a = { balance := 0, countdown := 0, quietEnd := none, ackPair := none } ∧
        t.calls = { s.calls with queue := s.calls.queue ++
          [{ tag := f.tag, owner := .enroll, station := a, order := .join, attr := 0, value := 0 }] } ∧
        t.port = (s.entered .enroll f (some a) .queued none).port ∧
        (s.notices.entries.length < 32 →
          ∃ more, t.notices.entries = s.notices.entries ++
            Notice.station a (s.station a).state .joining .enroll s.engine.frameNumber :: more) ∧
        (∀ b, b ≠ a → t.station b = s.station b ∧ t.account b = s.account b) ∧
        t.engine = s.engine ∧ t.plans = s.plans ∧ t.faults = s.faults)

/-- DROP (R77, R68): ABSENT from every other state, its streams with it (R47), the reply behind those of the work it
ends; the fault record, the balance and the countdown stay. -/
def Obligations.DropMakesAbsent : Prop :=
  ∀ (f : ReqFrame) (s : State) (a : Nat), s.takesRequest .drop f → f.param 0 = a →
    (¬ (1 ≤ a ∧ a ≤ 15) → exec .drop s = .next (s.refused .drop f .badParam)) ∧
    (1 ≤ a → a ≤ 15 → (s.station a).state = .absent → exec .drop s = .next (s.refused .drop f .state)) ∧
    (1 ≤ a → a ≤ 15 → (s.station a).state ≠ .absent →
      ∃ t, exec .drop s = .next t ∧
        (t.station a).state = .absent ∧ (t.station a).identity = none ∧ (t.station a).interval = none ∧
        (t.station a).quiet = none ∧ (t.station a).latency = none ∧ (t.station a).misses = 0 ∧
        (t.station a).exchange = none ∧ (t.station a).operation = none ∧ (t.station a).step = none ∧
        (t.station a).wakeCountdown = none ∧ (t.station a).hostTrim = false ∧
        (t.station a).depth = (s.station a).depth ∧
        t.account a = { s.account a with quietEnd := none, ackPair := none } ∧
        (∀ e ∈ t.calls.queue, e.station ≠ a) ∧ a ∉ t.stations.wakeQueue ∧
        (∃ more, t.port.replies = s.port.replies ++ more ++
          [{ kind := 0x51#8, tag := f.tag, status := .ok, body := .drop a (s.station a).state, deferred := false }]) ∧
        (PortBounded s → ExchangesAgree s → WorkOwned s →
          t.port.replies = s.port.replies ++ s.workReplies a .dropped .dropped ++
            [{ kind := 0x51#8, tag := f.tag, status := .ok, body := .drop a (s.station a).state, deferred := false }]) ∧
        stationTold a .absent .dropped s t ∧ streamsFollow a s t ∧
        (∀ b, b ≠ a → t.station b = s.station b ∧ t.account b = s.account b) ∧
        t.engine = s.engine ∧ t.plans = s.plans ∧ t.faults = s.faults)

/-- DROWSE queues its order (R78); WAKE makes the DROWSY station WAKING, with its STATION notice (R66), and joins the wake
queue (R80). Where none of the station's streams is LIVE, as in DROWSY (R47), that notice is all that the notice queue is
offered: it joins the queue, or is dropped and counted (R165). -/
def Obligations.DrowseAndWakeTakeEffect : Prop :=
  ∀ (f : ReqFrame) (s : State) (a : Nat), f.param 0 = a →
    (s.takesRequest .drowse f →
      exec .drowse s = .next (
        if ¬ (1 ≤ a ∧ a ≤ 15) then s.refused .drowse f .badParam
        else if (s.station a).state ≠ .active then s.refused .drowse f .state
        else if (s.station a).operation.map (·.1) = some .drowse ∨ (s.station a).hostTrim = true then
          s.refused .drowse f .inProgress
        else { s.entered .drowse f (some a) .queued none with
          stations := s.stations.set a { s.station a with operation := some (.drowse, f.tag) }
          calls := { s.calls with queue := s.calls.queue ++
            [{ tag := f.tag, owner := .drowse, station := a, order := .drowse, attr := 0, value := 0 }] } })) ∧
    (s.takesRequest .wake f →
      (¬ (1 ≤ a ∧ a ≤ 15) → exec .wake s = .next (s.refused .wake f .badParam)) ∧
      (1 ≤ a → a ≤ 15 → (s.station a).state ≠ .drowsy → exec .wake s = .next (s.refused .wake f .state)) ∧
      (1 ≤ a → a ≤ 15 → (s.station a).state = .drowsy →
        ∃ t, exec .wake s = .next t ∧
          t.station a = { s.station a with state := .waking, operation := some (.wake, f.tag) } ∧
          t.stations.wakeQueue = s.stations.wakeQueue ++ [a] ∧
          t.port = (s.entered .wake f (some a) .awaitingFrame none).port ∧
          (∀ b, b ≠ a → t.station b = s.station b) ∧ stationTold a .waking .wake s t ∧ streamsFollow a s t ∧
          ((∀ id st, s.stream id = some st → st.station = a → st.state ≠ .live) →
            t.notices = s.notices.offer (.station a .drowsy .waking .wake s.engine.frameNumber)) ∧
          t.engine = s.engine ∧ t.plans = s.plans ∧ t.trims = s.trims ∧ t.calls = s.calls ∧ t.faults = s.faults))

/-- TRIM sets the host-trim flag (R105), POLICY the defer depth (R85); STATION INFO reports a station and changes
nothing (R87; that the queued CALL entries are those of owner CALL is the model's reading, log entry 5). -/
def Obligations.TrimPolicyAndStationInfo : Prop :=
  ∀ (f : ReqFrame) (s : State) (a d : Nat), f.param 0 = a → f.param 1 = d →
    (s.takesRequest .trim f →
      exec .trim s = .next (
        if ¬ (1 ≤ a ∧ a ≤ 15) then s.refused .trim f .badParam
        else if (s.station a).state ≠ .active then s.refused .trim f .state
        else if (s.station a).hostTrim = true then s.refused .trim f .inProgress
        else if (s.account a).balance ≤ -8 then s.refused .trim f .aheadLimit
        else { s.entered .trim f (some a) .awaitingFrame none with
          stations := s.stations.set a { s.station a with hostTrim := true, refusals := 0 } })) ∧
    (s.takesRequest .policy f →
      exec .policy s = .next (
        if ¬ (1 ≤ a ∧ a ≤ 15 ∧ 1 ≤ d ∧ d ≤ 8) then s.refused .policy f .badParam
        else if (s.station a).state = .absent then s.refused .policy f .state
        else { s.repliedOk .policy f (.policy a d) with
          stations := s.stations.set a { s.station a with depth := d } })) ∧
    (s.takesRequest .stationInfo f →
      exec .stationInfo s = .next (if 15 < a then s.refused .stationInfo f .badParam
        else s.repliedOk .stationInfo f (.stationInfo a
          (if a = 0 then none
           else some { station := s.station a, account := s.account a, exchangeOrder := s.exchangeOrder a,
                       wakePosition := s.stations.wakePosition a,
                       queuedCalls := (s.calls.queue.filter (fun e => e.station == a && e.owner == .call)).length })
          (s.faultCell a))))

/-- CALL (R123, R124): the five tests in their order, then an entry at the tail of the command queue; a GET's value is
sent as 0. -/
def Obligations.CallTestsThenQueues : Prop :=
  ∀ (f : ReqFrame) (s : State) (a op attr value : Nat), s.takesRequest .call f →
    f.param 0 = a → f.param 1 = op → f.param 2 = attr → f.param16 3 = value →
    exec .call s = .next (
      if ¬ (1 ≤ a ∧ a ≤ 15 ∧ (op = 2 ∨ op = 3) ∧ value ≤ 4095) then s.refused .call f .badParam
      else if op = 3 ∧ 240 ≤ attr ∧ attr ≤ 243 then s.refused .call f .badParam
      else if (s.station a).state ∉ [.active, .trimming, .drowsy, .waking] then s.refused .call f .state
      else if s.engine.setup.mode ≠ .lenient ∧ (s.faultCell a).record ≠ none then s.refused .call f .faultHeld
      else if 16 ≤ s.calls.queue.length then s.refused .call f .queueFull
      else { s.entered .call f (some a) .queued
               (some { order := if op = 2 then .get else .put, attr := attr, value := value }) with
        calls := { s.calls with queue := s.calls.queue ++
          [{ tag := f.tag, owner := .call, station := a, order := if op = 2 then .get else .put, attr := attr,
             value := if op = 2 then 0 else value }] } })

/-- CLEAR FAULT (R140): the reply carries the record and the count as they stood, then both are removed. -/
def Obligations.ClearFaultRemovesRecord : Prop :=
  ∀ (f : ReqFrame) (s : State) (a : Nat), s.takesRequest .clearFault f → f.param 0 = a →
    (15 < a → exec .clearFault s = .next (s.refused .clearFault f .badParam)) ∧
    (a ≤ 15 → ∃ t, exec .clearFault s = .next t ∧
      t = { s.repliedOk .clearFault f (.clearFault a (s.faultCell a)) with faults := t.faults } ∧
      t.faultCell a = { record := none, count := 0 } ∧ ∀ b, b ≠ a → t.faultCell b = s.faultCell b)

/-! ## Plans and streams: requests -/

/-- OPEN STREAM (R24 to R26, R42, R43): five tests in order, the lowest free id, the lowest FREE slots of the staged
plan, and the blocks from the pool. -/
def Obligations.OpenStreamPlacesStream : Prop :=
  ∀ (f : ReqFrame) (s : State) (a d n cap wm : Nat), s.takesRequest .openStream f →
    f.param 0 = a → f.param 1 = d → f.param 2 = n → f.param16 3 = cap → f.param16 5 = wm →
    ∀ (ok : Prop) (free : List Nat),
    ok = (1 ≤ a ∧ a ≤ 15 ∧ d ≤ 1 ∧ 1 ≤ n ∧ n ≤ 8 ∧ 16 ≤ cap ∧ cap ≤ 256 ∧ cap % 16 = 0 ∧ 1 ≤ wm ∧ wm ≤ cap) →
    free = (List.range 32).filter (fun k => s.plans.staged.role k == .free) →
    (¬ ok → exec .openStream s = .next (s.refused .openStream f .badParam)) ∧
    (ok → s.plans.commit ≠ none → exec .openStream s = .next (s.refused .openStream f .planPending)) ∧
    (ok → s.plans.commit = none →
      ((∀ id, 1 ≤ id → id ≤ 24 → s.stream id ≠ none) →
        exec .openStream s = .next (s.refused .openStream f .noStreamId)) ∧
      ∀ id, 1 ≤ id → id ≤ 24 → s.stream id = none → (∀ i, 1 ≤ i → i < id → s.stream i ≠ none) →
        (free.length < n → exec .openStream s = .next (s.refused .openStream f .noSlots)) ∧
        (n ≤ free.length → s.streams.freeBlocks < cap / 16 →
          exec .openStream s = .next (s.refused .openStream f .noMemory)) ∧
        (n ≤ free.length → cap / 16 ≤ s.streams.freeBlocks →
          ∃ t, exec .openStream s = .next t ∧
            t = { s.repliedOk .openStream f (.openStream id (free.take n)) with
                  plans := t.plans, streams := t.streams } ∧
            t.stream id = some
              { station := a, direction := if d = 0 then .down else .up, slotList := free.take n, capacity := cap,
                watermark := wm, blocks := cap / 16, buffer := [], state := .staged, closing := false, underruns := 0,
                overruns := 0, gaps := 0, underrunRun := false, gapRun := false, overrunRun := false } ∧
            (∀ i, i ≠ id → t.stream i = s.stream i) ∧ t.streams.freeBlocks = s.streams.freeBlocks - cap / 16 ∧
            t.plans.active = s.plans.active ∧ t.plans.commit = none ∧
            t.plans.staged.generation = s.plans.staged.generation ∧
            (∀ i, i ∈ t.plans.staged.streams ↔ i = id ∨ i ∈ s.plans.staged.streams) ∧
            ∀ k, t.plans.staged.role k = if k ∈ free.take n then .stream id else s.plans.staged.role k))

/-- CLOSE STREAM (R27 to R29, R44, R45). -/
def Obligations.CloseStreamRemovesOrMarks : Prop :=
  ∀ (f : ReqFrame) (s : State) (id : Nat), s.takesRequest .closeStream f → f.param 0 = id →
    (s.plans.commit ≠ none → exec .closeStream s = .next (s.refused .closeStream f .planPending)) ∧
    (s.plans.commit = none → s.stream id = none →
      exec .closeStream s = .next (s.refused .closeStream f .notFound)) ∧
    ∀ st, s.plans.commit = none → s.stream id = some st →
      (st.closing = true → exec .closeStream s = .next (s.refused .closeStream f .state)) ∧
      (st.closing = false →
        ∃ t, exec .closeStream s = .next t ∧
          t.plans.active = s.plans.active ∧ t.plans.commit = none ∧
          t.plans.staged.streams = s.plans.staged.streams.filter (· != id) ∧
          (∀ k, t.plans.staged.role k =
            if k ∈ st.slotList ∧ k < 32 then .free else s.plans.staged.role k) ∧
          (∀ i, i ≠ id → t.stream i = s.stream i) ∧
          t.engine = s.engine ∧ t.stations = s.stations ∧ t.trims = s.trims ∧ t.calls = s.calls ∧
          t.faults = s.faults ∧
          (st.state = .staged →
            t.stream id = none ∧ t.streams.freeBlocks = s.streams.freeBlocks + st.blocks ∧ t.notices = s.notices ∧
            t.port = (s.repliedOk .closeStream f (.closeStream id .removed st.buffer.length)).port) ∧
          (st.state ≠ .staged →
            t.stream id = some { st with closing := true } ∧ t.streams.freeBlocks = s.streams.freeBlocks ∧
            t.notices = (if st.direction = .up ∧ 1 ≤ st.buffer.length
              then s.notices.offerMarker id (.data id) else s.notices) ∧
            t.port = (s.repliedOk .closeStream f (.closeStream id .closing 0)).port))

/-- DISCARD (R30, R44, R45): the staged plan becomes a copy of the active plan, STAGED streams are removed and closes
withdrawn. -/
def Obligations.DiscardRestoresStagedPlan : Prop :=
  ∀ (f : ReqFrame) (s : State), s.takesRequest .discard f →
    (s.plans.commit ≠ none → exec .discard s = .next (s.refused .discard f .planPending)) ∧
    (s.plans.commit = none →
      ∃ t removed withdrawn, exec .discard s = .next t ∧
        removed = (streamIds.filter (fun id => (s.stream id).any (fun st => st.state == .staged))).length ∧
        withdrawn = (streamIds.filter (fun id => (s.stream id).any (fun st => st.closing))).length ∧
        t = { s.repliedOk .discard f (.discard removed withdrawn) with
              plans := { s.plans with staged := s.plans.active }, streams := t.streams } ∧
        ∀ id, t.stream id = (s.stream id).bind (fun st =>
          if st.state = .staged then none else some { st with closing := false }))

/-- COMMIT (R31, R32): an empty payload is the mark NEXT. -/
def Obligations.CommitRecordsTarget : Prop :=
  ∀ (f : ReqFrame) (s : State) (F : Nat), s.takesRequest .commit f →
    F = (if f.payload = [] then s.engine.frameNumber + 1 else number f.payload) →
    exec .commit s = .next (
      if s.plans.commit ≠ none then s.refused .commit f .planPending
      else if ¬ (s.engine.frameNumber + 1 ≤ F ∧ F ≤ 0xFFFFFFFFFFFF) then s.refused .commit f .tooLate
      else if ¬ F ≤ s.engine.frameNumber + 1048576 then s.refused .commit f .tooFar
      else { s.entered .commit f none .awaitingFrame none with
        plans := { s.plans with commit := some { target := F, tag := f.tag } } })

/-- WRITE (R50, R51): the length test, the three tests, then as many words as the free space allows, in their order. -/
def Obligations.WriteAppendsWhatFits : Prop :=
  (∀ (f : ReqFrame) (s : State), s.offersFrame f → f.kind = 0x28#8 →
    (∀ n, 1 ≤ n → n ≤ 64 → f.payload.length ≠ 3 * n + 1) → exec .write s = .next (s.refused .write f .badLength)) ∧
  ∀ (f : ReqFrame) (s : State) (id : Nat), s.takesRequest .write f → f.param 0 = id →
    (s.stream id = none → exec .write s = .next (s.refused .write f .notFound)) ∧
    ∀ st, s.stream id = some st →
      ((st.direction = .up ∨ st.closing = true) → exec .write s = .next (s.refused .write f .state)) ∧
      (st.direction = .down → st.closing = false →
        ∃ t words, exec .write s = .next t ∧
          words = (samplesOf f.payload.tail).take (st.capacity - st.buffer.length) ∧
          3 * (samplesOf f.payload.tail).length + 1 = f.payload.length ∧
          t = { s.repliedOk .write f (.write id words.length (st.capacity - (st.buffer.length + words.length))) with
                streams := t.streams } ∧
          t.stream id = some { st with buffer := st.buffer ++ words } ∧
          t.streams.freeBlocks = s.streams.freeBlocks ∧ ∀ i, i ≠ id → t.stream i = s.stream i)

/-- STREAM INFO (R62, R63): the reply carries the counts as they stood, then a nonzero clear flag clears them. -/
def Obligations.StreamInfoReportsAndClears : Prop :=
  ∀ (f : ReqFrame) (s : State) (id : Nat), s.takesRequest .streamInfo f → f.param 0 = id →
    (s.stream id = none → exec .streamInfo s = .next (s.refused .streamInfo f .notFound)) ∧
    ∀ st, s.stream id = some st →
      ∃ t, exec .streamInfo s = .next t ∧
        t = { s.repliedOk .streamInfo f (.streamInfo id st) with streams := t.streams } ∧
        t.stream id = some (if f.param 1 = 0 then st else { st with underruns := 0, overruns := 0, gaps := 0 }) ∧
        t.streams.freeBlocks = s.streams.freeBlocks ∧ ∀ i, i ≠ id → t.stream i = s.stream i

/-! ## Receiver and transmitter -/

/-- A host frame that the part would form is taken by a HUNTING receiver: it joins the intake buffer, or is discarded
and counted when the buffer is full (R145, R146, R149, R175). That the whole frame, from its sync byte on, is the operand
of RECEIVE_FRAME is the model's reading (log entry 13). -/
def Obligations.HostFrameRoundTrip : Prop :=
  ∀ (kind tag flags : Byte) (payload : List Byte) (s : State), payload.length ≤ 200 → s.port.rstnLow = false →
    s.port.receiver.kept = [] →
    exec (.receiveFrame (hostFrame kind tag flags payload)) s = .next { s with port :=
      if s.port.intake.length < 4 then
        { s.port with
          receiver := { kept := [], gapPassed := false }
          intake := s.port.intake ++ [{ kind := kind, tag := tag, flags := flags, payload := payload }] }
      else
        { s.port with
          receiver := { kept := [], gapPassed := false }
          discarded := satSucc 255 s.port.discarded } }

/-- The receiver (R145 to R148). One byte at a time: in HUNTING a sync byte begins a candidate and any other byte, or one with a
framing error, is dropped; behind a sync byte alone a bad length, a framing error or a gap over the limit fails the
candidate, which is counted; whatever candidate stood, a framing error or such a gap leaves the receiver HUNTING.
The rescan: a candidate that fails raises the discarded-frame count by one, and the receiver, HUNTING, takes the bytes
kept after its sync byte again, with their records, and then those that arrive; a byte that begins no candidate is
dropped, and a good frame is taken before the bytes behind it. So for a CRC that differs (R146). That ordinary bytes are
RECEIVE_FRAME's operand, and the rows of single bytes its cases, is the model's reading (log entry 13); that the good
frames of one command's bytes, or of one rescan, are placed together, with no take between them, is its choice (log entry
18). -/
def Obligations.ReceiverTakesSingleBytes : Prop :=
  ∀ (s : State) (b : Byte), s.port.rstnLow = false →
    (s.port.receiver.kept = [] →
      exec .syncByteReceived s = .next (s.atReceiver
        [{ byte := 0xC3, gapBefore := s.port.receiver.gapPassed, framingError := false }] false s.port.discarded) ∧
      exec (.framingErrorByte b) s = .next (s.atReceiver [] false s.port.discarded) ∧
      exec .gapLimitExpiry s = .next (s.atReceiver [] true s.port.discarded) ∧
      (b ≠ 0xC3 → exec (.receiveFrame [b]) s = .next (s.atReceiver [] false s.port.discarded))) ∧
    (∀ x : RxByte, s.port.receiver.kept = [x] → x.byte = 0xC3 → x.framingError = false →
      exec .gapLimitExpiry s = .next (s.atReceiver [] true (satSucc 255 s.port.discarded)) ∧
      exec (.framingErrorByte b) s = .next (s.atReceiver [] false (satSucc 255 s.port.discarded)) ∧
      ((b.toNat < 3 ∨ 203 < b.toNat) →
        exec (.badLengthByte b) s = .next (s.atReceiver [] false (satSucc 255 s.port.discarded)))) ∧
    exec .syncByteReceived s = exec (.receiveFrame [0xC3]) s ∧ exec (.badLengthByte b) s = exec (.receiveFrame [b]) s ∧
    (∀ x after, s.port.receiver.kept = x :: after → ∀ again dropped : State,
      again = s.atReceiver after s.port.receiver.gapPassed (satSucc 255 s.port.discarded) →
      dropped = s.atReceiver after s.port.receiver.gapPassed s.port.discarded →
      (x.byte = 0xC3 → x.framingError = false →
        (∀ bytes, candidateFails false (after ++ s.port.receiver.record false bytes) →
          exec (.receiveFrame bytes) s = exec (.receiveFrame bytes) again) ∧
        (candidateFails false (after ++ s.port.receiver.record true [b]) →
          exec (.framingErrorByte b) s = exec (.framingErrorByte b) again) ∧
        (candidateFails true after → exec .gapLimitExpiry s = exec .gapLimitExpiry again)) ∧
      (¬ (x.byte = 0xC3 ∧ x.framingError = false) →
        (∀ bytes, exec (.receiveFrame bytes) s = exec (.receiveFrame bytes) dropped) ∧
        exec (.framingErrorByte b) s = exec (.framingErrorByte b) dropped ∧
        exec .gapLimitExpiry s = exec .gapLimitExpiry dropped)) ∧
    (s.port.receiver.kept = [] →
      (∀ length body more, 3 ≤ length.toNat → length.toNat ≤ 203 → body.length = length.toNat + 2 →
        crcBytes (length :: body.take length.toNat) ≠ body.drop length.toNat →
        exec (.receiveFrame (0xC3 :: length :: body ++ more)) s =
          exec (.receiveFrame (length :: body ++ more)) (s.atReceiver [] false (satSucc 255 s.port.discarded))) ∧
      (∀ bytes, b ≠ 0xC3 →
        exec (.receiveFrame (b :: bytes)) s = exec (.receiveFrame bytes) (s.atReceiver [] false s.port.discarded)) ∧
      ∀ kind tag flags payload more, payload.length ≤ 200 →
        ∃ t, exec (.receiveFrame (hostFrame kind tag flags payload)) s = .next t ∧
          exec (.receiveFrame (hostFrame kind tag flags payload ++ more)) s = exec (.receiveFrame more) t) ∧
    (∃ t, exec .gapLimitExpiry s = .next t ∧ t.port.receiver = { kept := [], gapPassed := true }) ∧
    ∃ t, exec (.framingErrorByte b) s = .next t ∧ t.port.receiver = { kept := [], gapPassed := false }

/-- REPLY_START sends the oldest reply with the discarded-frame count, which becomes 0; MESSAGE_END takes the reply
out of its queue and a deferred one's entry out of the table, and after a notice, whatever replies wait, idles the
transmitter (R149, R153 to R155, R175, R178). That REPLY_START with no reply or a message being sent, and MESSAGE_END with
none, answer the state as it is is the model's choice (log entry 7). -/
def Obligations.ReplyIsSentThenLeaves : Prop :=
  ∀ s : State, s.port.rstnLow = false →
    (∀ (r : Reply) (rest : List Reply), s.port.replies = r :: rest →
      (s.port.transmitter = .idle →
        exec .replyStart s = .next { s with port := { s.port with
          discarded := 0
          transmitter := .reply (hostFrame r.kind r.tag (BitVec.ofNat 8 s.port.discarded)
            (BitVec.ofNat 8 r.status.code :: r.body.bytes)) } }) ∧
      ∀ message, s.port.transmitter = .reply message →
        exec .messageEnd s = .next { s with port := { s.port with
          transmitter := .idle, replies := rest
          table := if r.deferred = true then s.port.table.filter (fun e => e.tag != r.tag) else s.port.table } }) ∧
    (∀ message, s.port.transmitter = .notice message →
      exec .messageEnd s = .next { s with port := { s.port with transmitter := .idle } }) ∧
    ((s.port.replies = [] ∨ s.port.transmitter ≠ .idle) → exec .replyStart s = .next s) ∧
    (s.port.transmitter = .idle → exec .messageEnd s = .next s)

/-- NOTICE_START (R155, R168 to R171, R179, R60, R61): a credit, a sequence number, both counts, and a marker's content
as its stream stands. The head leaves the queue and a marker's index is cleared; a DATA marker takes the oldest words, and
where the level left behind meets the test of R59 a new marker joins the tail. Replies go first (R155) and from RESTART
to its reset point no notice is started (R160, R164); that NOTICE_START then, or with no credit, no notice or a message
being sent, answers the state as it is is the model's choice (log entry 7). -/
def Obligations.NoticeStartSendsHead : Prop :=
  ∀ s : State, s.port.rstnLow = false →
    ((s.notices.entries = [] ∨ s.port.transmitter ≠ .idle ∨ s.port.replies ≠ [] ∨ s.notices.credits = 0 ∨
      s.port.restarting = true) → exec .noticeStart s = .next s) ∧
    ∀ (n : Notice) (rest : List Notice), s.notices.entries = n :: rest → s.port.transmitter = .idle →
      s.port.replies = [] → 0 < s.notices.credits → s.port.restarting = false →
      ∃ t, exec .noticeStart s = .next t ∧
        t = { s with port := t.port, notices := t.notices, streams := t.streams } ∧
        t.notices.credits = s.notices.credits - 1 ∧ t.notices.nextSequence = s.notices.nextSequence + 1 ∧
        t.port = { s.port with
          discarded := 0
          transmitter := .notice (hostFrame n.kind s.notices.nextSequence (BitVec.ofNat 8 s.port.discarded)
            (BitVec.ofNat 8 s.notices.dropped :: n.bytes (n.marker.bind s.stream))) } ∧
        (n.marker = none → t = { s with
          port := t.port
          notices := { s.notices with entries := rest, credits := s.notices.credits - 1,
                                      nextSequence := s.notices.nextSequence + 1, dropped := 0 } }) ∧
        (∀ id st, n = .space id → s.stream id = some st →
          t.streams = s.streams ∧ t.notices.entries = rest ∧ t.notices.marked id = false ∧ t.notices.dropped = 0 ∧
          (∀ i, i ≠ id → t.notices.marked i = s.notices.marked i) ∧
          n.bytes (some st) = BitVec.ofNat 8 id ::
            bigEndian 2 (st.capacity - st.buffer.length) ++ bigEndian 2 st.buffer.length) ∧
        ∀ id st, n = .data id → s.stream id = some st →
          t.stream id = some { st with buffer := st.buffer.drop 64 } ∧ (∀ i, i ≠ id → t.stream i = s.stream i) ∧
          t.streams.freeBlocks = s.streams.freeBlocks ∧ (∀ i, i ≠ id → t.notices.marked i = s.notices.marked i) ∧
          n.bytes (some st) = BitVec.ofNat 8 id :: BitVec.ofNat 8 (min st.buffer.length 64) ::
            bigEndian 2 (st.buffer.length - 64) ++ (st.buffer.take 64).flatMap (fun w => bigEndian 3 w.toNat) ∧
          ∀ (left : Nat) (due : Prop), left = st.buffer.length - 64 →
            due = (st.watermark ≤ left ∨ (1 ≤ left ∧ (st.state = .held ∨ st.closing = true))) →
            (¬ due → t.notices.entries = rest ∧ t.notices.marked id = false ∧ t.notices.dropped = 0) ∧
            (due → rest.length < 32 →
              t.notices.entries = rest ++ [.data id] ∧ t.notices.marked id = true ∧ t.notices.dropped = 0)

/-- RESET_POINT (R160, R161, R164, R174): with RESTART's reply sent, every block takes its power-on state and the baud
rate is kept. The model's choices: the queue of commands stays (log entry 11), the receiver begins with no gap passed
(log entry 12), and RESET_POINT in any other case answers the state as it is (log entry 7). -/
def Obligations.ResetPointTakesPowerOnState : Prop :=
  ∀ s : State, s.port.rstnLow = false →
    ((s.port.restarting = false ∨ s.port.replies ≠ [] ∨ s.port.transmitter ≠ .idle) →
      exec .resetPoint s = .next s) ∧
    (s.port.restarting = true → s.port.replies = [] → s.port.transmitter = .idle →
      ∃ t, exec .resetPoint s = .next t ∧
        t.engine = { trunk := .stopped, frameNumber := 0, countdown := 0,
                     setup := { service := 1, command := 2, window := 4, missLimit := 4, mode := .strict },
                     frame := none, line := none } ∧
        (∀ p ∈ [t.plans.active, t.plans.staged], p.generation = 0 ∧ p.streams = [] ∧ p.role 0 = .beacon ∧
          p.role 1 = .serviceDown 1 ∧ p.role 2 = .serviceUp 1 ∧ p.role 3 = .commandDown 1 ∧ p.role 4 = .commandUp 1 ∧
          p.role 5 = .commandDown 2 ∧ p.role 6 = .commandUp 2 ∧ ∀ k, 7 ≤ k → p.role k = .free) ∧
        t.plans.commit = none ∧ t.streams.freeBlocks = 64 ∧ (∀ id, t.stream id = none) ∧
        (∀ a, t.station a = { state := .absent, identity := none, interval := none, quiet := none, latency := none,
                              depth := 2, misses := 0, exchange := none, operation := none, step := none,
                              wakeCountdown := none, hostTrim := false, refusals := 0 }) ∧
        t.stations.wakeQueue = [] ∧
        (∀ a, t.account a = { balance := 0, countdown := 0, quietEnd := none, ackPair := none }) ∧
        (∀ k, t.trims.held k = none) ∧ t.calls.queue = [] ∧ (∀ j, t.exchange j = none) ∧
        (∀ a, t.faultCell a = { record := none, count := 0 }) ∧
        t.notices.entries = [.start .restart s.port.baud] ∧ t.notices.credits = 8 ∧ t.notices.nextSequence = 0 ∧
        t.notices.dropped = 0 ∧ (∀ id, t.notices.marked id = false) ∧
        t.port = { rstnLow := false, baud := s.port.baud, receiver := { kept := [], gapPassed := false },
                   discarded := 0, intake := [], table := [], replies := [], transmitter := .idle,
                   restarting := false } ∧
        t.pending = s.pending)

/-! ## Frames. PLAN_SWAP, QUIET_SPAN_END and TRIM_DUE are frame starts, and STARTING_END, TRUNK_STOP_COMPLETE,
FRAME_NUMBER_EXHAUSTED and WAKE_LATENCY_END frame ends, at which those things come about: the model's reading, log
entry 9. -/

/-- FRAME_START (R3, R4, R81): the number rises by one, the frame is full when it starts in RUNNING, and then the head
of the wake queue is its wake address and that station's wake countdown its W; in STARTING no pair is granted. -/
def Obligations.FrameStartAssignsNumber : Prop :=
  ∀ s : State, s.startsFrame → ∃ t, exec .frameStart s = .next t ∧
    t.engine = { s.engine with
      frameNumber := s.engine.frameNumber + 1
      frame := some { full := decide (s.engine.trunk = .running), nextSlot := 0,
                      wakeAddress := if s.engine.trunk = .running then s.stations.wakeQueue.headD 0 else 0 }
      line := none } ∧
    t.stations.wakeQueue =
      (if s.engine.trunk = .running then s.stations.wakeQueue.tail else s.stations.wakeQueue) ∧
    (∀ a, 1 ≤ a → a ≤ 15 → (t.station a).wakeCountdown =
      if s.engine.trunk = .running ∧ s.stations.wakeQueue.head? = some a then some ((s.station a).latency.getD 0)
      else (s.station a).wakeCountdown) ∧
    t.faults = s.faults ∧ t.pending = s.pending ∧
    (s.engine.trunk = .starting →
      (∀ j x, t.exchange j = some x → s.exchange j = some x) ∧ ∀ k a, t.trims.held k = some a → s.trims.held k = some a)

/-- The service arbiter (R94 to R97): the ranked stations are the eligible ones, each once, in the order of the four
keys, and pair k goes to the k-th. A frame start in RUNNING grants the pairs so, on the state that its accrual leaves
(R93), and grants no other. -/
def Obligations.ServiceArbiterOrder : Prop :=
  (∀ s : State,
    (∀ a, a ∈ s.ranked ↔ 1 ≤ a ∧ a ≤ 15 ∧ (s.station a).state = .active ∧ (s.station a).exchange = none ∧
      ((s.account a).balance = 8 ∨ ((s.station a).hostTrim = true ∧ -8 < (s.account a).balance) ∨
       ((s.station a).depth : Int) ≤ (s.account a).balance ∨
       (1 ≤ (s.account a).balance ∧ ∀ id st, id ∈ s.plans.active.streams → s.stream id = some st → st.station ≠ a))) ∧
    s.ranked.Pairwise (fun a b =>
      ((s.account a).balance = 8 ∧ (s.account b).balance ≠ 8) ∨
      (((s.account a).balance = 8 ↔ (s.account b).balance = 8) ∧
        (((s.station a).hostTrim = true ∧ (s.station b).hostTrim = false) ∨
         ((s.station a).hostTrim = (s.station b).hostTrim ∧
           ((s.account b).balance < (s.account a).balance ∨
            ((s.account a).balance = (s.account b).balance ∧ a < b)))))) ∧
    ∀ k, 1 ≤ k → k ≤ s.engine.setup.service → k ≤ 4 → ∀ a, s.ranked[k - 1]? = some a →
      (grantServices s).trims.held k = some a ∧ ((grantServices s).station a).exchange = some (.service k)) ∧
  ∀ s u : State, s.startsFrame → s.engine.trunk = .running → u = s.beforeGrants →
    ∃ t, exec .frameStart s = .next t ∧
      (∀ k a, 1 ≤ k → k ≤ s.engine.setup.service → k ≤ 4 → u.ranked[k - 1]? = some a →
        t.trims.held k = some a ∧ (t.station a).exchange = some (.service k)) ∧
      ∀ k a, t.trims.held k = some a → u.trims.held k = some a ∨
        (1 ≤ k ∧ k ≤ s.engine.setup.service ∧ u.ranked[k - 1]? = some a)

/-- An exchange that a command pair holds after a frame start and did not hold before is a queued entry, granted at that
frame start on the tests of R115, with the values of R114. In RUNNING, behind the grants of the service pairs, each free
pair in ascending order takes the oldest entry still eligible, or none where no entry is (R114), and the station's
exchange-in-flight field and the request's phase are set (R69, R114). -/
def Obligations.CommandGrantsAreEligible : Prop :=
  (∀ s : State, s.startsFrame → ∃ t, exec .frameStart s = .next t ∧
    ∀ j x, t.exchange j = some x → s.exchange j = some x ∨
      (s.engine.trunk = .running ∧ 1 ≤ j ∧ j ≤ s.engine.setup.command ∧ x.entry ∈ s.calls.queue ∧
        x.attempt = 1 ∧ x.waits = 0 ∧ x.framesLeft = s.engine.setup.window ∧ x.sendDue = true ∧
        (t.station x.entry.station).state =
          (match x.entry.owner with | .call => .active | .drowse => .active | .enroll => .joining | .wake => .waking) ∧
        (t.account x.entry.station).balance ≠ 8 ∧
        ¬ (x.entry.owner = .call ∧ s.engine.setup.mode = .strict ∧ (s.faultCell x.entry.station).record ≠ none))) ∧
  ∀ s u : State, s.startsFrame → s.engine.trunk = .running → u = grantServices s.beforeGrants →
    ∃ t, exec .frameStart s = .next t ∧
      ∀ j, 1 ≤ j → j ≤ s.engine.setup.command → j ≤ 4 → u.exchange j = none →
        (∀ x, t.exchange j = some x →
          x.attempt = 1 ∧ x.waits = 0 ∧ x.framesLeft = s.engine.setup.window ∧ x.sendDue = true ∧
          u.mayGrant x.entry ∧ ¬ passedOver u t j x.entry ∧
          (∃ older younger, u.calls.queue = older ++ x.entry :: younger ∧ ∀ q ∈ older, passedOver u t j q) ∧
          (u.calls.queue.Nodup → x.entry ∉ t.calls.queue) ∧
          (t.station x.entry.station).exchange = some (.command j) ∧
          ∀ e ∈ t.port.table, e.tag = x.entry.tag → e.phase = .inFlight) ∧
        (t.exchange j = none → ∀ q ∈ u.calls.queue, passedOver u t j q)

/-- PLAN_SWAP (R23, R33, R34, R49, R167), log entry 9: at the frame start of F the closing streams go, in ascending order:
their blocks return, their markers leave the queue unsent and a STREAM_CLOSED notice of each is offered, which finds the
place of its stream's marker; the staged plan becomes active with its generation raised by one and is copied afresh, and
the COMMIT is answered OK with F and the new generation. -/
def Obligations.PlanSwapActivatesStagedPlan : Prop :=
  ∀ (s : State) (c : PendingCommit), s.startsFrame → s.plans.commit = some c →
    c.target = s.engine.frameNumber + 1 →
    ∃ t, exec .planSwap s = .next t ∧ exec .frameStart s = .next t ∧
      t.engine.frameNumber = c.target ∧
      t.plans = { active := { s.plans.staged with generation := s.plans.staged.generation + 1 },
                  staged := { s.plans.staged with generation := s.plans.staged.generation + 1 }, commit := none } ∧
      (∀ id, id ∈ s.plans.active.streams → id ∉ s.plans.staged.streams →
        t.stream id = none ∧ (PlansAgree s → t.notices.marked id = false)) ∧
      t.streams.freeBlocks = s.streams.freeBlocks +
        (streamIds.map (fun id => if id ∈ s.closing then ((s.stream id).map (·.blocks)).getD 0 else 0)).sum ∧
      t.notices.credits = s.notices.credits ∧ t.notices.nextSequence = s.notices.nextSequence ∧
      (MarkersIndexed s → PlansAgree s →
        (s.notices.entries.length + s.closing.length ≤ 32 → ∃ more, t.notices.entries =
          s.notices.entries.filter (fun n => s.closing.all (fun id => !n.isMarkerOf id)) ++
            s.closing.filterMap (fun id => (s.stream id).map (Stream.closedNotice id c.target)) ++ more) ∧
        ∀ id ∈ s.closing, (∀ n ∈ t.notices.entries, n.isMarkerOf id = false) ∧
          (s.notices.marked id = true → ∀ st, s.stream id = some st →
            st.closedNotice id c.target ∈ t.notices.entries)) ∧
      ∀ e, s.port.table.find? (fun e => e.tag == c.tag && !e.replied) = some e →
        { kind := e.kind.replyCode, tag := c.tag, status := .ok,
          body := .commit c.target (s.plans.staged.generation + 1), deferred := true } ∈ t.port.replies

/-- QUIET_SPAN_END (R103, R106), log entry 9: TRIMMING to ACTIVE at the quiet end, with the station's streams of the
active plan LIVE (R47), also at a balance of +8; a pending host TRIM is answered OK with the frame of the acknowledgement,
its pair and the balance. Only a trim that falls due at that very frame start with the balance at +8 makes the station
FAULTED, behind all this (R91, R93). -/
def Obligations.QuietSpanEndReturnsToActive : Prop :=
  ∀ (s : State) (a : Nat), s.startsFrame → 1 ≤ a → a ≤ 15 → (s.station a).state = .trimming →
    (s.account a).quietEnd = some (s.engine.frameNumber + 1) →
    ∃ t, exec (.quietSpanEnd a) s = .next t ∧ exec .frameStart s = .next t ∧
      (t.station a).hostTrim = false ∧ (t.account a).quietEnd = none ∧ (t.account a).ackPair = none ∧
      (((s.account a).balance < 8 ∨ 1 < (s.account a).countdown) →
        (t.station a).state = .active ∧
        (∀ id st, t.stream id = some st → st.station = a → st.state = .staged ∨ st.state = .live) ∧
        (s.plans.commit.map (·.target) ≠ some (s.engine.frameNumber + 1) →
          ∀ id st, s.stream id = some st → st.station = a → t.stream id = some (st.follow true))) ∧
      ((s.account a).balance = 8 → (s.account a).countdown = 1 → (t.station a).state = .faulted) ∧
      ∀ tag, (s.station a).hostTrim = true → s.port.waiting .trim (some a) = some tag →
        (s.port.table.map (·.tag)).Nodup → s.plans.commit.map (·.target) ≠ some (s.engine.frameNumber + 1) →
        { kind := 0x54#8, tag := tag, status := .ok,
          body := .trim a (s.engine.frameNumber + 1 - (s.station a).quiet.getD 0) ((s.account a).ackPair.getD 0)
            (s.account a).balance, deferred := true } ∈ t.port.replies

/-- TRIM_DUE (R90, R91), log entry 9: the countdown is reloaded and the balance rises, or at +8 the ACTIVE station
becomes FAULTED with reason BREACH: its STATION notice, its streams HELD, and the FAULTED replies of its work (R47, R66,
R68), from the state `u` in which its accrual comes. That the stations accrue in ascending order is the model's choice,
log entry 3. -/
def Obligations.TrimDueRaisesBalanceOrBreaches : Prop :=
  ∀ (s : State) (a : Nat), s.startsFrame → 1 ≤ a → a ≤ 15 →
    ((s.station a).state = .active ∨ (s.station a).state = .trimming) → (s.account a).countdown = 1 →
    ∃ t, exec (.trimDue a) s = .next t ∧ exec .frameStart s = .next t ∧
      (t.account a).countdown = (s.station a).interval.getD 0 * 16 ∧
      ((s.account a).balance < 8 → (t.account a).balance = (s.account a).balance + 1) ∧
      ((s.account a).balance = 8 → (t.account a).balance = 8 ∧
        ((s.station a).state = .active → (t.station a).state = .faulted ∧ (t.station a).exchange = none ∧
          (t.station a).operation = none ∧ (t.station a).hostTrim = false ∧ (∀ e ∈ t.calls.queue, e.station ≠ a) ∧
          t.faultCell a = s.faultCell a ∧
          ∀ u, u = s.beforeAccrual a →
            stationTold a .faulted .breach u t ∧
            (∀ id st, u.stream id = some st → st.station = a → t.stream id = some (st.follow false) ∧
              (u.notices.entries.length ≤ 5 → st.state = .live → st.direction = .up → st.buffer ≠ [] →
                t.notices.marked id = true)) ∧
            (PortBounded u → ExchangesAgree u → WorkOwned u →
              ∃ more, t.port.replies = u.port.replies ++ u.workReplies a .faulted .faulted ++ more)))

/-- FRAME_END and STARTING_END (R4, R9, log entry 9): the frame is over; in STARTING the countdown falls by one, and
at 0 the trunk is RUNNING and TRUNK START is answered OK. -/
def Obligations.FrameEndCountsDownToRunning : Prop :=
  ∀ (s : State) (fr : Frame), s.port.rstnLow = false → s.engine.frame = some fr →
    s.engine.frameNumber < 0xFFFFFFFFFFFF →
    (s.engine.trunk = .running → ∃ t, exec .frameEnd s = .next t ∧
      t.engine = { s.engine with frame := none, line := none } ∧ t.plans = s.plans) ∧
    (s.engine.trunk = .starting → 1 < s.engine.countdown → ∃ t, exec .frameEnd s = .next t ∧
      t.engine = { s.engine with countdown := s.engine.countdown - 1, frame := none, line := none } ∧
      t.plans = s.plans) ∧
    (s.engine.trunk = .starting → s.engine.countdown = 1 → ∃ t, exec .startingEnd s = .next t ∧
      exec .frameEnd s = .next t ∧
      t.engine = { s.engine with trunk := .running, countdown := 0, frame := none, line := none } ∧
      t.plans = s.plans ∧
      ∀ tag, fr.full = false → (s.port.table.map (·.tag)).Nodup → s.port.waiting .trunkStart none = some tag →
        t.port.replies.getLast? =
          some { kind := 0x49#8, tag := tag, status := .ok, body := .short, deferred := true })

/-- TRUNK_STOP_COMPLETE in STOPPING, and FRAME_NUMBER_EXHAUSTED at the end of the last frame (R3, R11, R48, R86, R128;
log entry 9, and log entry 6 for the countdown). `u` is the state once the last slots have passed and the wake countdowns
fallen, which come before the stop by the model's choice (log entry 19): from there the replies are those of the stations' work, ABORTED, in ascending order of address, then TRUNK START
ABORTED if it waits, then TRUNK STOP OK (R11, R68). -/
def Obligations.TrunkStopClearsStationsAndCalls : Prop :=
  ∀ (s : State) (c : Instr), s.port.rstnLow = false → s.engine.frame.isSome = true →
    ((c = .trunkStopComplete ∧ s.engine.trunk = .stopping) ∨
     (c = .frameNumberExhausted ∧ s.engine.frameNumber = 0xFFFFFFFFFFFF ∧
       (s.engine.trunk = .starting ∨ s.engine.trunk = .running))) →
    ∃ t, exec c s = .next t ∧ exec .frameEnd s = .next t ∧
      t.engine = { s.engine with trunk := .stopped, countdown := 0, frame := none, line := none } ∧
      t.plans = s.plans ∧ (∀ a, 1 ≤ a → a ≤ 15 → (t.station a).state = .absent) ∧ t.stations.wakeQueue = [] ∧
      t.calls.queue = [] ∧ (∀ j, t.exchange j = none) ∧ (∀ id st, t.stream id = some st → st.state ≠ .live) ∧
      ∀ u, u = closeFrame s → PortBounded u → ExchangesAgree u → WorkOwned u →
        (∀ k, t.trims.held k = none) ∧
        t.port.replies = u.port.replies ++ addresses.flatMap (fun a => u.workReplies a .aborted .aborted) ++
          (u.port.waiting .trunkStart none).toList.map (fun tag => deferredReply .trunkStart tag .aborted .short) ++
          (u.port.waiting .trunkStop none).toList.map (fun tag => deferredReply .trunkStop tag .ok .short)

/-- WAKE_LATENCY_END (R81, R112), log entry 9: the wake countdown is removed and a PROBE of attribute 240 joins the
command queue. -/
def Obligations.WakeLatencyEndQueuesProbe : Prop :=
  ∀ (s u : State) (a : Nat) (tag : Byte), s.port.rstnLow = false → s.engine.frame.isSome = true →
    s.engine.trunk = .running → s.engine.frameNumber < 0xFFFFFFFFFFFF → 1 ≤ a → a ≤ 15 →
    (s.station a).wakeCountdown = some 1 → u = passSlots 32 s → (u.station a).wakeCountdown = some 1 →
    (u.station a).operation = some (.wake, tag) → u.port.restarting = false →
    ∃ t, exec (.wakeLatencyEnd a) s = .next t ∧ exec .frameEnd s = .next t ∧
      (t.station a).wakeCountdown = none ∧
      { tag := tag, owner := .wake, station := a, order := .probe, attr := 240, value := 0 } ∈ t.calls.queue ∧
      ∀ e ∈ t.port.table, e.tag = tag → e.phase = .queued

/-! ## Slots. `u` is the state in which the slot comes: the slots before it have passed (log entry 8). -/

/-- BEACON_SLOT (R13, R14, R180). -/
def Obligations.BeaconCarriesFrameFields : Prop :=
  ∀ (s : State) (fr : Frame) (line : Option Word), s.port.rstnLow = false → s.engine.frame = some fr →
    fr.nextSlot = 0 → fr.wakeAddress ≤ 15 → s.roleNow 0 = .beacon →
    ∃ t w, exec (.beaconSlot line) s = .next t ∧
      t.engine = { s.engine with frame := some { fr with nextSlot := 1 }, line := some w } ∧
      oddParity w = false ∧ wordKind w = 1 ∧ wordAddress w = 0 ∧
      (wordPayload w).extractLsb' 8 16 = BitVec.ofNat 16 s.engine.frameNumber ∧
      ((wordPayload w).extractLsb' 4 4).toNat = fr.wakeAddress ∧
      (wordPayload w).extractLsb' 0 4 = s.plans.active.generation.extractLsb' 0 4 ∧
      ((line = none ∨ line = some w) → t.faults = s.faults ∧ t.notices = s.notices) ∧
      (∀ r, line = some r → r ≠ w → faultReported 0 .foreign 0 (some r) s t) ∧
      t.plans = s.plans ∧ t.streams = s.streams ∧ t.stations = s.stations ∧ t.trims = s.trims ∧ t.calls = s.calls ∧
      t.port = s.port

/-- SERVICE_DOWN_SLOT and COMMAND_DOWN_SLOT (R14, R98, R116, R180, log entry 8): the order, or FILL with address 0;
another word read back is FOREIGN at address 0. -/
def Obligations.PairDownSlotsSendOrders : Prop :=
  ∀ (s u : State) (n slot : Nat) (line : Option Word), 1 ≤ n → n ≤ 4 → s.reachesSlot slot → u = passSlots slot s →
    (slot = 2 * n - 1 → u.roleNow slot = .serviceDown n →
      ∃ t w, exec (.serviceDownSlot n line) s = .next t ∧ t.engine.line = some w ∧
        (∀ a, u.trims.held n = some a → w = orderWord a .trim 0 0) ∧ (u.trims.held n = none → w = fillWord 0) ∧
        ((line = none ∨ line = some w) → t.faults = u.faults ∧ t.notices = u.notices) ∧
        (∀ r, line = some r → r ≠ w → faultReported 0 .foreign slot (some r) u t) ∧
        t.plans = u.plans ∧ t.streams = u.streams ∧ t.stations = u.stations ∧ t.trims = u.trims ∧
        t.calls = u.calls ∧ t.port = u.port) ∧
    (slot = 2 * s.engine.setup.service + 2 * n - 1 → u.roleNow slot = .commandDown n →
      ∃ t w, exec (.commandDownSlot n line) s = .next t ∧ t.engine.line = some w ∧
        (∀ x, u.exchange n = some x → x.sendDue = true →
          w = orderWord x.entry.station x.entry.order x.entry.attr x.entry.value) ∧
        ((∀ x, u.exchange n = some x → x.sendDue = false) → w = fillWord 0) ∧
        t.exchange n = (u.exchange n).map (fun x => { x with sendDue := false }) ∧
        (∀ j, j ≠ n → t.exchange j = u.exchange j) ∧ t.calls.queue = u.calls.queue ∧
        ((line = none ∨ line = some w) → t.faults = u.faults ∧ t.notices = u.notices) ∧
        (∀ r, line = some r → r ≠ w → faultReported 0 .foreign slot (some r) u t) ∧
        t.plans = u.plans ∧ t.streams = u.streams ∧ t.stations = u.stations ∧ t.trims = u.trims ∧ t.port = u.port)

/-- SERVICE_UP_SLOT with a trim exchange for an ACTIVE station (R16, R99 to R101, R107): DONE, a refusal, a miss, the
eighth refusal and the miss limit with their replies (R68, R107), the faults of CHECK and FOREIGN words, and the streams of
a station that leaves ACTIVE (R47). -/
def Obligations.TrimAnswerIsDealtWith : Prop :=
  ∀ (s u : State) (k a : Nat) (line : Option Word), 1 ≤ k → k ≤ 4 → 1 ≤ a → a ≤ 15 → s.reachesSlot (2 * k) →
    u = passSlots (2 * k) s → u.roleNow (2 * k) = .serviceUp k → u.plans.active.role (2 * k) = .serviceUp k →
    u.trims.held k = some a → (u.station a).state = .active →
    ∀ answers : Nat → Prop, (∀ n, answers n = ∃ w, line = some w ∧ isReply a n w) →
    ∃ t, exec (.serviceUpSlot k line) s = .next t ∧ t.trims.held k = none ∧ (t.station a).exchange = none ∧
      (∀ b, b ≠ a → t.station b = u.station b ∧ t.account b = u.account b) ∧
      (∀ j, j ≠ k → t.trims.held j = u.trims.held j) ∧ t.plans = u.plans ∧
      t.streams.freeBlocks = u.streams.freeBlocks ∧ t.calls.pairs = u.calls.pairs ∧
      (StreamsFollowStations u → streamsFollow a u t) ∧
      (answers 1 → stationTold a .trimming .trim u t) ∧
      (PortBounded u → ExchangesAgree u → WorkOwned u →
        ((answers 2 ∨ answers 3) → 8 ≤ (u.station a).refusals + 1 →
          t.port.replies = u.port.replies ++ u.hostTrimReply a .refused) ∧
        (¬ answers 1 → ¬ answers 2 → ¬ answers 3 →
          (u.belowMissLimit a → t.port = u.port) ∧
          (¬ u.belowMissLimit a → stationTold a .faulted .misses u t ∧
            t.port.replies = u.port.replies ++ u.workReplies a .faulted .faulted))) ∧
      (answers 1 → (t.station a).state = .trimming ∧ (t.station a).misses = 0 ∧
        t.account a = { u.account a with
          balance := (u.account a).balance - 1,
          quietEnd := some (u.engine.frameNumber + (u.station a).quiet.getD 0), ackPair := some k } ∧
        t.faults = u.faults ∧ t.calls = u.calls ∧ t.port = u.port) ∧
      ((answers 2 ∨ answers 3) → (t.station a).state = .active ∧ (t.station a).misses = 0 ∧
        t.account a = u.account a ∧ t.faults = u.faults ∧ t.streams = u.streams ∧ t.calls = u.calls ∧
        t.notices = u.notices ∧
        ((u.station a).hostTrim = false → (t.station a).refusals = (u.station a).refusals ∧ t.port = u.port) ∧
        ((u.station a).hostTrim = true → (u.station a).refusals + 1 < 8 →
          (t.station a).refusals = (u.station a).refusals + 1 ∧ (t.station a).hostTrim = true) ∧
        ((u.station a).hostTrim = true → 8 ≤ (u.station a).refusals + 1 →
          (t.station a).refusals = 0 ∧ (t.station a).hostTrim = false)) ∧
      (¬ answers 1 → ¬ answers 2 → ¬ answers 3 →
        t.account a = u.account a ∧ (t.station a).misses = (u.station a).misses + 1 ∧
        (t.station a).state = (if (u.station a).misses + 1 < u.engine.setup.missLimit then .active else .faulted) ∧
        (line = none → t.faults = u.faults) ∧
        (∀ w, line = some w → oddParity w = true → faultReported a .check (2 * k) (some w) u t) ∧
        ∀ w, line = some w → oddParity w = false → faultReported a .foreign (2 * k) (some w) u t)

/-- COMMAND_UP_SLOT and RESPONSE_WINDOW_EXPIRY with an exchange (R117 to R121): for every owner a REPLY ends it, a WAIT
restarts the window or fails it, silence uses up the window, and a miss sends the order again; at the third attempt it
ends with the NO_REPLY fault, behind the CHECK or FOREIGN fault of the word that was the miss (R134), and at the miss
limit an ACTIVE station becomes FAULTED with its work's replies (R70, R68). For a CALL, every reply (R124). That
RESPONSE_WINDOW_EXPIRY is the whole silent up slot is the model's reading, log entry 9; `u` is by log entry 8. -/
def Obligations.CallExchangeIsCarriedOn : Prop :=
  ∀ (s u : State) (j a slot : Nat) (x : Exchange) (line : Option Word), s.upSlotComes u j a slot x →
    ∃ t, exec (.commandUpSlot j line) s = .next t ∧
      (∀ b, b ≠ a → t.station b = u.station b) ∧ t.plans = u.plans ∧ (StreamsFollowStations u → streamsFollow a u t) ∧
      (∀ w status, line = some w → isReply a status w → 1 ≤ status → status ≤ 3 →
        t.exchange j = none ∧ (t.station a).exchange = none ∧ t.faults = u.faults ∧
        (x.entry.owner = .call →
          t.station a = { u.station a with misses := 0, exchange := none } ∧
          t.trims = u.trims ∧ t.streams = u.streams ∧ t.notices = u.notices ∧ t.calls.queue = u.calls.queue ∧
          ∀ e, u.port.table.find? (fun e => e.tag == x.entry.tag && !e.replied) = some e →
            ∀ st echo value,
              (st, echo, value) =
                (if status = 1 then
                  (if payloadAttr (wordPayload w) = x.entry.attr then Status.ok else Status.badStation,
                   payloadAttr (wordPayload w), payloadValue (wordPayload w))
                 else if status = 2 then (Status.refused, x.entry.attr, payloadValue (wordPayload w))
                 else (Status.unknownAttr, 0, 0)) →
              t.port.replies = u.port.replies ++ [{
                kind := e.kind.replyCode, tag := x.entry.tag, status := st, deferred := true,
                body := .call a x.entry.order.code x.entry.attr echo value }])) ∧
      (∀ w, line = some w → isWait a w →
        t.faults = u.faults ∧
        (x.waits < 4 → t.exchange j = some { x with waits := x.waits + 1, framesLeft := u.engine.setup.window } ∧
          t.station a = { u.station a with misses := 0 } ∧ t.trims = u.trims ∧ t.streams = u.streams ∧
          t.notices = u.notices ∧ t.calls.queue = u.calls.queue ∧ t.port = u.port) ∧
        (4 ≤ x.waits → t.exchange j = none ∧ (t.station a).exchange = none ∧
          (x.entry.owner = .call →
            t.station a = { u.station a with misses := 0, exchange := none } ∧
            t.trims = u.trims ∧ t.streams = u.streams ∧ t.notices = u.notices ∧ t.calls.queue = u.calls.queue ∧
            ∀ e, u.port.table.find? (fun e => e.tag == x.entry.tag && !e.replied) = some e →
              t.port.replies = u.port.replies ++ [{
                kind := e.kind.replyCode, tag := x.entry.tag, status := .stall, deferred := true,
                body := .call a x.entry.order.code x.entry.attr 0 0 }]))) ∧
      (line = none → 1 < x.framesLeft →
        t.exchange j = some { x with framesLeft := x.framesLeft - 1 } ∧ t.station a = u.station a ∧
        t.faults = u.faults ∧ t.trims = u.trims ∧ t.streams = u.streams ∧ t.notices = u.notices ∧
        t.calls.queue = u.calls.queue ∧ t.port = u.port) ∧
      (line = none → x.framesLeft = 1 → exec (.responseWindowExpiry j) s = .next t ∧
        (x.attempt < 3 → t.faults = u.faults) ∧
        (3 ≤ x.attempt → faultReported a .noReply slot none u t)) ∧
      (∀ w kind, line = some w → (oddParity w = true ∧ kind = .check ∨ isForeign a w ∧ kind = .foreign) →
        (x.attempt < 3 → faultReported a kind slot (some w) u t) ∧
        (3 ≤ x.attempt → ∃ v, v.engine = u.engine ∧ faultReported a kind slot (some w) u v ∧
          faultReported a .noReply slot none v t)) ∧
      (x.misses a line →
        (x.attempt < 3 → u.belowMissLimit a →
          t.exchange j = some { x with attempt := x.attempt + 1, framesLeft := u.engine.setup.window, sendDue := true } ∧
          t.station a = { u.station a with misses := (u.station a).misses + 1 } ∧ t.trims = u.trims ∧
          t.streams = u.streams ∧ t.calls.queue = u.calls.queue ∧ t.port = u.port) ∧
        (x.attempt < 3 → ¬ u.belowMissLimit a → (u.station a).state = .active →
          (u.station a).exchange = some (.command j) →
          t.exchange j = none ∧ (t.station a).state = .faulted ∧ (t.station a).exchange = none ∧
          (t.station a).misses = (u.station a).misses + 1 ∧ (∀ e ∈ t.calls.queue, e.station ≠ a) ∧
          stationTold a .faulted .misses u t ∧
          (PortBounded u → ExchangesAgree u → WorkOwned u →
            t.port.replies = u.port.replies ++ u.workReplies a .faulted .faulted)) ∧
        (3 ≤ x.attempt → t.exchange j = none ∧ (t.station a).exchange = none) ∧
        (3 ≤ x.attempt → x.entry.owner = .call → PortBounded u → ExchangesAgree u → WorkOwned u →
          (t.station a).misses = (u.station a).misses + 1 ∧
          (u.belowMissLimit a → (t.station a).state = .active ∧ t.calls.queue = u.calls.queue ∧
            t.port.replies = u.port.replies ++ x.entry.failReply .noReply) ∧
          (¬ u.belowMissLimit a → (t.station a).state = .faulted ∧ (∀ e ∈ t.calls.queue, e.station ≠ a) ∧
            stationTold a .faulted .misses u t ∧
            t.port.replies = u.port.replies ++ x.entry.failReply .noReply ++ u.operationReply a .faulted .short ++
              u.hostTrimReply a .faulted ++ u.queueReplies a .faulted)))

/-- COMMAND_UP_SLOT with an exchange of the enrollment chain (R72 to R75, R89): at a DONE the step's value is tested and
recorded and the next GET queued; the last makes the station ACTIVE and ENROLL is answered OK with the values. A failed
test, another REPLY, the fifth WAIT, the third miss and the miss limit make the station ABSENT and fail the ENROLL (R70,
R75). `u` is by log entry 8. -/
def Obligations.EnrollChainAdvances : Prop :=
  ∀ (s u : State) (j a slot : Nat) (x : Exchange) (line : Option Word) (r : Station), s.upSlotComes u j a slot x →
    x.entry.owner = .enroll → (u.station a).state = .joining → u.port.restarting = false →
    r = { u.station a with misses := 0, exchange := none } →
    ∀ (queueWith : Nat → List Entry) (badDone : Word → Prop),
    (∀ attr, queueWith attr = u.calls.queue ++
      [{ tag := x.entry.tag, owner := .enroll, station := a, order := .get, attr := attr, value := 0 }]) →
    (∀ w, badDone w = ∃ echo value, echo = payloadAttr (wordPayload w) ∧ value = payloadValue (wordPayload w) ∧
      (r.step = some .identity ∧ ¬ (echo = 240 ∧ value ≠ 0) ∨
       r.step = some .interval ∧ ¬ (echo = 241 ∧ 1 ≤ value ∧ value ≤ 4095) ∨
       r.step = some .quiet ∧ ¬ (echo = 242 ∧ 1 ≤ value ∧ value ≤ 64 ∧ 4 * value ≤ r.interval.getD 0 * 16) ∨
       r.step = some .latency ∧ ¬ (echo = 243 ∧ 1 ≤ value ∧ value ≤ 1024))) →
    ∃ t, exec (.commandUpSlot j line) s = .next t ∧ t.plans = u.plans ∧ (∀ b, b ≠ a → t.station b = u.station b) ∧
      (∀ w echo value, line = some w → isReply a 1 w → echo = payloadAttr (wordPayload w) →
        value = payloadValue (wordPayload w) →
        t.exchange j = none ∧ t.faults = u.faults ∧
        (∀ next : Nat → Prop, (∀ attr, next attr = (t.calls.queue = queueWith attr ∧
            t.port.replies = u.port.replies ∧ ∀ e ∈ t.port.table, e.tag = x.entry.tag → e.phase = .queued)) →
          (r.step = some .join → t.station a = { r with step := some .identity } ∧ next 240) ∧
          (r.step = some .identity → echo = 240 → value ≠ 0 →
            t.station a = { r with step := some .interval, identity := some value } ∧ next 241) ∧
          (r.step = some .interval → echo = 241 → 1 ≤ value → value ≤ 4095 →
            t.station a = { r with step := some .quiet, interval := some value } ∧ next 242) ∧
          (r.step = some .quiet → echo = 242 → 1 ≤ value → value ≤ 64 → 4 * value ≤ r.interval.getD 0 * 16 →
            t.station a = { r with step := some .latency, quiet := some value } ∧ next 243)) ∧
        (r.step = some .latency → echo = 243 → 1 ≤ value → value ≤ 1024 →
          t.station a = { r with state := .active, step := none, operation := none, latency := some value } ∧
          (t.account a).countdown = r.interval.getD 0 * 16 ∧ t.calls.queue = u.calls.queue ∧
          stationTold a .active .enrolled u t ∧
          (PortBounded u → WorkOwned u → t.port.replies = u.port.replies ++
            [deferredReply .enroll x.entry.tag .ok
              (.enroll a (r.identity.getD 0) (r.interval.getD 0) (r.quiet.getD 0) value)])) ∧
        (badDone w →
          (t.station a).state = .absent ∧ (t.station a).step = none ∧ (t.station a).operation = none ∧
          (t.station a).identity = none ∧ (t.station a).interval = none)) ∧
      ∀ st, (x.failsWith a line st ∨ (x.misses a line ∧ ¬ u.belowMissLimit a ∧ st = .noReply) ∨
          (st = .badStation ∧ ∃ w, line = some w ∧ isReply a 1 w ∧ badDone w)) →
        PortBounded u → ExchangesAgree u → WorkOwned u →
        t.exchange j = none ∧ t.calls.queue = u.calls.queue ∧
        t.station a = { r with state := .absent, identity := none, interval := none, quiet := none, latency := none,
                               operation := none, step := none, wakeCountdown := none } ∧
        t.port.replies = u.port.replies ++ [deferredReply .enroll x.entry.tag st .short] ∧
        stationTold a .absent .enrollFailed u t

/-- COMMAND_UP_SLOT with an exchange of a DROWSE or a PROBE (R79, R83): which state the station takes at a REPLY, at the
fifth WAIT and at the third miss, and at the miss limit before it (R70); the replies of the DROWSE, the WAKE and the work
that ends (R68, R108). `u` is by log entry 8. -/
def Obligations.DrowseAndProbeRepliesMoveStation : Prop :=
  ∀ (s u : State) (j a slot : Nat) (x : Exchange) (line : Option Word), s.upSlotComes u j a slot x →
    ∀ woken : Word → Prop,
    (∀ w, woken w = (isReply a 1 w ∧ payloadAttr (wordPayload w) = 240 ∧
      (u.station a).identity = some (payloadValue (wordPayload w)))) →
    ∃ t, exec (.commandUpSlot j line) s = .next t ∧ t.plans = u.plans ∧ (∀ b, b ≠ a → t.station b = u.station b) ∧
      (∀ w status, line = some w → isReply a status w → 1 ≤ status → status ≤ 3 →
        t.exchange j = none ∧ t.faults = u.faults ∧
        (x.entry.owner = .drowse → (u.station a).state = .active →
          (t.station a).operation = none ∧ (t.station a).exchange = none ∧ (t.station a).misses = 0 ∧
          t.account a = u.account a ∧
          (status = 1 → (t.station a).state = .drowsy ∧ (t.station a).hostTrim = false) ∧
          (status ≠ 1 → (t.station a).state = .active ∧ (t.station a).hostTrim = (u.station a).hostTrim)) ∧
        (x.entry.owner = .wake → (u.station a).state = .waking →
          (t.station a).operation = none ∧ (t.station a).exchange = none ∧ (t.station a).misses = 0 ∧
          t.account a = u.account a ∧ (woken w → (t.station a).state = .active) ∧
          (¬ woken w → (t.station a).state = .faulted))) ∧
      (PortBounded u → ExchangesAgree u → WorkOwned u →
        (x.entry.owner = .drowse →
          (∀ w, line = some w → isReply a 1 w → t.calls.queue = u.calls.queue ∧ stationTold a .drowsy .drowse u t ∧
            t.port.replies = u.port.replies ++ u.operationReply a .ok (.address a) ++ u.hostTrimReply a .state) ∧
          ∀ st, x.failsWith a line st →
            t.exchange j = none ∧ (t.station a).operation = none ∧ (t.station a).exchange = none ∧
            (¬ (st = .noReply ∧ ¬ u.belowMissLimit a) →
              (t.station a).state = .active ∧ (t.station a).hostTrim = (u.station a).hostTrim ∧
              t.calls.queue = u.calls.queue ∧ t.port.replies = u.port.replies ++ u.operationReply a st .short) ∧
            (st = .noReply → ¬ u.belowMissLimit a →
              (t.station a).state = .faulted ∧ (t.station a).hostTrim = false ∧ (∀ e ∈ t.calls.queue, e.station ≠ a) ∧
              stationTold a .faulted .misses u t ∧
              t.port.replies = u.port.replies ++ u.operationReply a .noReply .short ++ u.hostTrimReply a .faulted ++
                u.queueReplies a .faulted)) ∧
        (x.entry.owner = .wake →
          (∀ w, line = some w → woken w → t.calls.queue = u.calls.queue ∧ stationTold a .active .woken u t ∧
            t.port.replies = u.port.replies ++ u.operationReply a .ok (.address a)) ∧
          ∀ st reason,
            (x.failsWith a line st ∧ reason = .wakeFailed ∨
             (x.misses a line ∧ x.attempt < 3 ∧ ¬ u.belowMissLimit a ∧ st = .noReply ∧ reason = .misses) ∨
             (st = .badStation ∧ reason = .wakeFailed ∧ ∃ w, line = some w ∧ isReply a 1 w ∧ ¬ woken w)) →
            t.exchange j = none ∧ (t.station a).state = .faulted ∧ (t.station a).operation = none ∧
            (t.station a).exchange = none ∧ (t.station a).identity = (u.station a).identity ∧
            (∀ e ∈ t.calls.queue, e.station ≠ a) ∧ stationTold a .faulted reason u t ∧
            t.port.replies = u.port.replies ++ u.operationReply a st .short ++ u.queueReplies a .faulted))

/-- STREAM_DOWN_SLOT (R14, R52 to R55, log entry 8): a LIVE stream sends its oldest word or, when empty, FILL as an
underrun; a HELD one sends FILL and is not changed. -/
def Obligations.StreamDownSlotSendsWord : Prop :=
  ∀ (s u : State) (slot id : Nat) (st : Stream) (line : Option Word), 1 ≤ slot → slot ≤ 31 → s.reachesSlot slot →
    u = passSlots slot s → u.roleNow slot = .stream id → u.stream id = some st → st.direction = .down →
    ∃ t, exec (.streamDownSlot slot line) s = .next t ∧
      (∀ i, i ≠ id → t.stream i = u.stream i) ∧ t.streams.freeBlocks = u.streams.freeBlocks ∧
      t.plans = u.plans ∧ t.stations = u.stations ∧ t.trims = u.trims ∧ t.calls = u.calls ∧ t.port = u.port ∧
      (line = none → t.faults = u.faults) ∧
      (∀ w r, t.engine.line = some w → line = some r →
        (r = w → t.faults = u.faults) ∧ (r ≠ w → faultReported 0 .foreign slot (some r) u t)) ∧
      (st.state ≠ .live → t.stream id = some st ∧ t.engine.line = some (fillWord st.station) ∧
        (line = none → t.notices = u.notices)) ∧
      (∀ w rest, st.state = .live → st.buffer = w :: rest →
        t.stream id = some { st with buffer := rest, underrunRun := false } ∧
        t.engine.line = some (dataWord st.station w) ∧
        (line = none → t.notices =
          if st.watermark ≤ st.capacity - rest.length then u.notices.offerMarker id (.space id) else u.notices)) ∧
      (st.state = .live → st.buffer = [] →
        t.stream id = some { st with underruns := satSucc 65535 st.underruns, underrunRun := true } ∧
        t.engine.line = some (fillWord st.station) ∧
        ∀ q, q = (if st.underrunRun = true then u.notices
            else u.notices.offer
              (.streamFault id .underrun u.engine.frameNumber slot (satSucc 65535 st.underruns))) →
          (line = none → t.notices = if st.watermark ≤ st.capacity then q.offerMarker id (.space id) else q))

/-- STREAM_UP_SLOT of a LIVE stream (R16, R17, R56 to R59): a sample is appended or overruns, anything else is a gap;
CHECK and FOREIGN words are reported at the stream's station, behind the gap, so that the STREAM_FAULT notice of the gap
precedes the FAULT notice (R133). -/
def Obligations.StreamUpSlotTakesSampleOrGap : Prop :=
  ∀ (s u : State) (slot id a : Nat) (st : Stream) (line : Option Word), 1 ≤ slot → slot ≤ 31 → s.reachesSlot slot →
    u = passSlots slot s → u.roleNow slot = .stream id → u.plans.active.role slot = .stream id →
    u.stream id = some st → st.direction = .up → st.state = .live → st.station = a → 1 ≤ a → a ≤ 15 →
    ∃ t, exec (.streamUpSlot slot line) s = .next t ∧
      (∀ i, i ≠ id → t.stream i = u.stream i) ∧ t.streams.freeBlocks = u.streams.freeBlocks ∧
      t.plans = u.plans ∧ t.stations = u.stations ∧ t.trims = u.trims ∧ t.calls = u.calls ∧ t.port = u.port ∧
      t.engine = { u.engine with frame := u.engine.frame.map (fun fr => { fr with nextSlot := slot + 1 }), line := none } ∧
      (∀ w, line = some w → oddParity w = false → wordAddress w = a → wordKind w = 2 →
        t.faults = u.faults ∧
        (st.buffer.length < st.capacity →
          t.stream id = some { st with buffer := st.buffer ++ [wordPayload w], overrunRun := false, gapRun := false } ∧
          t.notices = (if st.watermark ≤ st.buffer.length + 1
            then u.notices.offerMarker id (.data id) else u.notices)) ∧
        (st.capacity ≤ st.buffer.length →
          t.stream id = some { st with overruns := satSucc 65535 st.overruns, overrunRun := true, gapRun := false } ∧
          ∀ q, q = (if st.overrunRun = true then u.notices
              else u.notices.offer
                (.streamFault id .overrun u.engine.frameNumber slot (satSucc 65535 st.overruns))) →
            t.notices = if st.watermark ≤ st.buffer.length then q.offerMarker id (.data id) else q)) ∧
      ((∀ w, line = some w → ¬ (oddParity w = false ∧ wordAddress w = a ∧ wordKind w = 2)) →
        t.stream id = some { st with gaps := satSucc 65535 st.gaps, gapRun := true } ∧
        ∀ q, q = (if st.gapRun = true then u.notices
            else u.notices.offer (.streamFault id .gap u.engine.frameNumber slot (satSucc 65535 st.gaps))) →
          (line = none → t.faults = u.faults ∧ t.notices = q) ∧
          ∀ w kind, line = some w → kind = (if oddParity w = true then FaultKind.check else .foreign) →
            faultReported a kind slot (some w) u t ∧
            t.notices = ((u.faultCell a).record.elim
              (q.offer (.fault a { kind := kind, frame := u.engine.frameNumber, slot := slot, raw := some w }))
              (fun _ => q)))

/-- UNEXPECTED_WORD_SLOT (R19, R132, R133, log entry 8): FOREIGN at address 0, whatever the word, and nothing else. -/
def Obligations.UnexpectedWordIsForeign : Prop :=
  ∀ (s u : State) (slot : Nat) (w : Word), 1 ≤ slot → slot ≤ 31 → s.reachesSlot slot → u = passSlots slot s →
    (u.roleNow slot = .free ∨ (∃ k, u.roleNow slot = .serviceUp k ∧ u.trims.held k = none) ∨
     (∃ j, u.roleNow slot = .commandUp j ∧ u.exchange j = none) ∨
     ∃ id st, u.roleNow slot = .stream id ∧ u.stream id = some st ∧ st.direction = .up ∧ st.state ≠ .live) →
    ∃ t, exec (.unexpectedWordSlot slot w) s = .next t ∧ faultReported 0 .foreign slot (some w) u t ∧
      t.notices = ((u.faultCell 0).record.elim
        (u.notices.offer (.fault 0 { kind := .foreign, frame := u.engine.frameNumber, slot := slot, raw := some w }))
        (fun _ => u.notices)) ∧
      t.engine.line = none ∧ t.plans = u.plans ∧ t.streams = u.streams ∧ t.stations = u.stations ∧
      t.trims = u.trims ∧ t.calls = u.calls ∧ t.port = u.port

/-- Every trunk word the part forms has even parity and carries its fields where 10.7 puts them, and the
classification of R16 reads an up word by them (R16, R180). -/
def Obligations.TrunkWordRoundTrip : Prop :=
  (∀ (kind : BitVec 3) (a : Nat) (p : Sample), a ≤ 15 →
    oddParity (makeWord kind a p) = false ∧ wordKind (makeWord kind a p) = kind ∧
    wordAddress (makeWord kind a p) = a ∧ wordPayload (makeWord kind a p) = p) ∧
  (∀ (a attr value : Nat) (o : Order), a ≤ 15 → attr ≤ 255 → value ≤ 4095 →
    payloadHigh (wordPayload (orderWord a o attr value)) = o.code ∧
    payloadAttr (wordPayload (orderWord a o attr value)) = attr ∧
    payloadValue (wordPayload (orderWord a o attr value)) = value) ∧
  ∀ (a : Nat) (acc : Accepts) (w : Word),
    classify a acc none = .silent ∧
    (oddParity w = true → classify a acc (some w) = .check w) ∧
    (oddParity w = false → wordAddress w ≠ a → classify a acc (some w) = .foreign w) ∧
    (oddParity w = false → wordAddress w = a → acc = .data → wordKind w = 2 →
      classify a acc (some w) = .valid (.sample (wordPayload w))) ∧
    (oddParity w = false → wordAddress w = a → acc ≠ .data → wordKind w = 5 → payloadHigh (wordPayload w) = 1 →
      classify a acc (some w) = .valid (.done (payloadAttr (wordPayload w)) (payloadValue (wordPayload w))))

/-! ## Invariants -/

/-- R42: free blocks plus blocks held are 64 after every step from a state in which they are. -/
def Obligations.PoolStaysWhole : Prop := ∀ s t : State, PoolWhole s → step s = .next t → PoolWhole t

/-- R40: no buffer ever holds more words than its capacity. -/
def Obligations.BuffersNeverOverflow : Prop := ∀ s t : State, BuffersFit s → step s = .next t → BuffersFit t

/-- R131, R132: a fault count is 0 exactly while no record is present. -/
def Obligations.FaultCountsStayTrue : Prop := ∀ s t : State, FaultsCounted s → step s = .next t → FaultsCounted t

/-- R163, R166, R172: the notice queue keeps its bounds and the marker index stays true. -/
def Obligations.MarkerIndexStaysTrue : Prop := ∀ s t : State, MarkersIndexed s → step s = .next t → MarkersIndexed t

/-- R153, R154: the table holds at most 8 entries with different tags, and a reply waits for each entry marked so. Beside
it the command queue, the command pairs, the pending operations, the wake queue and the host trims stay those of its
unanswered requests (R64, R80, R105, R111, R113). -/
def Obligations.OutstandingTableStaysTrue : Prop :=
  (∀ s t : State, PortBounded s → step s = .next t → PortBounded t) ∧
  ∀ s t : State, PortBounded s → ExchangesAgree s → WorkOwned s → step s = .next t → WorkOwned t

/-- R2, R3, R6, R9: the Frame Engine keeps its ranges. That STOPPING never stands without a frame in progress is the
model's choice (log entry 10), that no countdown is left when the last frame ends in STARTING its reading (log entry 6).
-/
def Obligations.EngineStaysSound : Prop := ∀ s t : State, EngineSound s → step s = .next t → EngineSound t

/-- R69, R88: a station has at most one exchange in flight and its balance stays between -8 and 8. -/
def Obligations.BalancesStayInRange : Prop := ∀ s t : State, ExchangesAgree s → step s = .next t → ExchangesAgree t

/-- R20, R23: the relation between the two plans and the streams is kept through every edit and every swap. R47: a stream
of the active plan is LIVE exactly while its station is ACTIVE. -/
def Obligations.PlansStayRelated : Prop :=
  (∀ s t : State, PlansAgree s → step s = .next t → PlansAgree t) ∧
  ∀ s t : State, StreamsFollowStations s → step s = .next t → StreamsFollowStations t

/-- The state after reset meets every invariant. -/
def Obligations.ResetMeetsInvariants : Prop :=
  PoolWhole State.reset ∧ BuffersFit State.reset ∧ FaultsCounted State.reset ∧ MarkersIndexed State.reset ∧
  PortBounded State.reset ∧ EngineSound State.reset ∧ ExchangesAgree State.reset ∧ PlansAgree State.reset ∧
  StreamsFollowStations State.reset ∧ WorkOwned State.reset

/-- R3: the frame number rises by one at a frame start and returns to 0 only at POWER_ON and RESET_POINT. That PLAN_SWAP,
QUIET_SPAN_END and TRIM_DUE are frame starts is the model's reading (log entry 9), that a TRUNK STOP between two frames
comes after the frame start its choice (log entry 10). -/
def Obligations.FrameNumberRisesByOne : Prop :=
  ∀ (c : Instr) (s t : State), exec c s = .next t →
    t.engine.frameNumber = s.engine.frameNumber ∨
    (t.engine.frameNumber = s.engine.frameNumber + 1 ∧
      (c ∈ [.frameStart, .planSwap, .trunkStop] ∨ ∃ a, c = .trimDue a ∨ c = .quietSpanEnd a)) ∨
    (t.engine.frameNumber = 0 ∧ (c = .resetPoint ∨ ∃ bds1 bds0, c = .powerOn bds1 bds0))

end
end

