-- ==== Sys2Proof/Laws/State.lean ====
section
/-! SUPPORT. One lemma per field per update: what each named update of State writes, and that it leaves the other fields
and their readers alone. -/

namespace Sys2Proof.Machine

variable (s : State)

/-! ### setStation -/

@[simp] theorem State.setStation_engine (a : Nat) (r : Station) : (s.setStation a r).engine = s.engine := rfl
@[simp] theorem State.setStation_plans (a : Nat) (r : Station) : (s.setStation a r).plans = s.plans := rfl
@[simp] theorem State.setStation_streams (a : Nat) (r : Station) : (s.setStation a r).streams = s.streams := rfl
@[simp] theorem State.setStation_stations (a : Nat) (r : Station) : (s.setStation a r).stations = s.stations.set a r := rfl
@[simp] theorem State.setStation_trims (a : Nat) (r : Station) : (s.setStation a r).trims = s.trims := rfl
@[simp] theorem State.setStation_calls (a : Nat) (r : Station) : (s.setStation a r).calls = s.calls := rfl
@[simp] theorem State.setStation_faults (a : Nat) (r : Station) : (s.setStation a r).faults = s.faults := rfl
@[simp] theorem State.setStation_notices (a : Nat) (r : Station) : (s.setStation a r).notices = s.notices := rfl
@[simp] theorem State.setStation_port (a : Nat) (r : Station) : (s.setStation a r).port = s.port := rfl
@[simp] theorem State.setStation_pending (a : Nat) (r : Station) : (s.setStation a r).pending = s.pending := rfl
@[simp] theorem State.setStation_account (a : Nat) (r : Station) (n : Nat) : (s.setStation a r).account n = s.account n := rfl
@[simp] theorem State.setStation_exchange (a : Nat) (r : Station) (n : Nat) : (s.setStation a r).exchange n = s.exchange n := rfl
@[simp] theorem State.setStation_stream (a : Nat) (r : Station) (n : Nat) : (s.setStation a r).stream n = s.stream n := rfl
@[simp] theorem State.setStation_faultCell (a : Nat) (r : Station) (n : Nat) : (s.setStation a r).faultCell n = s.faultCell n := rfl

/-! ### onStation -/

@[simp] theorem State.onStation_engine (a : Nat) (f : Station → Station) : (s.onStation a f).engine = s.engine := rfl
@[simp] theorem State.onStation_plans (a : Nat) (f : Station → Station) : (s.onStation a f).plans = s.plans := rfl
@[simp] theorem State.onStation_streams (a : Nat) (f : Station → Station) : (s.onStation a f).streams = s.streams := rfl
@[simp] theorem State.onStation_stations (a : Nat) (f : Station → Station) : (s.onStation a f).stations = s.stations.set a (f (s.station a)) := rfl
@[simp] theorem State.onStation_trims (a : Nat) (f : Station → Station) : (s.onStation a f).trims = s.trims := rfl
@[simp] theorem State.onStation_calls (a : Nat) (f : Station → Station) : (s.onStation a f).calls = s.calls := rfl
@[simp] theorem State.onStation_faults (a : Nat) (f : Station → Station) : (s.onStation a f).faults = s.faults := rfl
@[simp] theorem State.onStation_notices (a : Nat) (f : Station → Station) : (s.onStation a f).notices = s.notices := rfl
@[simp] theorem State.onStation_port (a : Nat) (f : Station → Station) : (s.onStation a f).port = s.port := rfl
@[simp] theorem State.onStation_pending (a : Nat) (f : Station → Station) : (s.onStation a f).pending = s.pending := rfl
@[simp] theorem State.onStation_account (a : Nat) (f : Station → Station) (n : Nat) : (s.onStation a f).account n = s.account n := rfl
@[simp] theorem State.onStation_exchange (a : Nat) (f : Station → Station) (n : Nat) : (s.onStation a f).exchange n = s.exchange n := rfl
@[simp] theorem State.onStation_stream (a : Nat) (f : Station → Station) (n : Nat) : (s.onStation a f).stream n = s.stream n := rfl
@[simp] theorem State.onStation_faultCell (a : Nat) (f : Station → Station) (n : Nat) : (s.onStation a f).faultCell n = s.faultCell n := rfl

/-! ### setAccount -/

@[simp] theorem State.setAccount_engine (a : Nat) (r : TrimAccount) : (s.setAccount a r).engine = s.engine := rfl
@[simp] theorem State.setAccount_plans (a : Nat) (r : TrimAccount) : (s.setAccount a r).plans = s.plans := rfl
@[simp] theorem State.setAccount_streams (a : Nat) (r : TrimAccount) : (s.setAccount a r).streams = s.streams := rfl
@[simp] theorem State.setAccount_stations (a : Nat) (r : TrimAccount) : (s.setAccount a r).stations = s.stations := rfl
@[simp] theorem State.setAccount_trims (a : Nat) (r : TrimAccount) : (s.setAccount a r).trims = s.trims.set a r := rfl
@[simp] theorem State.setAccount_calls (a : Nat) (r : TrimAccount) : (s.setAccount a r).calls = s.calls := rfl
@[simp] theorem State.setAccount_faults (a : Nat) (r : TrimAccount) : (s.setAccount a r).faults = s.faults := rfl
@[simp] theorem State.setAccount_notices (a : Nat) (r : TrimAccount) : (s.setAccount a r).notices = s.notices := rfl
@[simp] theorem State.setAccount_port (a : Nat) (r : TrimAccount) : (s.setAccount a r).port = s.port := rfl
@[simp] theorem State.setAccount_pending (a : Nat) (r : TrimAccount) : (s.setAccount a r).pending = s.pending := rfl
@[simp] theorem State.setAccount_station (a : Nat) (r : TrimAccount) (n : Nat) : (s.setAccount a r).station n = s.station n := rfl
@[simp] theorem State.setAccount_exchange (a : Nat) (r : TrimAccount) (n : Nat) : (s.setAccount a r).exchange n = s.exchange n := rfl
@[simp] theorem State.setAccount_stream (a : Nat) (r : TrimAccount) (n : Nat) : (s.setAccount a r).stream n = s.stream n := rfl
@[simp] theorem State.setAccount_faultCell (a : Nat) (r : TrimAccount) (n : Nat) : (s.setAccount a r).faultCell n = s.faultCell n := rfl

/-! ### onAccount -/

@[simp] theorem State.onAccount_engine (a : Nat) (f : TrimAccount → TrimAccount) : (s.onAccount a f).engine = s.engine := rfl
@[simp] theorem State.onAccount_plans (a : Nat) (f : TrimAccount → TrimAccount) : (s.onAccount a f).plans = s.plans := rfl
@[simp] theorem State.onAccount_streams (a : Nat) (f : TrimAccount → TrimAccount) : (s.onAccount a f).streams = s.streams := rfl
@[simp] theorem State.onAccount_stations (a : Nat) (f : TrimAccount → TrimAccount) : (s.onAccount a f).stations = s.stations := rfl
@[simp] theorem State.onAccount_trims (a : Nat) (f : TrimAccount → TrimAccount) : (s.onAccount a f).trims = s.trims.set a (f (s.account a)) := rfl
@[simp] theorem State.onAccount_calls (a : Nat) (f : TrimAccount → TrimAccount) : (s.onAccount a f).calls = s.calls := rfl
@[simp] theorem State.onAccount_faults (a : Nat) (f : TrimAccount → TrimAccount) : (s.onAccount a f).faults = s.faults := rfl
@[simp] theorem State.onAccount_notices (a : Nat) (f : TrimAccount → TrimAccount) : (s.onAccount a f).notices = s.notices := rfl
@[simp] theorem State.onAccount_port (a : Nat) (f : TrimAccount → TrimAccount) : (s.onAccount a f).port = s.port := rfl
@[simp] theorem State.onAccount_pending (a : Nat) (f : TrimAccount → TrimAccount) : (s.onAccount a f).pending = s.pending := rfl
@[simp] theorem State.onAccount_station (a : Nat) (f : TrimAccount → TrimAccount) (n : Nat) : (s.onAccount a f).station n = s.station n := rfl
@[simp] theorem State.onAccount_exchange (a : Nat) (f : TrimAccount → TrimAccount) (n : Nat) : (s.onAccount a f).exchange n = s.exchange n := rfl
@[simp] theorem State.onAccount_stream (a : Nat) (f : TrimAccount → TrimAccount) (n : Nat) : (s.onAccount a f).stream n = s.stream n := rfl
@[simp] theorem State.onAccount_faultCell (a : Nat) (f : TrimAccount → TrimAccount) (n : Nat) : (s.onAccount a f).faultCell n = s.faultCell n := rfl

/-! ### holdTrim -/

@[simp] theorem State.holdTrim_engine (k : Nat) (o : Option Nat) : (s.holdTrim k o).engine = s.engine := rfl
@[simp] theorem State.holdTrim_plans (k : Nat) (o : Option Nat) : (s.holdTrim k o).plans = s.plans := rfl
@[simp] theorem State.holdTrim_streams (k : Nat) (o : Option Nat) : (s.holdTrim k o).streams = s.streams := rfl
@[simp] theorem State.holdTrim_stations (k : Nat) (o : Option Nat) : (s.holdTrim k o).stations = s.stations := rfl
@[simp] theorem State.holdTrim_trims (k : Nat) (o : Option Nat) : (s.holdTrim k o).trims = s.trims.hold k o := rfl
@[simp] theorem State.holdTrim_calls (k : Nat) (o : Option Nat) : (s.holdTrim k o).calls = s.calls := rfl
@[simp] theorem State.holdTrim_faults (k : Nat) (o : Option Nat) : (s.holdTrim k o).faults = s.faults := rfl
@[simp] theorem State.holdTrim_notices (k : Nat) (o : Option Nat) : (s.holdTrim k o).notices = s.notices := rfl
@[simp] theorem State.holdTrim_port (k : Nat) (o : Option Nat) : (s.holdTrim k o).port = s.port := rfl
@[simp] theorem State.holdTrim_pending (k : Nat) (o : Option Nat) : (s.holdTrim k o).pending = s.pending := rfl
@[simp] theorem State.holdTrim_station (k : Nat) (o : Option Nat) (n : Nat) : (s.holdTrim k o).station n = s.station n := rfl
@[simp] theorem State.holdTrim_exchange (k : Nat) (o : Option Nat) (n : Nat) : (s.holdTrim k o).exchange n = s.exchange n := rfl
@[simp] theorem State.holdTrim_stream (k : Nat) (o : Option Nat) (n : Nat) : (s.holdTrim k o).stream n = s.stream n := rfl
@[simp] theorem State.holdTrim_faultCell (k : Nat) (o : Option Nat) (n : Nat) : (s.holdTrim k o).faultCell n = s.faultCell n := rfl

/-! ### setExchange -/

@[simp] theorem State.setExchange_engine (j : Nat) (x : Option Exchange) : (s.setExchange j x).engine = s.engine := rfl
@[simp] theorem State.setExchange_plans (j : Nat) (x : Option Exchange) : (s.setExchange j x).plans = s.plans := rfl
@[simp] theorem State.setExchange_streams (j : Nat) (x : Option Exchange) : (s.setExchange j x).streams = s.streams := rfl
@[simp] theorem State.setExchange_stations (j : Nat) (x : Option Exchange) : (s.setExchange j x).stations = s.stations := rfl
@[simp] theorem State.setExchange_trims (j : Nat) (x : Option Exchange) : (s.setExchange j x).trims = s.trims := rfl
@[simp] theorem State.setExchange_calls (j : Nat) (x : Option Exchange) : (s.setExchange j x).calls = s.calls.set j x := rfl
@[simp] theorem State.setExchange_faults (j : Nat) (x : Option Exchange) : (s.setExchange j x).faults = s.faults := rfl
@[simp] theorem State.setExchange_notices (j : Nat) (x : Option Exchange) : (s.setExchange j x).notices = s.notices := rfl
@[simp] theorem State.setExchange_port (j : Nat) (x : Option Exchange) : (s.setExchange j x).port = s.port := rfl
@[simp] theorem State.setExchange_pending (j : Nat) (x : Option Exchange) : (s.setExchange j x).pending = s.pending := rfl
@[simp] theorem State.setExchange_station (j : Nat) (x : Option Exchange) (n : Nat) : (s.setExchange j x).station n = s.station n := rfl
@[simp] theorem State.setExchange_account (j : Nat) (x : Option Exchange) (n : Nat) : (s.setExchange j x).account n = s.account n := rfl
@[simp] theorem State.setExchange_stream (j : Nat) (x : Option Exchange) (n : Nat) : (s.setExchange j x).stream n = s.stream n := rfl
@[simp] theorem State.setExchange_faultCell (j : Nat) (x : Option Exchange) (n : Nat) : (s.setExchange j x).faultCell n = s.faultCell n := rfl

/-! ### setStream -/

@[simp] theorem State.setStream_engine (id : Nat) (o : Option Stream) : (s.setStream id o).engine = s.engine := rfl
@[simp] theorem State.setStream_plans (id : Nat) (o : Option Stream) : (s.setStream id o).plans = s.plans := rfl
@[simp] theorem State.setStream_streams (id : Nat) (o : Option Stream) : (s.setStream id o).streams = s.streams.set id o := rfl
@[simp] theorem State.setStream_stations (id : Nat) (o : Option Stream) : (s.setStream id o).stations = s.stations := rfl
@[simp] theorem State.setStream_trims (id : Nat) (o : Option Stream) : (s.setStream id o).trims = s.trims := rfl
@[simp] theorem State.setStream_calls (id : Nat) (o : Option Stream) : (s.setStream id o).calls = s.calls := rfl
@[simp] theorem State.setStream_faults (id : Nat) (o : Option Stream) : (s.setStream id o).faults = s.faults := rfl
@[simp] theorem State.setStream_notices (id : Nat) (o : Option Stream) : (s.setStream id o).notices = s.notices := rfl
@[simp] theorem State.setStream_port (id : Nat) (o : Option Stream) : (s.setStream id o).port = s.port := rfl
@[simp] theorem State.setStream_pending (id : Nat) (o : Option Stream) : (s.setStream id o).pending = s.pending := rfl
@[simp] theorem State.setStream_station (id : Nat) (o : Option Stream) (n : Nat) : (s.setStream id o).station n = s.station n := rfl
@[simp] theorem State.setStream_account (id : Nat) (o : Option Stream) (n : Nat) : (s.setStream id o).account n = s.account n := rfl
@[simp] theorem State.setStream_exchange (id : Nat) (o : Option Stream) (n : Nat) : (s.setStream id o).exchange n = s.exchange n := rfl
@[simp] theorem State.setStream_faultCell (id : Nat) (o : Option Stream) (n : Nat) : (s.setStream id o).faultCell n = s.faultCell n := rfl

/-! ### setFault -/

@[simp] theorem State.setFault_engine (a : Nat) (c : FaultCell) : (s.setFault a c).engine = s.engine := rfl
@[simp] theorem State.setFault_plans (a : Nat) (c : FaultCell) : (s.setFault a c).plans = s.plans := rfl
@[simp] theorem State.setFault_streams (a : Nat) (c : FaultCell) : (s.setFault a c).streams = s.streams := rfl
@[simp] theorem State.setFault_stations (a : Nat) (c : FaultCell) : (s.setFault a c).stations = s.stations := rfl
@[simp] theorem State.setFault_trims (a : Nat) (c : FaultCell) : (s.setFault a c).trims = s.trims := rfl
@[simp] theorem State.setFault_calls (a : Nat) (c : FaultCell) : (s.setFault a c).calls = s.calls := rfl
@[simp] theorem State.setFault_faults (a : Nat) (c : FaultCell) : (s.setFault a c).faults = s.faults.set a c := rfl
@[simp] theorem State.setFault_notices (a : Nat) (c : FaultCell) : (s.setFault a c).notices = s.notices := rfl
@[simp] theorem State.setFault_port (a : Nat) (c : FaultCell) : (s.setFault a c).port = s.port := rfl
@[simp] theorem State.setFault_pending (a : Nat) (c : FaultCell) : (s.setFault a c).pending = s.pending := rfl
@[simp] theorem State.setFault_station (a : Nat) (c : FaultCell) (n : Nat) : (s.setFault a c).station n = s.station n := rfl
@[simp] theorem State.setFault_account (a : Nat) (c : FaultCell) (n : Nat) : (s.setFault a c).account n = s.account n := rfl
@[simp] theorem State.setFault_exchange (a : Nat) (c : FaultCell) (n : Nat) : (s.setFault a c).exchange n = s.exchange n := rfl
@[simp] theorem State.setFault_stream (a : Nat) (c : FaultCell) (n : Nat) : (s.setFault a c).stream n = s.stream n := rfl

/-! ### offer -/

@[simp] theorem State.offer_engine (m : Notice) : (s.offer m).engine = s.engine := rfl
@[simp] theorem State.offer_plans (m : Notice) : (s.offer m).plans = s.plans := rfl
@[simp] theorem State.offer_streams (m : Notice) : (s.offer m).streams = s.streams := rfl
@[simp] theorem State.offer_stations (m : Notice) : (s.offer m).stations = s.stations := rfl
@[simp] theorem State.offer_trims (m : Notice) : (s.offer m).trims = s.trims := rfl
@[simp] theorem State.offer_calls (m : Notice) : (s.offer m).calls = s.calls := rfl
@[simp] theorem State.offer_faults (m : Notice) : (s.offer m).faults = s.faults := rfl
@[simp] theorem State.offer_notices (m : Notice) : (s.offer m).notices = s.notices.offer m := rfl
@[simp] theorem State.offer_port (m : Notice) : (s.offer m).port = s.port := rfl
@[simp] theorem State.offer_pending (m : Notice) : (s.offer m).pending = s.pending := rfl
@[simp] theorem State.offer_station (m : Notice) (n : Nat) : (s.offer m).station n = s.station n := rfl
@[simp] theorem State.offer_account (m : Notice) (n : Nat) : (s.offer m).account n = s.account n := rfl
@[simp] theorem State.offer_exchange (m : Notice) (n : Nat) : (s.offer m).exchange n = s.exchange n := rfl
@[simp] theorem State.offer_stream (m : Notice) (n : Nat) : (s.offer m).stream n = s.stream n := rfl
@[simp] theorem State.offer_faultCell (m : Notice) (n : Nat) : (s.offer m).faultCell n = s.faultCell n := rfl

/-! ### offerData -/

@[simp] theorem State.offerData_engine (id : Nat) : (s.offerData id).engine = s.engine := rfl
@[simp] theorem State.offerData_plans (id : Nat) : (s.offerData id).plans = s.plans := rfl
@[simp] theorem State.offerData_streams (id : Nat) : (s.offerData id).streams = s.streams := rfl
@[simp] theorem State.offerData_stations (id : Nat) : (s.offerData id).stations = s.stations := rfl
@[simp] theorem State.offerData_trims (id : Nat) : (s.offerData id).trims = s.trims := rfl
@[simp] theorem State.offerData_calls (id : Nat) : (s.offerData id).calls = s.calls := rfl
@[simp] theorem State.offerData_faults (id : Nat) : (s.offerData id).faults = s.faults := rfl
@[simp] theorem State.offerData_notices (id : Nat) : (s.offerData id).notices = s.notices.offerMarker id (.data id) := rfl
@[simp] theorem State.offerData_port (id : Nat) : (s.offerData id).port = s.port := rfl
@[simp] theorem State.offerData_pending (id : Nat) : (s.offerData id).pending = s.pending := rfl
@[simp] theorem State.offerData_station (id : Nat) (n : Nat) : (s.offerData id).station n = s.station n := rfl
@[simp] theorem State.offerData_account (id : Nat) (n : Nat) : (s.offerData id).account n = s.account n := rfl
@[simp] theorem State.offerData_exchange (id : Nat) (n : Nat) : (s.offerData id).exchange n = s.exchange n := rfl
@[simp] theorem State.offerData_stream (id : Nat) (n : Nat) : (s.offerData id).stream n = s.stream n := rfl
@[simp] theorem State.offerData_faultCell (id : Nat) (n : Nat) : (s.offerData id).faultCell n = s.faultCell n := rfl

/-! ### offerSpace -/

@[simp] theorem State.offerSpace_engine (id : Nat) : (s.offerSpace id).engine = s.engine := rfl
@[simp] theorem State.offerSpace_plans (id : Nat) : (s.offerSpace id).plans = s.plans := rfl
@[simp] theorem State.offerSpace_streams (id : Nat) : (s.offerSpace id).streams = s.streams := rfl
@[simp] theorem State.offerSpace_stations (id : Nat) : (s.offerSpace id).stations = s.stations := rfl
@[simp] theorem State.offerSpace_trims (id : Nat) : (s.offerSpace id).trims = s.trims := rfl
@[simp] theorem State.offerSpace_calls (id : Nat) : (s.offerSpace id).calls = s.calls := rfl
@[simp] theorem State.offerSpace_faults (id : Nat) : (s.offerSpace id).faults = s.faults := rfl
@[simp] theorem State.offerSpace_notices (id : Nat) : (s.offerSpace id).notices = s.notices.offerMarker id (.space id) := rfl
@[simp] theorem State.offerSpace_port (id : Nat) : (s.offerSpace id).port = s.port := rfl
@[simp] theorem State.offerSpace_pending (id : Nat) : (s.offerSpace id).pending = s.pending := rfl
@[simp] theorem State.offerSpace_station (id : Nat) (n : Nat) : (s.offerSpace id).station n = s.station n := rfl
@[simp] theorem State.offerSpace_account (id : Nat) (n : Nat) : (s.offerSpace id).account n = s.account n := rfl
@[simp] theorem State.offerSpace_exchange (id : Nat) (n : Nat) : (s.offerSpace id).exchange n = s.exchange n := rfl
@[simp] theorem State.offerSpace_stream (id : Nat) (n : Nat) : (s.offerSpace id).stream n = s.stream n := rfl
@[simp] theorem State.offerSpace_faultCell (id : Nat) (n : Nat) : (s.offerSpace id).faultCell n = s.faultCell n := rfl

/-! ### replyNow -/

@[simp] theorem State.replyNow_engine (k t : Byte) (st : Status) (b : ReplyBody) : (s.replyNow k t st b).engine = s.engine := rfl
@[simp] theorem State.replyNow_plans (k t : Byte) (st : Status) (b : ReplyBody) : (s.replyNow k t st b).plans = s.plans := rfl
@[simp] theorem State.replyNow_streams (k t : Byte) (st : Status) (b : ReplyBody) : (s.replyNow k t st b).streams = s.streams := rfl
@[simp] theorem State.replyNow_stations (k t : Byte) (st : Status) (b : ReplyBody) : (s.replyNow k t st b).stations = s.stations := rfl
@[simp] theorem State.replyNow_trims (k t : Byte) (st : Status) (b : ReplyBody) : (s.replyNow k t st b).trims = s.trims := rfl
@[simp] theorem State.replyNow_calls (k t : Byte) (st : Status) (b : ReplyBody) : (s.replyNow k t st b).calls = s.calls := rfl
@[simp] theorem State.replyNow_faults (k t : Byte) (st : Status) (b : ReplyBody) : (s.replyNow k t st b).faults = s.faults := rfl
@[simp] theorem State.replyNow_notices (k t : Byte) (st : Status) (b : ReplyBody) : (s.replyNow k t st b).notices = s.notices := rfl
@[simp] theorem State.replyNow_port (k t : Byte) (st : Status) (b : ReplyBody) : (s.replyNow k t st b).port = s.port.replyNow k t st b := rfl
@[simp] theorem State.replyNow_pending (k t : Byte) (st : Status) (b : ReplyBody) : (s.replyNow k t st b).pending = s.pending := rfl
@[simp] theorem State.replyNow_station (k t : Byte) (st : Status) (b : ReplyBody) (n : Nat) : (s.replyNow k t st b).station n = s.station n := rfl
@[simp] theorem State.replyNow_account (k t : Byte) (st : Status) (b : ReplyBody) (n : Nat) : (s.replyNow k t st b).account n = s.account n := rfl
@[simp] theorem State.replyNow_exchange (k t : Byte) (st : Status) (b : ReplyBody) (n : Nat) : (s.replyNow k t st b).exchange n = s.exchange n := rfl
@[simp] theorem State.replyNow_stream (k t : Byte) (st : Status) (b : ReplyBody) (n : Nat) : (s.replyNow k t st b).stream n = s.stream n := rfl
@[simp] theorem State.replyNow_faultCell (k t : Byte) (st : Status) (b : ReplyBody) (n : Nat) : (s.replyNow k t st b).faultCell n = s.faultCell n := rfl

/-! ### answer -/

@[simp] theorem State.answer_engine (t : Byte) (st : Status) (b : ReplyBody) : (s.answer t st b).engine = s.engine := rfl
@[simp] theorem State.answer_plans (t : Byte) (st : Status) (b : ReplyBody) : (s.answer t st b).plans = s.plans := rfl
@[simp] theorem State.answer_streams (t : Byte) (st : Status) (b : ReplyBody) : (s.answer t st b).streams = s.streams := rfl
@[simp] theorem State.answer_stations (t : Byte) (st : Status) (b : ReplyBody) : (s.answer t st b).stations = s.stations := rfl
@[simp] theorem State.answer_trims (t : Byte) (st : Status) (b : ReplyBody) : (s.answer t st b).trims = s.trims := rfl
@[simp] theorem State.answer_calls (t : Byte) (st : Status) (b : ReplyBody) : (s.answer t st b).calls = s.calls := rfl
@[simp] theorem State.answer_faults (t : Byte) (st : Status) (b : ReplyBody) : (s.answer t st b).faults = s.faults := rfl
@[simp] theorem State.answer_notices (t : Byte) (st : Status) (b : ReplyBody) : (s.answer t st b).notices = s.notices := rfl
@[simp] theorem State.answer_port (t : Byte) (st : Status) (b : ReplyBody) : (s.answer t st b).port = s.port.answer t st b := rfl
@[simp] theorem State.answer_pending (t : Byte) (st : Status) (b : ReplyBody) : (s.answer t st b).pending = s.pending := rfl
@[simp] theorem State.answer_station (t : Byte) (st : Status) (b : ReplyBody) (n : Nat) : (s.answer t st b).station n = s.station n := rfl
@[simp] theorem State.answer_account (t : Byte) (st : Status) (b : ReplyBody) (n : Nat) : (s.answer t st b).account n = s.account n := rfl
@[simp] theorem State.answer_exchange (t : Byte) (st : Status) (b : ReplyBody) (n : Nat) : (s.answer t st b).exchange n = s.exchange n := rfl
@[simp] theorem State.answer_stream (t : Byte) (st : Status) (b : ReplyBody) (n : Nat) : (s.answer t st b).stream n = s.stream n := rfl
@[simp] theorem State.answer_faultCell (t : Byte) (st : Status) (b : ReplyBody) (n : Nat) : (s.answer t st b).faultCell n = s.faultCell n := rfl

/-! ### enter -/

@[simp] theorem State.enter_engine (e : Outstanding) : (s.enter e).engine = s.engine := rfl
@[simp] theorem State.enter_plans (e : Outstanding) : (s.enter e).plans = s.plans := rfl
@[simp] theorem State.enter_streams (e : Outstanding) : (s.enter e).streams = s.streams := rfl
@[simp] theorem State.enter_stations (e : Outstanding) : (s.enter e).stations = s.stations := rfl
@[simp] theorem State.enter_trims (e : Outstanding) : (s.enter e).trims = s.trims := rfl
@[simp] theorem State.enter_calls (e : Outstanding) : (s.enter e).calls = s.calls := rfl
@[simp] theorem State.enter_faults (e : Outstanding) : (s.enter e).faults = s.faults := rfl
@[simp] theorem State.enter_notices (e : Outstanding) : (s.enter e).notices = s.notices := rfl
@[simp] theorem State.enter_port (e : Outstanding) : (s.enter e).port = s.port.enter e := rfl
@[simp] theorem State.enter_pending (e : Outstanding) : (s.enter e).pending = s.pending := rfl
@[simp] theorem State.enter_station (e : Outstanding) (n : Nat) : (s.enter e).station n = s.station n := rfl
@[simp] theorem State.enter_account (e : Outstanding) (n : Nat) : (s.enter e).account n = s.account n := rfl
@[simp] theorem State.enter_exchange (e : Outstanding) (n : Nat) : (s.enter e).exchange n = s.exchange n := rfl
@[simp] theorem State.enter_stream (e : Outstanding) (n : Nat) : (s.enter e).stream n = s.stream n := rfl
@[simp] theorem State.enter_faultCell (e : Outstanding) (n : Nat) : (s.enter e).faultCell n = s.faultCell n := rfl

/-! ### setPhase -/

@[simp] theorem State.setPhase_engine (t : Byte) (p : Phase) : (s.setPhase t p).engine = s.engine := rfl
@[simp] theorem State.setPhase_plans (t : Byte) (p : Phase) : (s.setPhase t p).plans = s.plans := rfl
@[simp] theorem State.setPhase_streams (t : Byte) (p : Phase) : (s.setPhase t p).streams = s.streams := rfl
@[simp] theorem State.setPhase_stations (t : Byte) (p : Phase) : (s.setPhase t p).stations = s.stations := rfl
@[simp] theorem State.setPhase_trims (t : Byte) (p : Phase) : (s.setPhase t p).trims = s.trims := rfl
@[simp] theorem State.setPhase_calls (t : Byte) (p : Phase) : (s.setPhase t p).calls = s.calls := rfl
@[simp] theorem State.setPhase_faults (t : Byte) (p : Phase) : (s.setPhase t p).faults = s.faults := rfl
@[simp] theorem State.setPhase_notices (t : Byte) (p : Phase) : (s.setPhase t p).notices = s.notices := rfl
@[simp] theorem State.setPhase_port (t : Byte) (p : Phase) : (s.setPhase t p).port = s.port.setPhase t p := rfl
@[simp] theorem State.setPhase_pending (t : Byte) (p : Phase) : (s.setPhase t p).pending = s.pending := rfl
@[simp] theorem State.setPhase_station (t : Byte) (p : Phase) (n : Nat) : (s.setPhase t p).station n = s.station n := rfl
@[simp] theorem State.setPhase_account (t : Byte) (p : Phase) (n : Nat) : (s.setPhase t p).account n = s.account n := rfl
@[simp] theorem State.setPhase_exchange (t : Byte) (p : Phase) (n : Nat) : (s.setPhase t p).exchange n = s.exchange n := rfl
@[simp] theorem State.setPhase_stream (t : Byte) (p : Phase) (n : Nat) : (s.setPhase t p).stream n = s.stream n := rfl
@[simp] theorem State.setPhase_faultCell (t : Byte) (p : Phase) (n : Nat) : (s.setPhase t p).faultCell n = s.faultCell n := rfl

/-! ### accept -/

@[simp] theorem State.accept_engine (k : ReqKind) (f : ReqFrame) (b : ReplyBody) : (s.accept k f b).engine = s.engine := rfl
@[simp] theorem State.accept_plans (k : ReqKind) (f : ReqFrame) (b : ReplyBody) : (s.accept k f b).plans = s.plans := rfl
@[simp] theorem State.accept_streams (k : ReqKind) (f : ReqFrame) (b : ReplyBody) : (s.accept k f b).streams = s.streams := rfl
@[simp] theorem State.accept_stations (k : ReqKind) (f : ReqFrame) (b : ReplyBody) : (s.accept k f b).stations = s.stations := rfl
@[simp] theorem State.accept_trims (k : ReqKind) (f : ReqFrame) (b : ReplyBody) : (s.accept k f b).trims = s.trims := rfl
@[simp] theorem State.accept_calls (k : ReqKind) (f : ReqFrame) (b : ReplyBody) : (s.accept k f b).calls = s.calls := rfl
@[simp] theorem State.accept_faults (k : ReqKind) (f : ReqFrame) (b : ReplyBody) : (s.accept k f b).faults = s.faults := rfl
@[simp] theorem State.accept_notices (k : ReqKind) (f : ReqFrame) (b : ReplyBody) : (s.accept k f b).notices = s.notices := rfl
@[simp] theorem State.accept_port (k : ReqKind) (f : ReqFrame) (b : ReplyBody) : (s.accept k f b).port = s.port.replyNow k.replyCode f.tag .ok b := rfl
@[simp] theorem State.accept_pending (k : ReqKind) (f : ReqFrame) (b : ReplyBody) : (s.accept k f b).pending = s.pending := rfl
@[simp] theorem State.accept_station (k : ReqKind) (f : ReqFrame) (b : ReplyBody) (n : Nat) : (s.accept k f b).station n = s.station n := rfl
@[simp] theorem State.accept_account (k : ReqKind) (f : ReqFrame) (b : ReplyBody) (n : Nat) : (s.accept k f b).account n = s.account n := rfl
@[simp] theorem State.accept_exchange (k : ReqKind) (f : ReqFrame) (b : ReplyBody) (n : Nat) : (s.accept k f b).exchange n = s.exchange n := rfl
@[simp] theorem State.accept_stream (k : ReqKind) (f : ReqFrame) (b : ReplyBody) (n : Nat) : (s.accept k f b).stream n = s.stream n := rfl
@[simp] theorem State.accept_faultCell (k : ReqKind) (f : ReqFrame) (b : ReplyBody) (n : Nat) : (s.accept k f b).faultCell n = s.faultCell n := rfl

/-! ### refuse -/

@[simp] theorem State.refuse_engine (k : ReqKind) (f : ReqFrame) (st : Status) : (s.refuse k f st).engine = s.engine := rfl
@[simp] theorem State.refuse_plans (k : ReqKind) (f : ReqFrame) (st : Status) : (s.refuse k f st).plans = s.plans := rfl
@[simp] theorem State.refuse_streams (k : ReqKind) (f : ReqFrame) (st : Status) : (s.refuse k f st).streams = s.streams := rfl
@[simp] theorem State.refuse_stations (k : ReqKind) (f : ReqFrame) (st : Status) : (s.refuse k f st).stations = s.stations := rfl
@[simp] theorem State.refuse_trims (k : ReqKind) (f : ReqFrame) (st : Status) : (s.refuse k f st).trims = s.trims := rfl
@[simp] theorem State.refuse_calls (k : ReqKind) (f : ReqFrame) (st : Status) : (s.refuse k f st).calls = s.calls := rfl
@[simp] theorem State.refuse_faults (k : ReqKind) (f : ReqFrame) (st : Status) : (s.refuse k f st).faults = s.faults := rfl
@[simp] theorem State.refuse_notices (k : ReqKind) (f : ReqFrame) (st : Status) : (s.refuse k f st).notices = s.notices := rfl
@[simp] theorem State.refuse_port (k : ReqKind) (f : ReqFrame) (st : Status) : (s.refuse k f st).port = s.port.replyNow k.replyCode f.tag st (refusalBody k f) := rfl
@[simp] theorem State.refuse_pending (k : ReqKind) (f : ReqFrame) (st : Status) : (s.refuse k f st).pending = s.pending := rfl
@[simp] theorem State.refuse_station (k : ReqKind) (f : ReqFrame) (st : Status) (n : Nat) : (s.refuse k f st).station n = s.station n := rfl
@[simp] theorem State.refuse_account (k : ReqKind) (f : ReqFrame) (st : Status) (n : Nat) : (s.refuse k f st).account n = s.account n := rfl
@[simp] theorem State.refuse_exchange (k : ReqKind) (f : ReqFrame) (st : Status) (n : Nat) : (s.refuse k f st).exchange n = s.exchange n := rfl
@[simp] theorem State.refuse_stream (k : ReqKind) (f : ReqFrame) (st : Status) (n : Nat) : (s.refuse k f st).stream n = s.stream n := rfl
@[simp] theorem State.refuse_faultCell (k : ReqKind) (f : ReqFrame) (st : Status) (n : Nat) : (s.refuse k f st).faultCell n = s.faultCell n := rfl

/-! ### popIntake -/

@[simp] theorem State.popIntake_engine : (s.popIntake).engine = s.engine := rfl
@[simp] theorem State.popIntake_plans : (s.popIntake).plans = s.plans := rfl
@[simp] theorem State.popIntake_streams : (s.popIntake).streams = s.streams := rfl
@[simp] theorem State.popIntake_stations : (s.popIntake).stations = s.stations := rfl
@[simp] theorem State.popIntake_trims : (s.popIntake).trims = s.trims := rfl
@[simp] theorem State.popIntake_calls : (s.popIntake).calls = s.calls := rfl
@[simp] theorem State.popIntake_faults : (s.popIntake).faults = s.faults := rfl
@[simp] theorem State.popIntake_notices : (s.popIntake).notices = s.notices := rfl
@[simp] theorem State.popIntake_port : (s.popIntake).port = { s.port with intake := s.port.intake.tail } := rfl
@[simp] theorem State.popIntake_pending : (s.popIntake).pending = s.pending := rfl
@[simp] theorem State.popIntake_station (n : Nat) : (s.popIntake).station n = s.station n := rfl
@[simp] theorem State.popIntake_account (n : Nat) : (s.popIntake).account n = s.account n := rfl
@[simp] theorem State.popIntake_exchange (n : Nat) : (s.popIntake).exchange n = s.exchange n := rfl
@[simp] theorem State.popIntake_stream (n : Nat) : (s.popIntake).stream n = s.stream n := rfl
@[simp] theorem State.popIntake_faultCell (n : Nat) : (s.popIntake).faultCell n = s.faultCell n := rfl

/-! ### dequeue -/

@[simp] theorem State.dequeue_engine (l : Entry → Bool) : (s.dequeue l).engine = s.engine := rfl
@[simp] theorem State.dequeue_plans (l : Entry → Bool) : (s.dequeue l).plans = s.plans := rfl
@[simp] theorem State.dequeue_streams (l : Entry → Bool) : (s.dequeue l).streams = s.streams := rfl
@[simp] theorem State.dequeue_stations (l : Entry → Bool) : (s.dequeue l).stations = s.stations := rfl
@[simp] theorem State.dequeue_trims (l : Entry → Bool) : (s.dequeue l).trims = s.trims := rfl
@[simp] theorem State.dequeue_calls (l : Entry → Bool) : (s.dequeue l).calls = { s.calls with queue := s.calls.queue.filter (fun e => !l e) } := rfl
@[simp] theorem State.dequeue_faults (l : Entry → Bool) : (s.dequeue l).faults = s.faults := rfl
@[simp] theorem State.dequeue_notices (l : Entry → Bool) : (s.dequeue l).notices = s.notices := rfl
@[simp] theorem State.dequeue_port (l : Entry → Bool) : (s.dequeue l).port = s.port := rfl
@[simp] theorem State.dequeue_pending (l : Entry → Bool) : (s.dequeue l).pending = s.pending := rfl
@[simp] theorem State.dequeue_station (l : Entry → Bool) (n : Nat) : (s.dequeue l).station n = s.station n := rfl
@[simp] theorem State.dequeue_account (l : Entry → Bool) (n : Nat) : (s.dequeue l).account n = s.account n := rfl
@[simp] theorem State.dequeue_stream (l : Entry → Bool) (n : Nat) : (s.dequeue l).stream n = s.stream n := rfl
@[simp] theorem State.dequeue_faultCell (l : Entry → Bool) (n : Nat) : (s.dequeue l).faultCell n = s.faultCell n := rfl

end Sys2Proof.Machine
end

