-- ==== Sys2Proof/Laws/Records.lean ====
section
/-! SUPPORT. Reading a record after a write, for each table (R40, R64, R88, R98, R113, R131), and folds that keep a
property. -/

namespace Sys2Proof.Machine

/-- What every step of a fold keeps, the fold keeps. -/
theorem foldl_keeps {α β : Type} {P : β → Prop} {f : β → α → β} (h : ∀ b x, P b → P (f b x)) :
    ∀ (l : List α) (b : β), P b → P (l.foldl f b)
  | [], _, hb => hb
  | x :: l, b, hb => foldl_keeps h l (f b x) (h b x hb)

/-- As `foldl_keeps`, for the members of the list only. -/
theorem foldl_keeps_mem {α β : Type} {P : β → Prop} {f : β → α → β} :
    ∀ (l : List α) (b : β), (∀ b, ∀ x ∈ l, P b → P (f b x)) → P b → P (l.foldl f b)
  | [], _, _, hb => hb
  | x :: l, b, h, hb =>
    foldl_keeps_mem l (f b x) (fun c y hy => h c y (List.mem_cons_of_mem x hy)) (h b x List.mem_cons_self hb)

/-- A part of the state that no step of a fold changes is unchanged by the fold. -/
theorem foldl_same {α β γ : Type} {p : β → γ} {f : β → α → β} (h : ∀ b x, p (f b x) = p b) (l : List α) (b : β) :
    p (l.foldl f b) = p b :=
  foldl_keeps (P := fun c => p c = p b) (fun c x hc => (h c x).trans hc) l b rfl

theorem mem_addresses {a : Nat} : a ∈ addresses ↔ 1 ≤ a ∧ a ≤ 15 := by
  simp only [addresses, List.mem_map, List.mem_range]
  exact ⟨fun ⟨k, hk, h⟩ => by omega, fun h => ⟨a - 1, by omega, by omega⟩⟩

theorem mem_streamIds {id : Nat} : id ∈ streamIds ↔ 1 ≤ id ∧ id ≤ 24 := by
  simp only [streamIds, List.mem_map, List.mem_range]
  exact ⟨fun ⟨k, hk, h⟩ => by omega, fun h => ⟨id - 1, by omega, by omega⟩⟩

theorem mem_pairNumbers {k : Nat} : k ∈ pairNumbers ↔ 1 ≤ k ∧ k ≤ 4 := by
  simp only [pairNumbers, List.mem_map, List.mem_range]
  exact ⟨fun ⟨n, hn, h⟩ => by omega, fun h => ⟨k - 1, by omega, by omega⟩⟩

/-- Reading a vector by number after a write by number. -/
theorem vector_getD_set {α : Type} {n : Nat} (v : Vector α n) (i j : Nat) (x d : α) :
    ((v.setIfInBounds i x)[j]?).getD d = if i = j ∧ i < n then x else (v[j]?).getD d := by
  by_cases h : i = j
  · subst h
    by_cases hi : i < n <;> simp [hi]
  · simp [h]

/-- Reading a table numbered from 1 after a write to it; a number that it has not reads as the default. -/
theorem numbered_get_set {α : Type} {n : Nat} (v : Vector α n) (i j : Nat) (x d : α) :
    (if 1 ≤ j then ((if 1 ≤ i then v.setIfInBounds (i - 1) x else v)[j - 1]?).getD d else d) =
      if i = j ∧ 1 ≤ i ∧ i ≤ n then x else if 1 ≤ j then (v[j - 1]?).getD d else d := by
  by_cases hj : 1 ≤ j
  · by_cases hi : 1 ≤ i
    · rw [if_pos hj, if_pos hi, if_pos hj, vector_getD_set]
      have h : (i - 1 = j - 1 ∧ i - 1 < n) ↔ (i = j ∧ 1 ≤ i ∧ i ≤ n) := by omega
      simp only [h]
    · simp [hi]
  · by_cases h : i = j
    · simp [← h, show ¬ 1 ≤ i by omega]
    · simp [h, hj]

/-! ## Stations -/

theorem StationManager.get_set (m : StationManager) (a b : Nat) (r : Station) :
    (m.set a r).get b = if a = b ∧ 1 ≤ a ∧ a ≤ 15 then r else m.get b := by
  have h := numbered_get_set m.table a b r {}
  unfold StationManager.get StationManager.set
  rw [← h]
  by_cases hi : 1 ≤ a <;> simp only [hi, if_true, if_false]

@[simp] theorem State.setStation_station (s : State) (a b : Nat) (r : Station) :
    (s.setStation a r).station b = if a = b ∧ 1 ≤ a ∧ a ≤ 15 then r else s.station b :=
  StationManager.get_set ..

@[simp] theorem State.onStation_station (s : State) (a b : Nat) (f : Station → Station) :
    (s.onStation a f).station b = if a = b ∧ 1 ≤ a ∧ a ≤ 15 then f (s.station a) else s.station b :=
  StationManager.get_set ..

@[simp] theorem StationManager.set_wakeQueue (m : StationManager) (a : Nat) (r : Station) :
    (m.set a r).wakeQueue = m.wakeQueue := by
  unfold StationManager.set; split <;> rfl

/-! ## Trim accounts and service pairs -/

theorem TrimScheduler.get_set (t : TrimScheduler) (a b : Nat) (r : TrimAccount) :
    (t.set a r).get b = if a = b ∧ 1 ≤ a ∧ a ≤ 15 then r else t.get b := by
  have h := numbered_get_set t.accounts a b r {}
  unfold TrimScheduler.get TrimScheduler.set
  rw [← h]
  by_cases hi : 1 ≤ a <;> simp only [hi, if_true, if_false]

@[simp] theorem State.setAccount_account (s : State) (a b : Nat) (r : TrimAccount) :
    (s.setAccount a r).account b = if a = b ∧ 1 ≤ a ∧ a ≤ 15 then r else s.account b :=
  TrimScheduler.get_set ..

@[simp] theorem State.onAccount_account (s : State) (a b : Nat) (f : TrimAccount → TrimAccount) :
    (s.onAccount a f).account b = if a = b ∧ 1 ≤ a ∧ a ≤ 15 then f (s.account a) else s.account b :=
  TrimScheduler.get_set ..

@[simp] theorem TrimScheduler.set_held (t : TrimScheduler) (a k : Nat) (r : TrimAccount) :
    (t.set a r).held k = t.held k := by
  unfold TrimScheduler.set; split <;> rfl

@[simp] theorem TrimScheduler.hold_get (t : TrimScheduler) (k a : Nat) (o : Option Nat) :
    (t.hold k o).get a = t.get a := by
  unfold TrimScheduler.hold; split <;> rfl

@[simp] theorem State.holdTrim_account (s : State) (k b : Nat) (o : Option Nat) :
    (s.holdTrim k o).account b = s.account b :=
  TrimScheduler.hold_get ..

theorem TrimScheduler.held_hold (t : TrimScheduler) (k j : Nat) (o : Option Nat) :
    (t.hold k o).held j = if k = j ∧ 1 ≤ k ∧ k ≤ 4 then o else t.held j := by
  have h := numbered_get_set t.pairs k j o none
  unfold TrimScheduler.held TrimScheduler.hold
  rw [← h]
  by_cases hi : 1 ≤ k <;> simp only [hi, if_true, if_false]

/-! ## Command pairs -/

theorem CallUnit.get_set (u : CallUnit) (k j : Nat) (o : Option Exchange) :
    (u.set k o).get j = if k = j ∧ 1 ≤ k ∧ k ≤ 4 then o else u.get j := by
  have h := numbered_get_set u.pairs k j o none
  unfold CallUnit.get CallUnit.set
  rw [← h]
  by_cases hi : 1 ≤ k <;> simp only [hi, if_true, if_false]

@[simp] theorem State.setExchange_exchange (s : State) (k j : Nat) (o : Option Exchange) :
    (s.setExchange k o).exchange j = if k = j ∧ 1 ≤ k ∧ k ≤ 4 then o else s.exchange j :=
  CallUnit.get_set ..

@[simp] theorem CallUnit.set_queue (u : CallUnit) (j : Nat) (o : Option Exchange) : (u.set j o).queue = u.queue := by
  unfold CallUnit.set; split <;> rfl

@[simp] theorem State.dequeue_exchange (s : State) (l : Entry → Bool) (j : Nat) :
    (s.dequeue l).exchange j = s.exchange j := rfl

/-! ## Streams -/

theorem StreamUnit.get_set (u : StreamUnit) (i j : Nat) (o : Option Stream) :
    (u.set i o).get j = if i = j ∧ 1 ≤ i ∧ i ≤ 24 then o else u.get j := by
  have h := numbered_get_set u.records i j o none
  unfold StreamUnit.get StreamUnit.set
  rw [← h]
  by_cases hi : 1 ≤ i <;> simp only [hi, if_true, if_false]

@[simp] theorem State.setStream_stream (s : State) (i j : Nat) (o : Option Stream) :
    (s.setStream i o).stream j = if i = j ∧ 1 ≤ i ∧ i ≤ 24 then o else s.stream j :=
  StreamUnit.get_set ..

@[simp] theorem StreamUnit.set_freeBlocks (u : StreamUnit) (i : Nat) (o : Option Stream) :
    (u.set i o).freeBlocks = u.freeBlocks := by
  unfold StreamUnit.set; split <;> rfl

/-- A stream that exists has an id of 1 to 24 (R40). -/
theorem State.stream_mem {s : State} {id : Nat} {st : Stream} (h : s.stream id = some st) : id ∈ streamIds := by
  rw [mem_streamIds]
  unfold State.stream StreamUnit.get at h
  by_cases h1 : 1 ≤ id
  · by_cases h2 : id ≤ 24
    · exact ⟨h1, h2⟩
    · rw [if_pos h1, Vector.getElem?_eq_none (by omega)] at h
      simp at h
  · rw [if_neg h1] at h
    simp at h

/-! ## Fault cells -/

theorem FaultRecorder.get_set (r : FaultRecorder) (a b : Nat) (c : FaultCell) :
    (r.set a c).get b = if a = b ∧ a ≤ 15 then c else r.get b := by
  unfold FaultRecorder.get FaultRecorder.set
  rw [vector_getD_set]
  by_cases h : a ≤ 15
  · simp [h, show a < 16 by omega]
  · simp [h, show ¬ a < 16 by omega]

@[simp] theorem State.setFault_faultCell (s : State) (a b : Nat) (c : FaultCell) :
    (s.setFault a c).faultCell b = if a = b ∧ a ≤ 15 then c else s.faultCell b :=
  FaultRecorder.get_set ..

/-! ## The marker index -/

theorem NoticeQueue.marked_mark (q : NoticeQueue) (i j : Nat) (b : Bool) :
    (q.mark i b).marked j = if i = j ∧ 1 ≤ i ∧ i ≤ 24 then b else q.marked j := by
  have h := numbered_get_set q.markers i j b false
  unfold NoticeQueue.marked NoticeQueue.mark
  rw [← h]
  by_cases hi : 1 ≤ i <;> simp only [hi, if_true, if_false]

end Sys2Proof.Machine
end

