-- ==== Sys2Proof/Laws/Ops.lean ====
section
/-! SUPPORT. What the shared operations of Machine/Ops.lean leave alone: for each, the fields of State that it does not
touch. -/

namespace Sys2Proof.Machine

variable (s : State)

/-! ## Streams follow their station (R47) -/

@[simp] theorem State.followStream_frame (a id : Nat) :
    (State.followStream a s id).engine = s.engine ∧ (State.followStream a s id).plans = s.plans ∧
    (State.followStream a s id).stations = s.stations ∧ (State.followStream a s id).trims = s.trims ∧
    (State.followStream a s id).calls = s.calls ∧ (State.followStream a s id).faults = s.faults ∧
    (State.followStream a s id).port = s.port ∧ (State.followStream a s id).pending = s.pending := by
  unfold State.followStream
  repeat' split
  all_goals simp

@[simp] theorem State.followStation_frame (a : Nat) :
    (s.followStation a).engine = s.engine ∧ (s.followStation a).plans = s.plans ∧
    (s.followStation a).stations = s.stations ∧ (s.followStation a).trims = s.trims ∧
    (s.followStation a).calls = s.calls ∧ (s.followStation a).faults = s.faults ∧
    (s.followStation a).port = s.port ∧ (s.followStation a).pending = s.pending := by
  unfold State.followStation
  exact ⟨foldl_same (p := State.engine) (fun b x => by simp) _ _,
    foldl_same (p := State.plans) (fun b x => by simp) _ _,
    foldl_same (p := State.stations) (fun b x => by simp) _ _,
    foldl_same (p := State.trims) (fun b x => by simp) _ _,
    foldl_same (p := State.calls) (fun b x => by simp) _ _,
    foldl_same (p := State.faults) (fun b x => by simp) _ _,
    foldl_same (p := State.port) (fun b x => by simp) _ _,
    foldl_same (p := State.pending) (fun b x => by simp) _ _⟩

/-! ## A station's change of state and its work (R66 to R68) -/

@[simp] theorem State.moveStation_frame (a : Nat) (new : StationState) (reason : Reason) :
    (s.moveStation a new reason).engine = s.engine ∧ (s.moveStation a new reason).plans = s.plans ∧
    (s.moveStation a new reason).trims = s.trims ∧ (s.moveStation a new reason).calls = s.calls ∧
    (s.moveStation a new reason).faults = s.faults ∧ (s.moveStation a new reason).port = s.port ∧
    (s.moveStation a new reason).pending = s.pending := by
  simp [State.moveStation]

@[simp] theorem State.answerKind_frame (k : ReqKind) (t : Option Nat) (st : Status) (b : ReplyBody) :
    (s.answerKind k t st b).engine = s.engine ∧ (s.answerKind k t st b).plans = s.plans ∧
    (s.answerKind k t st b).streams = s.streams ∧ (s.answerKind k t st b).stations = s.stations ∧
    (s.answerKind k t st b).trims = s.trims ∧ (s.answerKind k t st b).calls = s.calls ∧
    (s.answerKind k t st b).faults = s.faults ∧ (s.answerKind k t st b).notices = s.notices ∧
    (s.answerKind k t st b).pending = s.pending := by
  unfold State.answerKind
  repeat' split
  all_goals simp

@[simp] theorem State.endOperation_frame (a : Nat) (st : Status) (b : ReplyBody) :
    (s.endOperation a st b).engine = s.engine ∧ (s.endOperation a st b).plans = s.plans ∧
    (s.endOperation a st b).streams = s.streams ∧ (s.endOperation a st b).trims = s.trims ∧
    (s.endOperation a st b).calls = s.calls ∧ (s.endOperation a st b).faults = s.faults ∧
    (s.endOperation a st b).notices = s.notices ∧ (s.endOperation a st b).pending = s.pending := by
  unfold State.endOperation
  repeat' split
  all_goals simp

@[simp] theorem State.endHostTrim_frame (a : Nat) (st : Status) (b : ReplyBody) :
    (s.endHostTrim a st b).engine = s.engine ∧ (s.endHostTrim a st b).plans = s.plans ∧
    (s.endHostTrim a st b).streams = s.streams ∧ (s.endHostTrim a st b).trims = s.trims ∧
    (s.endHostTrim a st b).calls = s.calls ∧ (s.endHostTrim a st b).faults = s.faults ∧
    (s.endHostTrim a st b).notices = s.notices ∧ (s.endHostTrim a st b).pending = s.pending := by
  unfold State.endHostTrim
  repeat' split
  all_goals simp

@[simp] theorem State.failCall_frame (e : Entry) (st : Status) :
    (s.failCall e st).engine = s.engine ∧ (s.failCall e st).plans = s.plans ∧
    (s.failCall e st).streams = s.streams ∧ (s.failCall e st).stations = s.stations ∧
    (s.failCall e st).trims = s.trims ∧ (s.failCall e st).calls = s.calls ∧ (s.failCall e st).faults = s.faults ∧
    (s.failCall e st).notices = s.notices ∧ (s.failCall e st).pending = s.pending := by
  unfold State.failCall
  repeat' split
  all_goals simp

@[simp] theorem State.freePair_frame (j a : Nat) :
    (s.freePair j a).engine = s.engine ∧ (s.freePair j a).plans = s.plans ∧ (s.freePair j a).streams = s.streams ∧
    (s.freePair j a).trims = s.trims ∧ (s.freePair j a).faults = s.faults ∧ (s.freePair j a).notices = s.notices ∧
    (s.freePair j a).port = s.port ∧ (s.freePair j a).pending = s.pending := by
  simp [State.freePair]

@[simp] theorem State.freeService_frame (k a : Nat) :
    (s.freeService k a).engine = s.engine ∧ (s.freeService k a).plans = s.plans ∧
    (s.freeService k a).streams = s.streams ∧ (s.freeService k a).calls = s.calls ∧
    (s.freeService k a).faults = s.faults ∧ (s.freeService k a).notices = s.notices ∧
    (s.freeService k a).port = s.port ∧ (s.freeService k a).pending = s.pending := by
  simp [State.freeService]

@[simp] theorem State.abandon_frame (a : Nat) (st : Status) :
    (s.abandon a st).engine = s.engine ∧ (s.abandon a st).plans = s.plans ∧ (s.abandon a st).streams = s.streams ∧
    (s.abandon a st).faults = s.faults ∧ (s.abandon a st).notices = s.notices ∧
    (s.abandon a st).pending = s.pending := by
  unfold State.abandon
  repeat' split
  all_goals simp

@[simp] theorem State.removeEntries_frame (a : Nat) (st : Status) :
    (s.removeEntries a st).engine = s.engine ∧ (s.removeEntries a st).plans = s.plans ∧
    (s.removeEntries a st).streams = s.streams ∧ (s.removeEntries a st).stations = s.stations ∧
    (s.removeEntries a st).trims = s.trims ∧ (s.removeEntries a st).faults = s.faults ∧
    (s.removeEntries a st).notices = s.notices ∧ (s.removeEntries a st).pending = s.pending := by
  unfold State.removeEntries
  exact ⟨(foldl_same (p := State.engine) (fun b x => by simp) _ _).trans (by simp),
    (foldl_same (p := State.plans) (fun b x => by simp) _ _).trans (by simp),
    (foldl_same (p := State.streams) (fun b x => by simp) _ _).trans (by simp),
    (foldl_same (p := State.stations) (fun b x => by simp) _ _).trans (by simp),
    (foldl_same (p := State.trims) (fun b x => by simp) _ _).trans (by simp),
    (foldl_same (p := State.faults) (fun b x => by simp) _ _).trans (by simp),
    (foldl_same (p := State.notices) (fun b x => by simp) _ _).trans (by simp),
    (foldl_same (p := State.pending) (fun b x => by simp) _ _).trans (by simp)⟩

@[simp] theorem State.disposeWork_frame (a : Nat) (st : Status) :
    (s.disposeWork a st).engine = s.engine ∧ (s.disposeWork a st).plans = s.plans ∧
    (s.disposeWork a st).streams = s.streams ∧ (s.disposeWork a st).faults = s.faults ∧
    (s.disposeWork a st).notices = s.notices ∧ (s.disposeWork a st).pending = s.pending := by
  simp [State.disposeWork]

@[simp] theorem State.endQuiet_frame (a : Nat) :
    (s.endQuiet a).engine = s.engine ∧ (s.endQuiet a).plans = s.plans ∧ (s.endQuiet a).streams = s.streams ∧
    (s.endQuiet a).stations = s.stations ∧ (s.endQuiet a).calls = s.calls ∧ (s.endQuiet a).faults = s.faults ∧
    (s.endQuiet a).notices = s.notices ∧ (s.endQuiet a).port = s.port ∧ (s.endQuiet a).pending = s.pending := by
  simp [State.endQuiet]

@[simp] theorem State.enterAbsent_frame (a : Nat) (reason : Reason) (o w : Status) :
    (s.enterAbsent a reason o w).engine = s.engine ∧ (s.enterAbsent a reason o w).plans = s.plans ∧
    (s.enterAbsent a reason o w).faults = s.faults ∧ (s.enterAbsent a reason o w).pending = s.pending := by
  simp [State.enterAbsent]

@[simp] theorem State.enterFaulted_frame (a : Nat) (reason : Reason) (o w : Status) :
    (s.enterFaulted a reason o w).engine = s.engine ∧ (s.enterFaulted a reason o w).plans = s.plans ∧
    (s.enterFaulted a reason o w).faults = s.faults ∧ (s.enterFaulted a reason o w).pending = s.pending := by
  simp [State.enterFaulted]

/-! ## Fault reports and the miss count (R70, R132) -/

@[simp] theorem State.reportFault_frame (a : Nat) (kind : FaultKind) (slot : Nat) (raw : Option Word) :
    (s.reportFault a kind slot raw).engine = s.engine ∧ (s.reportFault a kind slot raw).plans = s.plans ∧
    (s.reportFault a kind slot raw).streams = s.streams ∧ (s.reportFault a kind slot raw).stations = s.stations ∧
    (s.reportFault a kind slot raw).trims = s.trims ∧ (s.reportFault a kind slot raw).calls = s.calls ∧
    (s.reportFault a kind slot raw).port = s.port ∧ (s.reportFault a kind slot raw).pending = s.pending := by
  simp only [State.reportFault]
  cases (s.faultCell a).record <;> simp

@[simp] theorem State.reportValid_frame (a : Nat) :
    (s.reportValid a).engine = s.engine ∧ (s.reportValid a).plans = s.plans ∧
    (s.reportValid a).streams = s.streams ∧ (s.reportValid a).trims = s.trims ∧
    (s.reportValid a).calls = s.calls ∧ (s.reportValid a).faults = s.faults ∧
    (s.reportValid a).notices = s.notices ∧ (s.reportValid a).port = s.port ∧
    (s.reportValid a).pending = s.pending := by
  simp [State.reportValid]

@[simp] theorem State.reportMiss_frame (a : Nat) :
    (s.reportMiss a).engine = s.engine ∧ (s.reportMiss a).plans = s.plans ∧ (s.reportMiss a).streams = s.streams ∧
    (s.reportMiss a).trims = s.trims ∧ (s.reportMiss a).calls = s.calls ∧ (s.reportMiss a).faults = s.faults ∧
    (s.reportMiss a).notices = s.notices ∧ (s.reportMiss a).port = s.port ∧ (s.reportMiss a).pending = s.pending := by
  simp [State.reportMiss]

@[simp] theorem State.missLimit_frame (a : Nat) (origin : StationState) :
    (s.missLimit a origin).engine = s.engine ∧ (s.missLimit a origin).plans = s.plans ∧
    (s.missLimit a origin).faults = s.faults ∧ (s.missLimit a origin).pending = s.pending := by
  unfold State.missLimit
  repeat' split
  all_goals simp

@[simp] theorem State.enqueue_frame (e : Entry) :
    (s.enqueue e).engine = s.engine ∧ (s.enqueue e).plans = s.plans ∧ (s.enqueue e).streams = s.streams ∧
    (s.enqueue e).stations = s.stations ∧ (s.enqueue e).trims = s.trims ∧ (s.enqueue e).faults = s.faults ∧
    (s.enqueue e).notices = s.notices ∧ (s.enqueue e).port = s.port ∧ (s.enqueue e).pending = s.pending := by
  unfold State.enqueue
  repeat' split
  all_goals simp

end Sys2Proof.Machine
end

