-- ==== Sys2Proof/Laws/Blocks.lean ====
section
/-! SUPPORT. What the operations of the blocks leave alone: for each, the fields of State that it does not touch. -/

namespace Sys2Proof.Machine

variable (s : State)

/-! ## Exchanges (chapter 6, R72 to R75, R79, R83) -/

@[simp] theorem callEnds_frame (e : Entry) (r : Ending) :
    (callEnds e r s).engine = s.engine ∧ (callEnds e r s).plans = s.plans ∧ (callEnds e r s).streams = s.streams ∧
    (callEnds e r s).stations = s.stations ∧ (callEnds e r s).trims = s.trims ∧ (callEnds e r s).calls = s.calls ∧
    (callEnds e r s).faults = s.faults ∧ (callEnds e r s).notices = s.notices ∧
    (callEnds e r s).pending = s.pending := by
  unfold callEnds
  repeat' split
  all_goals simp

@[simp] theorem enrollFails_frame (a : Nat) (st : Status) :
    (enrollFails a st s).engine = s.engine ∧ (enrollFails a st s).plans = s.plans ∧
    (enrollFails a st s).faults = s.faults ∧ (enrollFails a st s).pending = s.pending := by
  unfold enrollFails
  repeat' split
  all_goals simp

@[simp] theorem enrollNext_frame (e : Entry) (st : EnrollStep) (n : Nat) :
    (enrollNext e st n s).engine = s.engine ∧ (enrollNext e st n s).plans = s.plans ∧
    (enrollNext e st n s).streams = s.streams ∧ (enrollNext e st n s).trims = s.trims ∧
    (enrollNext e st n s).faults = s.faults ∧ (enrollNext e st n s).notices = s.notices ∧
    (enrollNext e st n s).pending = s.pending := by
  simp [enrollNext]

@[simp] theorem enrollCompletes_frame (a : Nat) :
    (enrollCompletes a s).engine = s.engine ∧ (enrollCompletes a s).plans = s.plans ∧
    (enrollCompletes a s).faults = s.faults ∧ (enrollCompletes a s).pending = s.pending := by
  simp [enrollCompletes]

@[simp] theorem enrollDone_frame (e : Entry) (m n : Nat) :
    (enrollDone e m n s).engine = s.engine ∧ (enrollDone e m n s).plans = s.plans ∧
    (enrollDone e m n s).faults = s.faults ∧ (enrollDone e m n s).pending = s.pending := by
  simp only [enrollDone]
  repeat' split
  all_goals simp

@[simp] theorem enrollEnds_frame (e : Entry) (r : Ending) :
    (enrollEnds e r s).engine = s.engine ∧ (enrollEnds e r s).plans = s.plans ∧
    (enrollEnds e r s).faults = s.faults ∧ (enrollEnds e r s).pending = s.pending := by
  unfold enrollEnds
  repeat' split
  all_goals simp

@[simp] theorem drowseEnds_frame (e : Entry) (r : Ending) :
    (drowseEnds e r s).engine = s.engine ∧ (drowseEnds e r s).plans = s.plans ∧
    (drowseEnds e r s).faults = s.faults ∧ (drowseEnds e r s).pending = s.pending := by
  simp only [drowseEnds]
  repeat' split
  all_goals simp

@[simp] theorem probeEnds_frame (e : Entry) (r : Ending) :
    (probeEnds e r s).engine = s.engine ∧ (probeEnds e r s).plans = s.plans ∧
    (probeEnds e r s).faults = s.faults ∧ (probeEnds e r s).pending = s.pending := by
  simp only [probeEnds]
  repeat' split
  all_goals simp

@[simp] theorem handOff_frame (e : Entry) (r : Ending) :
    (handOff e r s).engine = s.engine ∧ (handOff e r s).plans = s.plans ∧ (handOff e r s).faults = s.faults ∧
    (handOff e r s).pending = s.pending := by
  unfold handOff
  repeat' split
  all_goals simp

@[simp] theorem attemptMiss_frame (j slot : Nat) (x : Exchange) :
    (attemptMiss j slot x s).engine = s.engine ∧ (attemptMiss j slot x s).plans = s.plans ∧
    (attemptMiss j slot x s).pending = s.pending := by
  simp only [attemptMiss]
  repeat' split
  all_goals simp

@[simp] theorem exchangeReply_frame (j : Nat) (x : Exchange) (r : Ending) :
    (exchangeReply j x r s).engine = s.engine ∧ (exchangeReply j x r s).plans = s.plans ∧
    (exchangeReply j x r s).faults = s.faults ∧ (exchangeReply j x r s).pending = s.pending := by
  simp [exchangeReply]

@[simp] theorem exchangeWait_frame (j : Nat) (x : Exchange) :
    (exchangeWait j x s).engine = s.engine ∧ (exchangeWait j x s).plans = s.plans ∧
    (exchangeWait j x s).faults = s.faults ∧ (exchangeWait j x s).pending = s.pending := by
  simp only [exchangeWait]
  repeat' split
  all_goals simp

@[simp] theorem exchangeSilent_frame (j slot : Nat) (x : Exchange) :
    (exchangeSilent j slot x s).engine = s.engine ∧ (exchangeSilent j slot x s).plans = s.plans ∧
    (exchangeSilent j slot x s).pending = s.pending := by
  simp only [exchangeSilent]
  repeat' split
  all_goals simp

@[simp] theorem commandAnswer_frame (j slot : Nat) (x : Exchange) (c : UpClass) :
    (commandAnswer j slot x c s).engine = s.engine ∧ (commandAnswer j slot x c s).plans = s.plans ∧
    (commandAnswer j slot x c s).pending = s.pending := by
  unfold commandAnswer
  repeat' split
  all_goals simp

@[simp] theorem grantPair_frame (j : Nat) :
    (grantPair s j).engine = s.engine ∧ (grantPair s j).plans = s.plans ∧ (grantPair s j).streams = s.streams ∧
    (grantPair s j).trims = s.trims ∧ (grantPair s j).faults = s.faults ∧ (grantPair s j).notices = s.notices ∧
    (grantPair s j).pending = s.pending := by
  simp only [grantPair]
  repeat' split
  all_goals simp

@[simp] theorem grantCommands_frame :
    (grantCommands s).engine = s.engine ∧ (grantCommands s).plans = s.plans ∧
    (grantCommands s).streams = s.streams ∧ (grantCommands s).trims = s.trims ∧
    (grantCommands s).faults = s.faults ∧ (grantCommands s).notices = s.notices ∧
    (grantCommands s).pending = s.pending := by
  unfold grantCommands
  exact ⟨foldl_same (p := State.engine) (fun b x => by simp) _ _,
    foldl_same (p := State.plans) (fun b x => by simp) _ _,
    foldl_same (p := State.streams) (fun b x => by simp) _ _,
    foldl_same (p := State.trims) (fun b x => by simp) _ _,
    foldl_same (p := State.faults) (fun b x => by simp) _ _,
    foldl_same (p := State.notices) (fun b x => by simp) _ _,
    foldl_same (p := State.pending) (fun b x => by simp) _ _⟩

@[simp] theorem stopPair_frame (j : Nat) :
    (stopPair s j).engine = s.engine ∧ (stopPair s j).plans = s.plans ∧ (stopPair s j).streams = s.streams ∧
    (stopPair s j).trims = s.trims ∧ (stopPair s j).faults = s.faults ∧ (stopPair s j).notices = s.notices ∧
    (stopPair s j).pending = s.pending := by
  unfold stopPair
  repeat' split
  all_goals simp

@[simp] theorem callUnitStop_frame :
    (callUnitStop s).engine = s.engine ∧ (callUnitStop s).plans = s.plans ∧ (callUnitStop s).streams = s.streams ∧
    (callUnitStop s).trims = s.trims ∧ (callUnitStop s).faults = s.faults ∧ (callUnitStop s).notices = s.notices ∧
    (callUnitStop s).pending = s.pending := by
  unfold callUnitStop
  exact ⟨(foldl_same (p := State.engine) (fun b x => by simp) _ _).trans
      ((foldl_same (p := State.engine) (fun b x => by simp) _ _).trans (by simp)),
    (foldl_same (p := State.plans) (fun b x => by simp) _ _).trans
      ((foldl_same (p := State.plans) (fun b x => by simp) _ _).trans (by simp)),
    (foldl_same (p := State.streams) (fun b x => by simp) _ _).trans
      ((foldl_same (p := State.streams) (fun b x => by simp) _ _).trans (by simp)),
    (foldl_same (p := State.trims) (fun b x => by simp) _ _).trans
      ((foldl_same (p := State.trims) (fun b x => by simp) _ _).trans (by simp)),
    (foldl_same (p := State.faults) (fun b x => by simp) _ _).trans
      ((foldl_same (p := State.faults) (fun b x => by simp) _ _).trans (by simp)),
    (foldl_same (p := State.notices) (fun b x => by simp) _ _).trans
      ((foldl_same (p := State.notices) (fun b x => by simp) _ _).trans (by simp)),
    (foldl_same (p := State.pending) (fun b x => by simp) _ _).trans
      ((foldl_same (p := State.pending) (fun b x => by simp) _ _).trans (by simp))⟩

/-! ## Trims (chapter 5) -/

@[simp] theorem quietSpanEnds_frame (a : Nat) :
    (quietSpanEnds a s).engine = s.engine ∧ (quietSpanEnds a s).plans = s.plans ∧
    (quietSpanEnds a s).calls = s.calls ∧ (quietSpanEnds a s).faults = s.faults ∧
    (quietSpanEnds a s).pending = s.pending := by
  simp [quietSpanEnds]

@[simp] theorem endQuietSpans_frame :
    (endQuietSpans s).engine = s.engine ∧ (endQuietSpans s).plans = s.plans ∧ (endQuietSpans s).calls = s.calls ∧
    (endQuietSpans s).faults = s.faults ∧ (endQuietSpans s).pending = s.pending := by
  unfold endQuietSpans
  exact ⟨foldl_same (p := State.engine) (fun b x => by split <;> simp) _ _,
    foldl_same (p := State.plans) (fun b x => by split <;> simp) _ _,
    foldl_same (p := State.calls) (fun b x => by split <;> simp) _ _,
    foldl_same (p := State.faults) (fun b x => by split <;> simp) _ _,
    foldl_same (p := State.pending) (fun b x => by split <;> simp) _ _⟩

@[simp] theorem breach_frame (a : Nat) :
    (breach a s).engine = s.engine ∧ (breach a s).plans = s.plans ∧ (breach a s).faults = s.faults ∧
    (breach a s).pending = s.pending := by
  unfold breach
  repeat' split
  all_goals simp

@[simp] theorem trimFallsDue_frame (a : Nat) :
    (trimFallsDue a s).engine = s.engine ∧ (trimFallsDue a s).plans = s.plans ∧
    (trimFallsDue a s).faults = s.faults ∧ (trimFallsDue a s).pending = s.pending := by
  simp only [trimFallsDue]
  repeat' split
  all_goals simp

@[simp] theorem accrueStation_frame (a : Nat) :
    (accrueStation s a).engine = s.engine ∧ (accrueStation s a).plans = s.plans ∧
    (accrueStation s a).faults = s.faults ∧ (accrueStation s a).pending = s.pending := by
  simp only [accrueStation]
  repeat' split
  all_goals simp

@[simp] theorem accrue_frame :
    (accrue s).engine = s.engine ∧ (accrue s).plans = s.plans ∧ (accrue s).faults = s.faults ∧
    (accrue s).pending = s.pending := by
  unfold accrue
  exact ⟨foldl_same (p := State.engine) (fun b x => by simp) _ _,
    foldl_same (p := State.plans) (fun b x => by simp) _ _,
    foldl_same (p := State.faults) (fun b x => by simp) _ _,
    foldl_same (p := State.pending) (fun b x => by simp) _ _⟩

@[simp] theorem grantService_frame (g : Nat × Nat) :
    (grantService s g).engine = s.engine ∧ (grantService s g).plans = s.plans ∧
    (grantService s g).streams = s.streams ∧ (grantService s g).calls = s.calls ∧
    (grantService s g).faults = s.faults ∧ (grantService s g).notices = s.notices ∧
    (grantService s g).port = s.port ∧ (grantService s g).pending = s.pending := by
  simp [grantService]

@[simp] theorem grantServices_frame :
    (grantServices s).engine = s.engine ∧ (grantServices s).plans = s.plans ∧
    (grantServices s).streams = s.streams ∧ (grantServices s).calls = s.calls ∧
    (grantServices s).faults = s.faults ∧ (grantServices s).notices = s.notices ∧
    (grantServices s).port = s.port ∧ (grantServices s).pending = s.pending := by
  unfold grantServices
  exact ⟨foldl_same (p := State.engine) (fun b x => by simp) _ _,
    foldl_same (p := State.plans) (fun b x => by simp) _ _,
    foldl_same (p := State.streams) (fun b x => by simp) _ _,
    foldl_same (p := State.calls) (fun b x => by simp) _ _,
    foldl_same (p := State.faults) (fun b x => by simp) _ _,
    foldl_same (p := State.notices) (fun b x => by simp) _ _,
    foldl_same (p := State.port) (fun b x => by simp) _ _,
    foldl_same (p := State.pending) (fun b x => by simp) _ _⟩

@[simp] theorem trimDone_frame (k a : Nat) :
    (trimDone k a s).engine = s.engine ∧ (trimDone k a s).plans = s.plans ∧ (trimDone k a s).faults = s.faults ∧
    (trimDone k a s).pending = s.pending := by
  simp only [trimDone]
  repeat' split
  all_goals simp

@[simp] theorem trimRefused_frame (a : Nat) :
    (trimRefused a s).engine = s.engine ∧ (trimRefused a s).plans = s.plans ∧
    (trimRefused a s).faults = s.faults ∧ (trimRefused a s).pending = s.pending := by
  simp only [trimRefused]
  repeat' split
  all_goals simp

@[simp] theorem trimMiss_frame (a : Nat) :
    (trimMiss a s).engine = s.engine ∧ (trimMiss a s).plans = s.plans ∧ (trimMiss a s).faults = s.faults ∧
    (trimMiss a s).pending = s.pending := by
  simp only [trimMiss]
  repeat' split
  all_goals simp

@[simp] theorem trimAnswer_frame (k slot a : Nat) (c : UpClass) :
    (trimAnswer k slot a c s).engine = s.engine ∧ (trimAnswer k slot a c s).plans = s.plans ∧
    (trimAnswer k slot a c s).pending = s.pending := by
  simp only [trimAnswer]
  repeat' split
  all_goals simp

/-! ## Streams (chapter 3) -/

@[simp] theorem supplyDown_frame (id slot : Nat) (st : Stream) :
    (supplyDown id slot st s).engine = s.engine ∧ (supplyDown id slot st s).plans = s.plans ∧
    (supplyDown id slot st s).stations = s.stations ∧ (supplyDown id slot st s).trims = s.trims ∧
    (supplyDown id slot st s).calls = s.calls ∧ (supplyDown id slot st s).faults = s.faults ∧
    (supplyDown id slot st s).port = s.port ∧ (supplyDown id slot st s).pending = s.pending := by
  simp only [supplyDown]
  repeat' split
  all_goals simp

@[simp] theorem spaceTest_frame (id : Nat) :
    (spaceTest id s).engine = s.engine ∧ (spaceTest id s).plans = s.plans ∧ (spaceTest id s).streams = s.streams ∧
    (spaceTest id s).stations = s.stations ∧ (spaceTest id s).trims = s.trims ∧ (spaceTest id s).calls = s.calls ∧
    (spaceTest id s).faults = s.faults ∧ (spaceTest id s).port = s.port ∧ (spaceTest id s).pending = s.pending := by
  simp only [spaceTest]
  repeat' split
  all_goals simp

@[simp] theorem takeSample_frame (id slot : Nat) (w : Sample) (st : Stream) :
    (takeSample id slot w st s).engine = s.engine ∧ (takeSample id slot w st s).plans = s.plans ∧
    (takeSample id slot w st s).stations = s.stations ∧ (takeSample id slot w st s).trims = s.trims ∧
    (takeSample id slot w st s).calls = s.calls ∧ (takeSample id slot w st s).faults = s.faults ∧
    (takeSample id slot w st s).port = s.port ∧ (takeSample id slot w st s).pending = s.pending := by
  simp only [takeSample]
  repeat' split
  all_goals simp

@[simp] theorem takeGap_frame (id slot : Nat) (st : Stream) :
    (takeGap id slot st s).engine = s.engine ∧ (takeGap id slot st s).plans = s.plans ∧
    (takeGap id slot st s).stations = s.stations ∧ (takeGap id slot st s).trims = s.trims ∧
    (takeGap id slot st s).calls = s.calls ∧ (takeGap id slot st s).faults = s.faults ∧
    (takeGap id slot st s).port = s.port ∧ (takeGap id slot st s).pending = s.pending := by
  simp only [takeGap]
  repeat' split
  all_goals simp

@[simp] theorem streamAnswer_frame (id slot : Nat) (st : Stream) (c : UpClass) :
    (streamAnswer id slot st c s).engine = s.engine ∧ (streamAnswer id slot st c s).plans = s.plans ∧
    (streamAnswer id slot st c s).stations = s.stations ∧ (streamAnswer id slot st c s).trims = s.trims ∧
    (streamAnswer id slot st c s).calls = s.calls ∧ (streamAnswer id slot st c s).port = s.port ∧
    (streamAnswer id slot st c s).pending = s.pending := by
  simp only [streamAnswer]
  repeat' split
  all_goals simp

@[simp] theorem takeData_frame (id : Nat) :
    (takeData id s).engine = s.engine ∧ (takeData id s).plans = s.plans ∧ (takeData id s).stations = s.stations ∧
    (takeData id s).trims = s.trims ∧ (takeData id s).calls = s.calls ∧ (takeData id s).faults = s.faults ∧
    (takeData id s).port = s.port ∧ (takeData id s).pending = s.pending := by
  simp only [takeData]
  repeat' split
  all_goals simp

@[simp] theorem stopStream_frame (id : Nat) :
    (stopStream s id).engine = s.engine ∧ (stopStream s id).plans = s.plans ∧
    (stopStream s id).stations = s.stations ∧ (stopStream s id).trims = s.trims ∧
    (stopStream s id).calls = s.calls ∧ (stopStream s id).faults = s.faults ∧ (stopStream s id).port = s.port ∧
    (stopStream s id).pending = s.pending := by
  simp only [stopStream]
  repeat' split
  all_goals simp

@[simp] theorem streamUnitStop_frame :
    (streamUnitStop s).engine = s.engine ∧ (streamUnitStop s).plans = s.plans ∧
    (streamUnitStop s).stations = s.stations ∧ (streamUnitStop s).trims = s.trims ∧
    (streamUnitStop s).calls = s.calls ∧ (streamUnitStop s).faults = s.faults ∧ (streamUnitStop s).port = s.port ∧
    (streamUnitStop s).pending = s.pending := by
  unfold streamUnitStop
  exact ⟨foldl_same (p := State.engine) (fun b x => by simp) _ _,
    foldl_same (p := State.plans) (fun b x => by simp) _ _,
    foldl_same (p := State.stations) (fun b x => by simp) _ _,
    foldl_same (p := State.trims) (fun b x => by simp) _ _,
    foldl_same (p := State.calls) (fun b x => by simp) _ _,
    foldl_same (p := State.faults) (fun b x => by simp) _ _,
    foldl_same (p := State.port) (fun b x => by simp) _ _,
    foldl_same (p := State.pending) (fun b x => by simp) _ _⟩

/-! ## Plans (chapter 2) -/

@[simp] theorem deleteStream_frame (id : Nat) (st : Stream) :
    (deleteStream id st s).engine = s.engine ∧ (deleteStream id st s).plans = s.plans ∧
    (deleteStream id st s).stations = s.stations ∧ (deleteStream id st s).trims = s.trims ∧
    (deleteStream id st s).calls = s.calls ∧ (deleteStream id st s).faults = s.faults ∧
    (deleteStream id st s).notices = s.notices ∧ (deleteStream id st s).port = s.port ∧
    (deleteStream id st s).pending = s.pending := by
  simp [deleteStream]

@[simp] theorem placeStream_frame (id : Nat) (st : Stream) :
    (placeStream id st s).engine = s.engine ∧ (placeStream id st s).stations = s.stations ∧
    (placeStream id st s).trims = s.trims ∧ (placeStream id st s).calls = s.calls ∧
    (placeStream id st s).faults = s.faults ∧ (placeStream id st s).notices = s.notices ∧
    (placeStream id st s).port = s.port ∧ (placeStream id st s).pending = s.pending := by
  simp [placeStream]

@[simp] theorem unstage_frame (id : Nat) (st : Stream) :
    (unstage id st s).engine = s.engine ∧ (unstage id st s).streams = s.streams ∧
    (unstage id st s).stations = s.stations ∧ (unstage id st s).trims = s.trims ∧
    (unstage id st s).calls = s.calls ∧ (unstage id st s).faults = s.faults ∧
    (unstage id st s).notices = s.notices ∧ (unstage id st s).port = s.port ∧
    (unstage id st s).pending = s.pending := by
  simp [unstage]

@[simp] theorem markClosing_frame (id : Nat) (st : Stream) :
    (markClosing id st s).engine = s.engine ∧ (markClosing id st s).stations = s.stations ∧
    (markClosing id st s).trims = s.trims ∧ (markClosing id st s).calls = s.calls ∧
    (markClosing id st s).faults = s.faults ∧ (markClosing id st s).port = s.port ∧
    (markClosing id st s).pending = s.pending := by
  simp only [markClosing]
  repeat' split
  all_goals simp

@[simp] theorem discardStream_frame (id : Nat) :
    (discardStream s id).engine = s.engine ∧ (discardStream s id).plans = s.plans ∧
    (discardStream s id).stations = s.stations ∧ (discardStream s id).trims = s.trims ∧
    (discardStream s id).calls = s.calls ∧ (discardStream s id).faults = s.faults ∧
    (discardStream s id).notices = s.notices ∧ (discardStream s id).port = s.port ∧
    (discardStream s id).pending = s.pending := by
  simp only [discardStream]
  repeat' split
  all_goals simp

@[simp] theorem removeClosing_frame (id : Nat) :
    (removeClosing s id).engine = s.engine ∧ (removeClosing s id).plans = s.plans ∧
    (removeClosing s id).stations = s.stations ∧ (removeClosing s id).trims = s.trims ∧
    (removeClosing s id).calls = s.calls ∧ (removeClosing s id).faults = s.faults ∧
    (removeClosing s id).port = s.port ∧ (removeClosing s id).pending = s.pending := by
  simp only [removeClosing]
  repeat' split
  all_goals simp

@[simp] theorem enterActive_frame (id : Nat) :
    (enterActive s id).engine = s.engine ∧ (enterActive s id).plans = s.plans ∧
    (enterActive s id).stations = s.stations ∧ (enterActive s id).trims = s.trims ∧
    (enterActive s id).calls = s.calls ∧ (enterActive s id).faults = s.faults ∧
    (enterActive s id).notices = s.notices ∧ (enterActive s id).port = s.port ∧
    (enterActive s id).pending = s.pending := by
  simp only [enterActive]
  repeat' split
  all_goals simp

@[simp] theorem swapPlans_frame (c : PendingCommit) :
    (swapPlans c s).engine = s.engine ∧ (swapPlans c s).stations = s.stations ∧ (swapPlans c s).trims = s.trims ∧
    (swapPlans c s).calls = s.calls ∧ (swapPlans c s).faults = s.faults ∧ (swapPlans c s).pending = s.pending := by
  unfold swapPlans
  exact ⟨((foldl_same (p := State.engine) (fun b x => by simp) _ _).trans
      (foldl_same (p := State.engine) (fun b x => by simp) _ _)),
    ((foldl_same (p := State.stations) (fun b x => by simp) _ _).trans
      (foldl_same (p := State.stations) (fun b x => by simp) _ _)),
    ((foldl_same (p := State.trims) (fun b x => by simp) _ _).trans
      (foldl_same (p := State.trims) (fun b x => by simp) _ _)),
    ((foldl_same (p := State.calls) (fun b x => by simp) _ _).trans
      (foldl_same (p := State.calls) (fun b x => by simp) _ _)),
    ((foldl_same (p := State.faults) (fun b x => by simp) _ _).trans
      (foldl_same (p := State.faults) (fun b x => by simp) _ _)),
    ((foldl_same (p := State.pending) (fun b x => by simp) _ _).trans
      (foldl_same (p := State.pending) (fun b x => by simp) _ _))⟩

@[simp] theorem planSwap_frame :
    (planSwap s).engine = s.engine ∧ (planSwap s).stations = s.stations ∧ (planSwap s).trims = s.trims ∧
    (planSwap s).calls = s.calls ∧ (planSwap s).faults = s.faults ∧ (planSwap s).pending = s.pending := by
  simp only [planSwap]
  repeat' split
  all_goals simp

/-! ## Slots (1.8 to 1.11) -/

@[simp] theorem drive_frame (slot : Nat) (w : Word) (l : Option Word) :
    (drive slot w l s).plans = s.plans ∧ (drive slot w l s).streams = s.streams ∧
    (drive slot w l s).stations = s.stations ∧ (drive slot w l s).trims = s.trims ∧
    (drive slot w l s).calls = s.calls ∧ (drive slot w l s).port = s.port ∧ (drive slot w l s).pending = s.pending := by
  simp only [drive]
  repeat' split
  all_goals simp

@[simp] theorem unexpected_frame (slot : Nat) (l : Option Word) :
    (unexpected slot l s).engine = s.engine ∧ (unexpected slot l s).plans = s.plans ∧
    (unexpected slot l s).streams = s.streams ∧ (unexpected slot l s).stations = s.stations ∧
    (unexpected slot l s).trims = s.trims ∧ (unexpected slot l s).calls = s.calls ∧
    (unexpected slot l s).port = s.port ∧ (unexpected slot l s).pending = s.pending := by
  simp only [unexpected]
  repeat' split
  all_goals simp

@[simp] theorem clearSendDue_frame (j : Nat) :
    (clearSendDue j s).engine = s.engine ∧ (clearSendDue j s).plans = s.plans ∧
    (clearSendDue j s).streams = s.streams ∧ (clearSendDue j s).stations = s.stations ∧
    (clearSendDue j s).trims = s.trims ∧ (clearSendDue j s).faults = s.faults ∧
    (clearSendDue j s).notices = s.notices ∧ (clearSendDue j s).port = s.port ∧
    (clearSendDue j s).pending = s.pending := by
  simp only [clearSendDue]
  repeat' split
  all_goals simp

@[simp] theorem streamDown_frame (id slot : Nat) (st : Stream) (l : Option Word) :
    (streamDown id slot st l s).plans = s.plans ∧ (streamDown id slot st l s).stations = s.stations ∧
    (streamDown id slot st l s).trims = s.trims ∧ (streamDown id slot st l s).calls = s.calls ∧
    (streamDown id slot st l s).port = s.port ∧ (streamDown id slot st l s).pending = s.pending := by
  simp only [streamDown]
  repeat' split
  all_goals simp

@[simp] theorem serveSlot_frame (r : Role) (slot : Nat) (l : Option Word) :
    (serveSlot r slot l s).plans = s.plans ∧ (serveSlot r slot l s).pending = s.pending := by
  unfold serveSlot
  repeat' split
  all_goals simp

@[simp] theorem beginSlot_frame (slot : Nat) :
    (beginSlot slot s).plans = s.plans ∧ (beginSlot slot s).streams = s.streams ∧
    (beginSlot slot s).stations = s.stations ∧ (beginSlot slot s).trims = s.trims ∧
    (beginSlot slot s).calls = s.calls ∧ (beginSlot slot s).faults = s.faults ∧
    (beginSlot slot s).notices = s.notices ∧ (beginSlot slot s).port = s.port ∧
    (beginSlot slot s).pending = s.pending := by
  simp [beginSlot]

@[simp] theorem slotEvent_frame (slot : Nat) (l : Option Word) :
    (slotEvent slot l s).plans = s.plans ∧ (slotEvent slot l s).pending = s.pending := by
  simp [slotEvent]

@[simp] theorem passFrom_frame (slot n : Nat) :
    (passFrom slot n s).plans = s.plans ∧ (passFrom slot n s).pending = s.pending := by
  induction n generalizing slot s with
  | zero => simp [passFrom]
  | succ n ih =>
    have h := ih (slotEvent slot none s) (slot + 1)
    simp only [slotEvent_frame] at h
    exact h

@[simp] theorem passSlots_frame (slot : Nat) :
    (passSlots slot s).plans = s.plans ∧ (passSlots slot s).pending = s.pending := by
  unfold passSlots
  repeat' split
  all_goals simp

/-! ## Frame starts and frame ends (R4) -/

@[simp] theorem assignFrame_frame :
    (assignFrame s).plans = s.plans ∧ (assignFrame s).streams = s.streams ∧
    (assignFrame s).stations = s.stations ∧ (assignFrame s).trims = s.trims ∧ (assignFrame s).calls = s.calls ∧
    (assignFrame s).faults = s.faults ∧ (assignFrame s).notices = s.notices ∧ (assignFrame s).port = s.port ∧
    (assignFrame s).pending = s.pending := by
  simp [assignFrame]

@[simp] theorem nameWake_frame :
    (nameWake s).plans = s.plans ∧ (nameWake s).streams = s.streams ∧ (nameWake s).trims = s.trims ∧
    (nameWake s).calls = s.calls ∧ (nameWake s).faults = s.faults ∧ (nameWake s).notices = s.notices ∧
    (nameWake s).port = s.port ∧ (nameWake s).pending = s.pending := by
  simp only [nameWake]
  repeat' split
  all_goals simp

@[simp] theorem grantFrame_frame :
    (grantFrame s).plans = s.plans ∧ (grantFrame s).streams = s.streams ∧ (grantFrame s).faults = s.faults ∧
    (grantFrame s).notices = s.notices ∧ (grantFrame s).pending = s.pending := by
  simp [grantFrame]

@[simp] theorem frameStart_frame :
    (frameStart s).faults = s.faults ∧ (frameStart s).pending = s.pending := by
  simp only [frameStart]
  repeat' split
  all_goals simp

@[simp] theorem queueProbe_frame (a : Nat) :
    (queueProbe a s).engine = s.engine ∧ (queueProbe a s).plans = s.plans ∧ (queueProbe a s).streams = s.streams ∧
    (queueProbe a s).stations = s.stations ∧ (queueProbe a s).trims = s.trims ∧
    (queueProbe a s).faults = s.faults ∧ (queueProbe a s).notices = s.notices ∧
    (queueProbe a s).pending = s.pending := by
  simp only [queueProbe]
  repeat' split
  all_goals simp

@[simp] theorem wakeTick_frame (a : Nat) :
    (wakeTick s a).engine = s.engine ∧ (wakeTick s a).plans = s.plans ∧ (wakeTick s a).streams = s.streams ∧
    (wakeTick s a).trims = s.trims ∧ (wakeTick s a).faults = s.faults ∧ (wakeTick s a).notices = s.notices ∧
    (wakeTick s a).pending = s.pending := by
  simp only [wakeTick]
  repeat' split
  all_goals simp

@[simp] theorem stopStation_frame (a : Nat) :
    (stopStation s a).engine = s.engine ∧ (stopStation s a).plans = s.plans ∧
    (stopStation s a).faults = s.faults ∧ (stopStation s a).pending = s.pending := by
  simp only [stopStation]
  repeat' split
  all_goals simp

@[simp] theorem stationManagerStop_frame :
    (stationManagerStop s).engine = s.engine ∧ (stationManagerStop s).plans = s.plans ∧
    (stationManagerStop s).faults = s.faults ∧ (stationManagerStop s).pending = s.pending := by
  simp only [stationManagerStop]
  exact ⟨foldl_same (p := State.engine) (f := stopStation) (fun b x => by simp) addresses s,
    foldl_same (p := State.plans) (f := stopStation) (fun b x => by simp) addresses s,
    foldl_same (p := State.faults) (f := stopStation) (fun b x => by simp) addresses s,
    foldl_same (p := State.pending) (f := stopStation) (fun b x => by simp) addresses s⟩

@[simp] theorem trunkStops_frame :
    (trunkStops s).plans = s.plans ∧ (trunkStops s).faults = s.faults ∧ (trunkStops s).pending = s.pending := by
  simp [trunkStops]

@[simp] theorem startingTick_frame :
    (startingTick s).plans = s.plans ∧ (startingTick s).streams = s.streams ∧
    (startingTick s).stations = s.stations ∧ (startingTick s).trims = s.trims ∧ (startingTick s).calls = s.calls ∧
    (startingTick s).faults = s.faults ∧ (startingTick s).notices = s.notices ∧
    (startingTick s).pending = s.pending := by
  simp only [startingTick]
  repeat' split
  all_goals simp

@[simp] theorem closeFrame_frame :
    (closeFrame s).plans = s.plans ∧ (closeFrame s).pending = s.pending := by
  have h := passSlots_frame s Config.slots
  simp only [closeFrame]
  exact ⟨(foldl_same (p := State.plans) (fun b x => by simp) _ _).trans h.1,
    (foldl_same (p := State.pending) (fun b x => by simp) _ _).trans h.2⟩

@[simp] theorem settleTrunk_frame :
    (settleTrunk s).plans = s.plans ∧ (settleTrunk s).faults = s.faults ∧ (settleTrunk s).pending = s.pending := by
  simp only [settleTrunk]
  repeat' split
  all_goals simp

@[simp] theorem frameEnd_frame :
    (frameEnd s).plans = s.plans ∧ (frameEnd s).pending = s.pending := by
  simp [frameEnd]

end Sys2Proof.Machine
end

