-- ==== Sys2Proof/Laws/Values.lean ====
section
/-! SUPPORT. What the shared operations write: the values of the records, queues and tables they change. -/

namespace Sys2Proof.Machine

/-! ## Notices (R165, R166) -/

theorem NoticeQueue.offer_room {q : NoticeQueue} (n : Notice) (h : q.entries.length < Config.noticeQueue) :
    q.offer n = { q with entries := q.entries ++ [n] } := by
  simp [NoticeQueue.offer, h]

theorem NoticeQueue.offer_full {q : NoticeQueue} (n : Notice) (h : ¬ q.entries.length < Config.noticeQueue) :
    q.offer n = q.drop := by
  simp [NoticeQueue.offer, h]

/-- An offer of a full record changes neither the credits, nor the sequence, nor the marker index. -/
@[simp] theorem NoticeQueue.offer_frame (q : NoticeQueue) (n : Notice) :
    (q.offer n).credits = q.credits ∧ (q.offer n).nextSequence = q.nextSequence ∧
    (q.offer n).markers = q.markers := by
  unfold NoticeQueue.offer NoticeQueue.drop
  split <;> simp

@[simp] theorem NoticeQueue.mark_frame (q : NoticeQueue) (id : Nat) (b : Bool) :
    (q.mark id b).entries = q.entries ∧ (q.mark id b).credits = q.credits ∧
    (q.mark id b).nextSequence = q.nextSequence ∧ (q.mark id b).dropped = q.dropped := by
  unfold NoticeQueue.mark
  split <;> simp

theorem NoticeQueue.offerMarker_coalesced {q : NoticeQueue} {id : Nat} (n : Notice) (h : q.marked id = true) :
    q.offerMarker id n = q := by
  simp [NoticeQueue.offerMarker, h]

@[simp] theorem NoticeQueue.offerMarker_frame (q : NoticeQueue) (id : Nat) (n : Notice) :
    (q.offerMarker id n).credits = q.credits ∧ (q.offerMarker id n).nextSequence = q.nextSequence := by
  unfold NoticeQueue.offerMarker NoticeQueue.drop
  repeat' split
  all_goals simp

/-! ## Replies and the outstanding table (R153, R154) -/

@[simp] theorem HostPort.replyNow_frame (p : HostPort) (k t : Byte) (st : Status) (b : ReplyBody) :
    (p.replyNow k t st b).rstnLow = p.rstnLow ∧ (p.replyNow k t st b).baud = p.baud ∧
    (p.replyNow k t st b).receiver = p.receiver ∧ (p.replyNow k t st b).discarded = p.discarded ∧
    (p.replyNow k t st b).intake = p.intake ∧ (p.replyNow k t st b).table = p.table ∧
    (p.replyNow k t st b).transmitter = p.transmitter ∧ (p.replyNow k t st b).restarting = p.restarting := by
  simp [HostPort.replyNow]

@[simp] theorem HostPort.answer_frame (p : HostPort) (t : Byte) (st : Status) (b : ReplyBody) :
    (p.answer t st b).rstnLow = p.rstnLow ∧ (p.answer t st b).baud = p.baud ∧
    (p.answer t st b).receiver = p.receiver ∧ (p.answer t st b).discarded = p.discarded ∧
    (p.answer t st b).intake = p.intake ∧ (p.answer t st b).transmitter = p.transmitter ∧
    (p.answer t st b).restarting = p.restarting := by
  unfold HostPort.answer
  split <;> simp

/-- The mark changes no tag of the table. -/
@[simp] theorem HostPort.answer_tags (p : HostPort) (t : Byte) (st : Status) (b : ReplyBody) :
    (p.answer t st b).table.map (·.tag) = p.table.map (·.tag) := by
  unfold HostPort.answer
  split
  · rfl
  · simp only [List.map_map]
    apply List.map_congr_left
    intro e _
    simp only [Function.comp, Outstanding.mark]
    split <;> rfl

/-- An entry that waits for its reply gets it: the mark is set and the reply joins the queue. -/
theorem HostPort.answer_waiting {p : HostPort} {t : Byte} {e : Outstanding} (st : Status) (b : ReplyBody)
    (h : p.table.find? (·.waits t) = some e) :
    p.answer t st b = { p with
      table := p.table.map (Outstanding.mark t)
      replies := p.replies ++ [{ kind := e.kind.replyCode, tag := t, status := st, body := b, deferred := true }] } := by
  simp [HostPort.answer, h]

/-- Without an entry that waits no reply is queued (R153, R160). -/
theorem HostPort.answer_none {p : HostPort} {t : Byte} (st : Status) (b : ReplyBody)
    (h : p.table.find? (·.waits t) = none) : p.answer t st b = p := by
  simp [HostPort.answer, h]

@[simp] theorem HostPort.enter_frame (p : HostPort) (e : Outstanding) :
    (p.enter e).rstnLow = p.rstnLow ∧ (p.enter e).baud = p.baud ∧ (p.enter e).receiver = p.receiver ∧
    (p.enter e).discarded = p.discarded ∧ (p.enter e).intake = p.intake ∧ (p.enter e).table = p.table ++ [e] ∧
    (p.enter e).replies = p.replies ∧ (p.enter e).transmitter = p.transmitter ∧
    (p.enter e).restarting = p.restarting := by
  simp [HostPort.enter]

@[simp] theorem HostPort.setPhase_frame (p : HostPort) (t : Byte) (ph : Phase) :
    (p.setPhase t ph).rstnLow = p.rstnLow ∧ (p.setPhase t ph).baud = p.baud ∧
    (p.setPhase t ph).receiver = p.receiver ∧ (p.setPhase t ph).discarded = p.discarded ∧
    (p.setPhase t ph).intake = p.intake ∧ (p.setPhase t ph).replies = p.replies ∧
    (p.setPhase t ph).transmitter = p.transmitter ∧ (p.setPhase t ph).restarting = p.restarting := by
  simp [HostPort.setPhase]

/-! ## Streams follow their station (R47) -/

/-- What a station's change makes of one stream record (R47). -/
def Stream.followed (a : Nat) (active : Bool) (st : Stream) : Stream :=
  if st.station = a ∧ st.inActive = true then
    if active then if st.state = .held then st.enliven else st
    else if st.state = .live then { st with state := .held } else st
  else st

theorem State.followStream_stream (s : State) (a i j : Nat) :
    (State.followStream a s i).stream j =
      if i = j then (s.stream j).map (Stream.followed a ((s.station a).state == .active)) else s.stream j := by
  cases h : s.stream i with
  | none =>
    by_cases hij : i = j
    · subst hij; simp [State.followStream, h]
    · simp [State.followStream, h, hij]
  | some st =>
    have hm := mem_streamIds.mp (State.stream_mem h)
    by_cases hij : i = j
    · subst hij
      simp only [State.followStream, h, Option.map_some, Stream.followed, if_true]
      repeat' split
      all_goals simp_all
    · simp only [State.followStream, h, hij, if_false]
      repeat' split
      all_goals simp [hij]

theorem State.followStation_stream (s : State) (a id : Nat) :
    (s.followStation a).stream id = (s.stream id).map (Stream.followed a ((s.station a).state == .active)) := by
  have key : ∀ (l : List Nat) (t : State), t.stations = s.stations → l.Nodup →
      (l.foldl (State.followStream a) t).stream id =
        if id ∈ l then (t.stream id).map (Stream.followed a ((s.station a).state == .active)) else t.stream id := by
    intro l
    induction l with
    | nil => intro t _ _; simp
    | cons i l ih =>
      intro t ht hl
      have hst : t.station a = s.station a := by simp only [State.station, ht]
      rw [List.foldl_cons, ih _ (by simp [ht]) hl.tail]
      rw [State.followStream_stream, hst]
      have hi : i ∉ l := (List.nodup_cons.mp hl).1
      by_cases h : i = id
      · subst h; simp [hi]
      · simp [h, Ne.symm h]
  unfold State.followStation
  rw [key streamIds s rfl (by decide)]
  cases h : s.stream id with
  | none => simp
  | some st => simp [State.stream_mem h]

/-! ## A station's change of state (R67) -/

@[simp] theorem State.moveStation_station (s : State) (a b : Nat) (new : StationState) (reason : Reason) :
    (s.moveStation a new reason).station b =
      if a = b ∧ 1 ≤ a ∧ a ≤ 15 then { s.station a with state := new } else s.station b := by
  have h : ∀ t : State, (t.followStation a).station b = t.station b := fun t => by
    simp only [State.station, State.followStation_frame]
  simp only [State.moveStation]
  rw [h]
  simp

@[simp] theorem State.endOperation_station (s : State) (a b : Nat) (st : Status) (body : ReplyBody) :
    (s.endOperation a st body).station b =
      if a = b ∧ 1 ≤ a ∧ a ≤ 15 then { s.station a with operation := none } else s.station b := by
  unfold State.endOperation
  split
  · next h =>
    by_cases hab : a = b ∧ 1 ≤ a ∧ a ≤ 15
    · rw [if_pos hab, ← hab.1, ← h]
    · rw [if_neg hab]
  · simp

@[simp] theorem State.endHostTrim_station (s : State) (a b : Nat) (st : Status) (body : ReplyBody) :
    (s.endHostTrim a st body).station b =
      if (a = b ∧ 1 ≤ a ∧ a ≤ 15) ∧ (s.station a).hostTrim = true then
        { s.station a with hostTrim := false, refusals := 0 }
      else s.station b := by
  unfold State.endHostTrim
  split
  · next h =>
    have e : ∀ t : State, (t.answerKind .trim (some a) st body).station b = t.station b := fun t => by
      simp only [State.station, State.answerKind_frame]
    rw [e]
    simp [h]
  · next h => simp [h]

@[simp] theorem State.failCall_station (s : State) (e : Entry) (st : Status) (b : Nat) :
    (s.failCall e st).station b = s.station b := by
  simp only [State.station, State.failCall_frame]

@[simp] theorem State.removeEntries_station (s : State) (a b : Nat) (st : Status) :
    (s.removeEntries a st).station b = s.station b := by
  simp only [State.station, State.removeEntries_frame]

@[simp] theorem State.freePair_station (s : State) (j a b : Nat) :
    (s.freePair j a).station b =
      if a = b ∧ 1 ≤ a ∧ a ≤ 15 then { s.station a with exchange := none } else s.station b := by
  simp [State.freePair]

@[simp] theorem State.freeService_station (s : State) (k a b : Nat) :
    (s.freeService k a).station b =
      if a = b ∧ 1 ≤ a ∧ a ≤ 15 then { s.station a with exchange := none } else s.station b := by
  simp [State.freeService]

/-- After an abandonment no exchange is in flight for the station (R102, R126). -/
@[simp] theorem State.abandon_station (s : State) (a b : Nat) (st : Status) :
    (s.abandon a st).station b =
      if a = b ∧ 1 ≤ a ∧ a ≤ 15 then { s.station a with exchange := none } else s.station b := by
  unfold State.abandon
  split
  · next h =>
    by_cases hab : a = b ∧ 1 ≤ a ∧ a ≤ 15
    · rw [if_pos hab, ← hab.1, ← h]
    · rw [if_neg hab]
  · simp
  · split <;> simp

/-- The record of a station whose work has been disposed of (R68). -/
theorem State.disposeWork_station (s : State) (a b : Nat) (st : Status) :
    (s.disposeWork a st).station b =
      if a = b ∧ 1 ≤ a ∧ a ≤ 15 then
        { s.station a with
          exchange := none, hostTrim := false,
          refusals := if (s.station a).hostTrim then 0 else (s.station a).refusals }
      else s.station b := by
  unfold State.disposeWork
  by_cases hab : a = b ∧ 1 ≤ a ∧ a ≤ 15
  · obtain ⟨rfl, h1, h2⟩ := hab
    cases h : (s.station a).hostTrim <;> simp [h, h1, h2]
  · simp [hab]

@[simp] theorem State.endQuiet_station (s : State) (a b : Nat) : (s.endQuiet a).station b = s.station b := by
  simp [State.endQuiet]

/-- A station that enters ABSENT (R64, R67, R68, R77, R86). -/
theorem State.enterAbsent_station (s : State) (a b : Nat) (reason : Reason) (o w : Status) :
    (s.enterAbsent a reason o w).station b =
      if a = b ∧ 1 ≤ a ∧ a ≤ 15 then
        { Station.clear (s.station a) with
          state := .absent, operation := none, exchange := none, hostTrim := false,
          refusals := if (s.station a).hostTrim then 0 else (s.station a).refusals }
      else s.station b := by
  have q : ∀ (t : State) (l : List Nat),
      State.station { t with stations := { t.stations with wakeQueue := l } } = t.station := fun t l => rfl
  unfold State.enterAbsent
  rw [State.disposeWork_station]
  simp only [State.endQuiet_station, q]
  by_cases hab : a = b ∧ 1 ≤ a ∧ a ≤ 15
  · obtain ⟨rfl, h1, h2⟩ := hab
    simp [h1, h2, Station.clear]
  · simp [hab]

/-- A station that enters FAULTED keeps its values, miss count and depth (R84). -/
theorem State.enterFaulted_station (s : State) (a b : Nat) (reason : Reason) (o w : Status) :
    (s.enterFaulted a reason o w).station b =
      if a = b ∧ 1 ≤ a ∧ a ≤ 15 then
        { s.station a with
          state := .faulted, operation := none, exchange := none, hostTrim := false,
          refusals := if (s.station a).hostTrim then 0 else (s.station a).refusals }
      else s.station b := by
  unfold State.enterFaulted
  rw [State.disposeWork_station]
  by_cases hab : a = b ∧ 1 ≤ a ∧ a ≤ 15
  · obtain ⟨rfl, h1, h2⟩ := hab
    simp [h1, h2]
  · simp [hab]

/-! ## Fault reports (R132) -/

theorem State.reportFault_faultCell (s : State) (a b : Nat) (kind : FaultKind) (slot : Nat) (raw : Option Word) :
    (s.reportFault a kind slot raw).faultCell b =
      if a = b ∧ a ≤ 15 then
        { record := some ((s.faultCell a).record.getD
            { kind := kind, frame := s.engine.frameNumber, slot := slot, raw := raw }),
          count := satSucc Config.wordCount (s.faultCell a).count }
      else s.faultCell b := by
  simp only [State.reportFault]
  cases (s.faultCell a).record <;> simp

end Sys2Proof.Machine
end

