-- ==== Sys2Proof/Laws/Commands.lean ====
section
/-! SUPPORT. The shells that the meanings share: RSTN, the take of a frame, a slot event, and the step. -/

namespace Sys2Proof.Machine

/-! ## RSTN (R162) -/

@[simp] theorem whileReleased_of {s : State} {f : State → State} (h : s.port.rstnLow = false) :
    whileReleased s f = .next (f s) := by
  simp [whileReleased, h]

@[simp] theorem whileReleased_low {s : State} {f : State → State} (h : s.port.rstnLow = true) :
    whileReleased s f = .next s := by
  simp [whileReleased, h]

/-- A meaning in the shell always answers a next state. -/
theorem whileReleased_next (s : State) (f : State → State) : ∃ t, whileReleased s f = .next t := ⟨_, rfl⟩

/-! ## The take (R150, R151) -/

/-- The take of a frame that passes the port's own tests is its request's service, the frame removed. -/
theorem takeRequest_served {s : State} {k : ReqKind} {f : ReqFrame} (serve : ReqFrame → State → State)
    (low : s.port.rstnLow = false) (head : s.port.intake.head? = some f) (open_ : s.port.takes = true)
    (kind : f.kind = k.code) (pass : portRefusal k f s.port = none) :
    takeRequest k serve s = .next (serve f s.popIntake) := by
  have h : portRefusal k f s.popIntake.port = none := pass
  have e : serveFrame k serve f s.popIntake = serve f s.popIntake := by rw [serveFrame, h]
  simp [takeRequest, low, head, open_, kind, e]

/-- A frame that fails one of the port's own tests is refused with that test's status (R151). -/
theorem takeRequest_refused {s : State} {k : ReqKind} {f : ReqFrame} {st : Status} (serve : ReqFrame → State → State)
    (low : s.port.rstnLow = false) (head : s.port.intake.head? = some f) (open_ : s.port.takes = true)
    (kind : f.kind = k.code) (fail : portRefusal k f s.port = some st) :
    takeRequest k serve s = .next (s.popIntake.refuse k f st) := by
  have h : portRefusal k f s.popIntake.port = some st := fail
  have e : serveFrame k serve f s.popIntake = s.popIntake.refuse k f st := by rw [serveFrame, h]
  simp [takeRequest, low, head, open_, kind, e]

/-- A request that is taken is served (R150 to R152). -/
theorem takesRequest_served {s : State} {k : ReqKind} {f : ReqFrame} (serve : ReqFrame → State → State)
    (h : s.takesRequest k f) : takeRequest k serve s = .next (serve f s.popIntake) := by
  obtain ⟨⟨low, rs, imm, head⟩, kind, len, tag, room⟩ := h
  refine takeRequest_served serve low head ?_ kind ?_
  · simp [HostPort.takes, rs, imm]
  · unfold portRefusal
    simp only [len, Bool.not_true, Bool.false_eq_true, if_false]
    have h1 : ¬ ((k != .restart && s.port.table.any (fun e => e.tag == f.tag)) = true) := by
      rcases tag with rfl | h
      · simp
      · simp only [List.mem_map, not_exists, not_and] at h
        simp only [Bool.and_eq_true, List.any_eq_true, beq_iff_eq, not_and, not_exists]
        intro _ x hx hxt
        exact h x hx (by simpa using hxt)
    rw [if_neg h1]
    by_cases hd : k.isDeferred = true
    · have := room hd
      simp [hd]; omega
    · simp [hd]

/-- A closed intake takes nothing (R150). -/
theorem takeRequest_closed {s : State} {k : ReqKind} (serve : ReqFrame → State → State)
    (h : s.port.takes = false) : takeRequest k serve s = .next s := by
  simp only [takeRequest, whileReleased, h]
  cases s.port.intake.head? <;> simp

/-! ## Slot events -/

theorem passSlots_here {s : State} {slot : Nat} {fr : Frame} (h : s.engine.frame = some fr)
    (hs : slot ≤ fr.nextSlot) : passSlots slot s = s := by
  simp [passSlots, h, Nat.sub_eq_zero_of_le hs, passFrom]

/-- The event of the slot that comes next, where it is what the row says. -/
theorem slotRow_here {s : State} {slot : Nat} {fr : Frame} {isRow : State → Bool} {line : Option Word}
    (low : s.port.rstnLow = false) (h : s.engine.frame = some fr) (hs : fr.nextSlot = slot)
    (row : isRow s = true) : slotRow slot isRow line s = .next (slotEvent slot line s) := by
  simp [slotRow, low, h, hs, passSlots_here h (Nat.le_of_eq hs.symm), row]

/-- A slot event answers a next state. -/
theorem slotRow_next (slot : Nat) (isRow : State → Bool) (line : Option Word) (s : State) :
    ∃ t, slotRow slot isRow line s = .next t := ⟨_, rfl⟩

/-! ## The step -/

@[simp] theorem step_nil {s : State} (h : s.pending = []) : step s = .next s := by
  simp [step, h]

theorem step_cons {s : State} {c : Instr} {rest : List Instr} (h : s.pending = c :: rest) :
    step s = exec c { s with pending := rest } := by
  simp [step, h]

end Sys2Proof.Machine
end

