-- ==== Sys2Proof/Laws/Follow.lean ====
section
/-! SUPPORT. R47 in the words of the statements: a stream's record that follows its station, the streams of a station that
changes state, and that such a change keeps every stream of the active plan where its station requires it. -/

namespace Sys2Proof.Machine

variable (s : State)

/-- A stream of another station stays, one of station a follows it. -/
theorem Stream.followed_eq (a : Nat) (active : Bool) (st : Stream) :
    st.followed a active = if st.station = a then st.follow active else st := by
  unfold Stream.followed Stream.follow Stream.inActive Stream.enliven
  by_cases ha : st.station = a <;> cases active <;> cases hx : st.state <;> simp [ha]
  · cases st; simp_all

/-- A change of a station's state brings the streams of the station to the state it requires, and no others (R47, R67). -/
theorem State.moveStation_stream (a i : Nat) (new : StationState) (reason : Reason) (h : goodStation a = true) :
    (s.moveStation a new reason).stream i = (s.stream i).map (Stream.followed a (new == .active)) := by
  have hs : ((s.onStation a (fun r => { r with state := new })).station a).state = new := by
    simp [goodStation] at h
    simp [h]
  simp only [State.moveStation, State.followStation_stream, State.offer_stream, State.onStation_stream,
    State.offer_station, hs]

/-- Where no stream of the station is LIVE and the station does not become ACTIVE, its streams stay as they are and offer
nothing (R47). -/
theorem State.followStation_of_none_live (a : Nat) (h : (s.station a).state ≠ .active)
    (hl : ∀ id st, s.stream id = some st → st.station = a → st.state ≠ .live) : s.followStation a = s := by
  have one : ∀ id, s.followStream a id = s := by
    intro id
    unfold State.followStream
    cases hs : s.stream id with
    | none => rfl
    | some st =>
      by_cases ha : st.station = a
      · simp [h, hl id st hs ha]
      · simp [ha]
  have all : ∀ l : List Nat, l.foldl (State.followStream a) s = s := by
    intro l
    induction l with
    | nil => rfl
    | cons id rest ih => rw [List.foldl_cons, one, ih]
  exact all streamIds

/-- There the STATION notice is all that a change of state offers (R66, R165). -/
theorem State.moveStation_notices_of_none_live (a : Nat) (new : StationState) (reason : Reason)
    (hg : goodStation a = true) (h : new ≠ .active)
    (hl : ∀ id st, s.stream id = some st → st.station = a → st.state ≠ .live) :
    (s.moveStation a new reason).notices =
      s.notices.offer (.station a (s.station a).state new reason s.engine.frameNumber) := by
  have hs : ((s.onStation a (fun r => { r with state := new })).station a).state = new := by
    simp [goodStation] at hg
    simp [hg]
  simp only [State.moveStation]
  rw [State.followStation_of_none_live]
  · rfl
  · rw [State.offer_station, hs]; exact h
  · exact hl

/-! ## The record of a stream that follows -/

@[simp] theorem Stream.follow_station (active : Bool) (st : Stream) : (st.follow active).station = st.station := by
  unfold Stream.follow; repeat' split
  all_goals rfl

@[simp] theorem Stream.follow_staged (active : Bool) (st : Stream) :
    (st.follow active).state = .staged ↔ st.state = .staged := by
  unfold Stream.follow; repeat' split
  all_goals simp_all

theorem Stream.follow_live {active : Bool} {st : Stream} (h : st.state ≠ .staged) :
    (st.follow active).state = .live ↔ active = true := by
  unfold Stream.follow
  cases active <;> cases hx : st.state <;> simp_all

/-- Following leaves a stream that has the state its station requires (R47). -/
theorem Stream.followed_of_follows {st : Stream} {active : Bool} (a : Nat)
    (h : st.station = a → st.state ≠ .staged → (st.state = .live ↔ active = true)) : st.followed a active = st := by
  rw [Stream.followed_eq, Stream.follow]
  by_cases ha : st.station = a <;> cases active <;> cases hx : st.state <;> simp_all
  cases st; simp_all

/-- A change of a station's state keeps every stream of the active plan at the state its station requires (R47). -/
theorem State.moveStation_keeps_StreamsFollowStations (a : Nat) (new : StationState) (reason : Reason)
    (h : goodStation a = true) (hf : StreamsFollowStations s) :
    StreamsFollowStations (s.moveStation a new reason) := by
  intro id hid st hst hstaged
  rw [Option.mem_def, State.moveStation_stream s a id new reason h] at hst
  cases h0 : s.stream id with
  | none => simp [h0] at hst
  | some st0 =>
    rw [h0, Option.map_some, Option.some.injEq] at hst
    have hs := hf id hid st0 h0
    have ha : 1 ≤ a ∧ a ≤ 15 := by simpa [goodStation] using h
    subst hst
    by_cases hx : st0.station = a
    · rw [Stream.followed_eq, if_pos hx] at hstaged ⊢
      rw [ne_eq, Stream.follow_staged] at hstaged
      rw [Stream.follow_live hstaged, Stream.follow_station, State.moveStation_station]
      simp [hx, ha]
    · rw [Stream.followed_eq, if_neg hx] at hstaged ⊢
      rw [State.moveStation_station, hs hstaged]
      simp [Ne.symm hx]

end Sys2Proof.Machine
end

