-- ==== Sys2Proof/Laws/Plans.lean ====
section
/-! SUPPORT. The removal of a closing stream at the plan swap (R33, R49, R167): what it does to every stream and to every
place of the marker index. -/

namespace Sys2Proof.Machine

/-- A place of the marker index beyond the 24 streams is never set. -/
theorem NoticeQueue.mem_of_marked {q : NoticeQueue} {id : Nat} (h : q.marked id = true) : 1 ≤ id ∧ id ≤ 24 := by
  unfold NoticeQueue.marked at h
  by_cases h1 : 1 ≤ id
  · by_cases h2 : id ≤ 24
    · exact ⟨h1, h2⟩
    · rw [if_pos h1, Vector.getElem?_eq_none (by omega)] at h
      simp at h
  · rw [if_neg h1] at h
    simp at h

/-- The removal of a stream's marker clears its place of the index and no other (R167). -/
theorem NoticeQueue.removeMarker_marked (q : NoticeQueue) (i j : Nat) :
    (q.removeMarker i).marked j = if i = j then false else q.marked j := by
  unfold NoticeQueue.removeMarker
  cases h : q.marked i
  · by_cases hij : i = j <;> simp_all
  · have hi := NoticeQueue.mem_of_marked h
    rw [if_pos rfl]
    refine (NoticeQueue.marked_mark q i j false).trans ?_
    simp [hi]

/-- An offered notice leaves the marker index as it is (R165). -/
@[simp] theorem NoticeQueue.offer_marked (q : NoticeQueue) (n : Notice) (id : Nat) :
    (q.offer n).marked id = q.marked id := by
  unfold NoticeQueue.offer
  split <;> rfl

/-- A closing stream leaves no record; the other streams stay (R49). -/
theorem removeClosing_stream (s : State) (i j : Nat) :
    (removeClosing s i).stream j = if i = j then none else s.stream j := by
  cases h : s.stream i with
  | none => by_cases hij : i = j <;> simp_all [removeClosing]
  | some st =>
    have hi := mem_streamIds.mp (State.stream_mem h)
    simp only [removeClosing, h, State.offer_stream]
    refine (StreamUnit.get_set s.streams i j none).trans ?_
    simp [hi, State.stream]

/-- A closing stream that has a record leaves its place of the marker index clear; without one nothing changes (R49). -/
theorem removeClosing_marked (s : State) (i j : Nat) :
    (removeClosing s i).notices.marked j = if i = j ∧ s.stream i ≠ none then false else s.notices.marked j := by
  cases h : s.stream i with
  | none => simp [removeClosing, h]
  | some st =>
    simp [removeClosing, h, State.offer, NoticeQueue.removeMarker_marked]

end Sys2Proof.Machine
end

