-- ==== Sys2Proof/Laws/Receiver.lean ====
section
/-! SUPPORT. The receiver's scan (R145 to R149): when a candidate fails, what one more failed candidate changes, and that
discards may be counted in any order. -/

namespace Sys2Proof.Machine

/-! ## Discards are counted in any order (R149) -/

theorem HostPort.countDiscard_place (p : HostPort) (f : ReqFrame) :
    p.countDiscard.place f = (p.place f).countDiscard := by
  unfold HostPort.place
  by_cases h : p.intake.length < Config.intake <;> simp [HostPort.countDiscard, h]

theorem HostPort.countDiscard_places (frames : List ReqFrame) :
    ∀ p : HostPort, frames.foldl HostPort.place p.countDiscard = (frames.foldl HostPort.place p).countDiscard := by
  induction frames with
  | nil => intro p; rfl
  | cons f rest ih => intro p; simp only [List.foldl_cons, HostPort.countDiscard_place, ih]

/-- One more failed candidate raises the discarded-frame count by one, be it counted first or last (R148, R149). -/
theorem HostPort.settle_failed (r : Scan) (p : HostPort) :
    p.settle { r with failed := r.failed + 1 } = p.countDiscard.settle r := by
  have count : ∀ (n : Nat) (q : HostPort), (List.range (n + 1)).foldl (fun p _ => p.countDiscard) q =
      (List.range n).foldl (fun p _ => p.countDiscard) q.countDiscard := by
    intro n
    induction n with
    | zero => intro q; rfl
    | succ n ih => intro q; rw [List.range_succ, List.foldl_append, ih, List.range_succ, List.foldl_append]; rfl
  simp only [HostPort.settle, count, HostPort.countDiscard_places]

/-! ## The scan (R145, R148) -/

theorem scan_sync_failed {idle : Bool} {b : RxByte} {rest : List RxByte} (hb : b.isSync = true)
    (h : examine idle rest = .failed) :
    scan idle 0 (b :: rest) = { scan idle 0 rest with failed := (scan idle 0 rest).failed + 1 } := by
  rw [scan, if_pos hb, h]

theorem scan_dropped {idle : Bool} {b : RxByte} {rest : List RxByte} (hb : b.isSync = false) :
    scan idle 0 (b :: rest) = scan idle 0 rest := by
  rw [scan, if_neg (by simp [hb])]

/-- The bytes that belong to a good frame are passed over (R146). -/
theorem scan_skip (idle : Bool) : ∀ (taken rest : List RxByte), scan idle taken.length (taken ++ rest) = scan idle 0 rest
  | [], _ => rfl
  | _ :: taken, rest => by rw [List.length_cons, List.cons_append, scan, scan_skip idle taken rest]

/-- A complete candidate fails exactly where its CRC differs (R146). -/
theorem judge_failed_iff (length : Byte) (bytes : List Byte) :
    judge length bytes = .failed ↔
      crcBytes (length :: bytes.take length.toNat) ≠ bytes.drop length.toNat := by
  unfold judge
  by_cases h : crcBytes (length :: bytes.take length.toNat) = bytes.drop length.toNat <;> simp [h]

/-- The rules of a candidate's failure and the receiver's examination of it agree (R145 to R148). -/
theorem examine_failed_iff (idle : Bool) (after : List RxByte) :
    examine idle after = .failed ↔ candidateFails idle after := by
  cases after with
  | nil => cases idle <;> simp [examine, candidateFails]
  | cons length more =>
    have whole : (more.take (length.byte.toNat + 2)).length ≤ length.byte.toNat + 2 := by simp
    have words : candidateFails idle (length :: more) ↔
        (length.flawed = true ∨ length.byte.toNat < 3 ∨ 203 < length.byte.toNat ∨
          (∃ b ∈ more.take (length.byte.toNat + 2), b.flawed = true) ∨
          ((more.take (length.byte.toNat + 2)).length < length.byte.toNat + 2 ∧ idle = true) ∨
          ((more.take (length.byte.toNat + 2)).length = length.byte.toNat + 2 ∧
            judge length.byte ((more.take (length.byte.toNat + 2)).map (·.byte)) = .failed)) := by
      simp [candidateFails, judge_failed_iff, List.map_take, List.map_drop]
    rw [words]
    simp only [examine]
    generalize more.take (length.byte.toNat + 2) = body at whole ⊢
    by_cases hl : length.flawed = true ∨ length.byte.toNat < 3 ∨ 203 < length.byte.toNat
    · have : (length.flawed || length.byte.toNat < Config.minLength || Config.maxLength < length.byte.toNat) = true := by
        simpa [Config.minLength, Config.maxLength, or_assoc] using hl
      rw [if_pos this]
      simp only [true_iff]
      tauto
    · have : ¬ (length.flawed || length.byte.toNat < Config.minLength || Config.maxLength < length.byte.toNat) = true := by
        simpa [Config.minLength, Config.maxLength, or_assoc] using hl
      rw [if_neg this]
      have h1 : length.flawed = false := by simpa using fun h => hl (.inl h)
      have h2 : ¬ length.byte.toNat < 3 := fun h => hl (.inr (.inl h))
      have h3 : ¬ 203 < length.byte.toNat := fun h => hl (.inr (.inr h))
      simp only [h1, h2, h3, Bool.false_eq_true, false_or]
      by_cases hf : body.any (·.flawed) = true
      · rw [if_pos hf]
        exact iff_of_true rfl (.inl (List.any_eq_true.mp hf))
      · have hn : ¬ ∃ b ∈ body, b.flawed = true := fun h => hf (List.any_eq_true.mpr h)
        rw [if_neg hf]
        simp only [hn, false_or]
        by_cases hs : body.length < length.byte.toNat + 2
        · have hne : body.length ≠ length.byte.toNat + 2 := by omega
          rw [if_pos hs]
          cases idle <;> simp [hs, hne]
        · have he : body.length = length.byte.toNat + 2 := by omega
          rw [if_neg hs]
          simp [he]

end Sys2Proof.Machine
end

