-- ==== Sys2Proof/Tests/Slice0.lean ====
section
/-! SUPPORT. Tests: the checks of well-formedness, one or two effects of each command on a small state, the words and
messages of the spec's own examples, and for each obligation a state and operands that meet its hypotheses. -/

namespace Sys2Proof.Tests

set_option Elab.async false

open Sys2Proof Sys2Proof.Machine

/-! ## Small states -/

/-- A request frame. -/
def frameOf (k : ReqKind) (payload : List Byte) : ReqFrame := { kind := k.code, tag := 0x21, flags := 0, payload := payload }

/-- The intake holds one frame. -/
def withFrame (f : ReqFrame) (s : State) : State := { s with port := { s.port with intake := [f] } }

/-- The outstanding table holds one entry. -/
def withEntry (e : Outstanding) (s : State) : State := { s with port := { s.port with table := [e] } }

/-- A pending request. -/
def entryOf (k : ReqKind) (target : Option Nat) (phase : Phase) : Outstanding :=
  { tag := 0x30, kind := k, target := target, phase := phase, replied := false, data := none }

/-- The trunk state, with no frame in progress. -/
def trunkIs (x : TrunkState) (s : State) : State :=
  { s with engine := { s.engine with trunk := x, countdown := if x = .starting then 16 else 0 } }

/-- A full frame in progress in RUNNING, at a slot. -/
def atSlot (k : Nat) (s : State) : State :=
  { s with engine := { s.engine with trunk := .running, frameNumber := 100,
                                     frame := some { full := true, nextSlot := k, wakeAddress := 3 } } }

/-- Station 3 in a state, with interval 4, Q 8 and W 2. -/
def station3 (x : StationState) (s : State) : State :=
  s.setStation 3 { state := x, identity := some 7, interval := some 4, quiet := some 8, latency := some 2 }

/-- Stream 1 in slot 7 of the active plan, to or from station 3. -/
def stream1 (d : Direction) (x : StreamState) (buffer : List Sample) (s : State) : State :=
  let st := { newStream 3 d [7] 16 4 with state := x, buffer := buffer }
  let plans : PlanStore := { active := s.plans.active.addStream 1 [7], staged := s.plans.staged.addStream 1 [7],
                             commit := none }
  { s.setStream 1 (some st) with plans := plans }

/-- A queued or granted call: GET attribute 5 of station 3. -/
def call3 (owner : OwnerKind) : Entry :=
  { tag := 0x30, owner := owner, station := 3, order := .get, attr := 5, value := 0 }

/-- Station 3 has the pending operation of an owner's request. -/
def pendingOn (owner : OwnerKind) (r : Station) : Station :=
  { r with operation := owner.operation.map (fun o => (o, 0x30)) }

/-- Command pair 1 holds an exchange with station 3, and its up slot, slot 4, comes. -/
def exchanging (owner : OwnerKind) (attempt left waits : Nat) (x : StationState) : State :=
  let s := (station3 x (atSlot 4 State.reset)).setExchange 1
    (some { entry := call3 owner, attempt := attempt, waits := waits, framesLeft := left, sendDue := false })
  withEntry (entryOf owner.request (some 3) .inFlight)
    (s.onStation 3 (fun r => { pendingOn owner r with exchange := some (.command 1) }))

/-- Service pair 1 holds a trim exchange with station 3, and its up slot, slot 2, comes. -/
def trimming (hostTrim : Bool) (refusals misses : Nat) : State :=
  let s := ((station3 .active (atSlot 2 State.reset)).holdTrim 1 (some 3)).onStation 3
    (fun r => { r with exchange := some (.service 1), hostTrim := hostTrim, refusals := refusals, misses := misses })
  if hostTrim then withEntry (entryOf .trim (some 3) .awaitingFrame) s else s

/-- A REPLY word of station 3. -/
def replyWord (status attr value : Nat) : Word :=
  makeWord kindReply 3 (BitVec.ofNat 4 status ++ BitVec.ofNat 8 attr ++ BitVec.ofNat 12 value)

/-- The state a step answers. -/
def nextOf (o : Out) : Option State :=
  match o with
  | .next t => some t
  | .fault _ | .refused _ => none

/-! ## Well-formedness: one ill-formed term for each check -/

theorem test_empty_receive_is_ill_formed : (Instr.receiveFrame []).wellFormed = false := by decide
theorem test_station_0_is_ill_formed : (Instr.trimDue 0).wellFormed = false := by decide
theorem test_station_16_is_ill_formed : (Instr.quietSpanEnd 16).wellFormed = false := by decide
theorem test_station_16_wake_is_ill_formed : (Instr.wakeLatencyEnd 16).wellFormed = false := by decide
theorem test_pair_0_is_ill_formed : (Instr.responseWindowExpiry 0).wellFormed = false := by decide
theorem test_pair_5_is_ill_formed : (Instr.serviceDownSlot 5 none).wellFormed = false := by decide
theorem test_pair_5_service_up_is_ill_formed : (Instr.serviceUpSlot 5 none).wellFormed = false := by decide
theorem test_pair_5_command_down_is_ill_formed : (Instr.commandDownSlot 5 none).wellFormed = false := by decide
theorem test_pair_0_command_up_is_ill_formed : (Instr.commandUpSlot 0 none).wellFormed = false := by decide
theorem test_slot_0_is_ill_formed : (Instr.streamDownSlot 0 none).wellFormed = false := by decide
theorem test_slot_32_is_ill_formed : (Instr.streamUpSlot 32 none).wellFormed = false := by decide
theorem test_slot_32_unexpected_is_ill_formed : (Instr.unexpectedWordSlot 32 0).wellFormed = false := by decide
theorem test_good_length_3_is_ill_formed : (Instr.badLengthByte 3).wellFormed = false := by decide
theorem test_good_length_203_is_ill_formed : (Instr.badLengthByte 203).wellFormed = false := by decide

/-! ## Words and messages worked out from the spec -/

/-- The CRC-16 of the nine digits, the check value of this polynomial and initial value (R146). -/
theorem test_crc_of_digits : crc16 [0x31, 0x32, 0x33, 0x34, 0x35, 0x36, 0x37, 0x38, 0x39] = 0x29B1#16 := by
  decide +kernel

/-- The worked word of 10.7: station 3, GET, attribute 17. -/
theorem test_order_word_of_the_spec : orderWord 3 .get 17 0 = 0x86422000#32 := by decide

/-- FILL to station 2: 011 0010, payload 0, check bit 1 (10.7). -/
theorem test_fill_word : fillWord 2 = 0b01100100000000000000000000000001#32 := by decide

/-- A beacon of frame 12345h that names station 5 at generation 3 (R13). -/
theorem test_beacon_word : beaconWord 0x12345 5 3 = 0b00100000010001101000101010100111#32 := by decide

/-- The CALL reply of 10.7's example: L = 10 and the payload bytes. -/
theorem test_call_reply_of_the_spec :
    frameCore ReqKind.call.replyCode 0x60 0
      (Reply.payload { kind := 0x56, tag := 0x60, status := .ok, body := .call 3 2 17 17 0x2A0, deferred := true }) =
    [10, 0x56, 0x60, 0, 0, 3, 2, 17, 17, 0x02, 0xA0] := by decide

/-- The roles of R1 for two service pairs and one command pair. -/
theorem test_roles_of_setup :
    ((List.range 8).map (pairRole 2 1)) =
      [.beacon, .serviceDown 1, .serviceUp 1, .serviceDown 2, .serviceUp 2, .commandDown 1, .commandUp 1, .free] := by
  decide

/-! ## Effects of the commands -/

theorem test_power_on_straps : ((nextOf (exec (.powerOn true false) State.reset)).map (·.port.baud)) = some 2 := by decide
theorem test_rstn_low_cuts_frame :
    ((nextOf (exec .rstnLow (atSlot 4 State.reset))).map (·.engine.frame)) = some none := by decide
theorem test_receive_frame_joins_intake :
    ((nextOf (exec (.receiveFrame (hostFrame 0x01 0x21 0 [])) State.reset)).map (·.port.intake)) =
      some [{ kind := 0x01, tag := 0x21, flags := 0, payload := [] }] := by decide +kernel
theorem test_receive_frame_counts_bad_crc :
    ((nextOf (exec (.receiveFrame [0xC3, 3, 1, 0x21, 0, 0, 0]) State.reset)).map (·.port.discarded)) = some 1 := by
  decide +kernel
theorem test_rescan_finds_frame_in_failed_candidate :
    ((nextOf (exec (.receiveFrame ([0xC3, 8] ++ hostFrame 0x01 0x21 0 [] ++ [0, 0, 0])) State.reset)).map
      (fun t => (t.port.discarded, t.port.intake.length))) = some (1, 1) := by decide +kernel
theorem test_sync_byte_begins_candidate :
    ((nextOf (exec .syncByteReceived State.reset)).map (·.port.receiver.kept.length)) = some 1 := by decide +kernel

/-- The state with one frame at the intake. -/
def ask (k : ReqKind) (payload : List Byte) (s : State) : State := withFrame (frameOf k payload) s

/-- The status of the last reply queued. -/
def lastStatus (o : Out) : Option Status := (nextOf o).bind (fun t => t.port.replies.getLast?.map (·.status))

theorem test_hello_ok : lastStatus (exec .hello (ask .hello [] State.reset)) = some .ok := by decide +kernel
theorem test_grant_adds : ((nextOf (exec .grant (ask .grant [3] State.reset))).map (·.notices.credits)) = some 11 := by
  decide +kernel
theorem test_grant_zero_refused : lastStatus (exec .grant (ask .grant [0] State.reset)) = some .badParam := by
  decide +kernel
theorem test_cancel_not_found : lastStatus (exec .cancel (ask .cancel [9] State.reset)) = some .notFound := by
  decide +kernel
theorem test_restart_closes_intake :
    ((nextOf (exec .restart (ask .restart [] State.reset))).map (·.port.restarting)) = some true := by decide +kernel
theorem test_setup_bad_param : lastStatus (exec .trunkSetup (ask .trunkSetup [5, 1, 4, 4, 0] State.reset)) = some .badParam := by
  decide +kernel
theorem test_start_then_state :
    ((nextOf (exec .trunkStart (ask .trunkStart [] State.reset))).map (fun t => (t.engine.trunk, t.engine.countdown))) =
      some (.starting, 16) := by decide +kernel
theorem test_stop_when_stopped : lastStatus (exec .trunkStop (ask .trunkStop [] State.reset)) = some .state := by
  decide +kernel
theorem test_enroll_joins :
    ((nextOf (exec .enroll (ask .enroll [3] State.reset))).map (fun t => ((t.station 3).state, t.calls.queue.length))) =
      some (.joining, 1) := by decide +kernel
theorem test_drop_absent_refused : lastStatus (exec .drop (ask .drop [3] State.reset)) = some .state := by decide +kernel
theorem test_drowse_queues :
    ((nextOf (exec .drowse (ask .drowse [3] (station3 .active State.reset)))).map (·.calls.queue.length)) = some 1 := by
  decide +kernel
theorem test_wake_queues :
    ((nextOf (exec .wake (ask .wake [3] (station3 .drowsy State.reset)))).map (·.stations.wakeQueue)) = some [3] := by
  decide +kernel
theorem test_trim_flag :
    ((nextOf (exec .trim (ask .trim [3] (station3 .active State.reset)))).map (fun t => (t.station 3).hostTrim)) =
      some true := by decide +kernel
theorem test_policy_depth :
    ((nextOf (exec .policy (ask .policy [3, 8] (station3 .active State.reset)))).map (fun t => (t.station 3).depth)) =
      some 8 := by decide +kernel
theorem test_call_put_240_refused :
    lastStatus (exec .call (ask .call [3, 3, 240, 0, 0] (station3 .active State.reset))) = some .badParam := by
  decide +kernel
theorem test_clear_fault_16_refused : lastStatus (exec .clearFault (ask .clearFault [16] State.reset)) = some .badParam := by
  decide +kernel
theorem test_station_info_ok : lastStatus (exec .stationInfo (ask .stationInfo [3] State.reset)) = some .ok := by
  decide +kernel
theorem test_open_takes_lowest_slots :
    ((nextOf (exec .openStream (ask .openStream [3, 1, 2, 0, 32, 0, 4] State.reset))).bind (fun t => t.stream 1)).map
      (fun st => (st.slotList, st.blocks, st.state)) = some ([7, 8], 2, .staged) := by decide +kernel
theorem test_close_marks_active_stream :
    ((nextOf (exec .closeStream (ask .closeStream [1] (stream1 .up .live [] State.reset)))).bind
      (fun t => t.stream 1)).map (·.closing) = some true := by decide +kernel
theorem test_commit_next :
    ((nextOf (exec .commit (ask .commit [] State.reset))).bind (·.plans.commit)) =
      some { target := 1, tag := 0x21 } := by decide +kernel
theorem test_discard_ok : lastStatus (exec .discard (ask .discard [] State.reset)) = some .ok := by decide +kernel
theorem test_plan_info_ok : lastStatus (exec .planInfo (ask .planInfo [1] State.reset)) = some .ok := by decide +kernel
theorem test_status_ok : lastStatus (exec .status (ask .status [] State.reset)) = some .ok := by decide +kernel
theorem test_write_appends :
    ((nextOf (exec .write (ask .write [1, 0, 0, 5] (stream1 .down .live [] State.reset)))).bind
      (fun t => t.stream 1)).map (·.buffer) = some [5] := by decide +kernel
theorem test_stream_info_not_found :
    lastStatus (exec .streamInfo (ask .streamInfo [25, 0] State.reset)) = some .notFound := by decide +kernel
theorem test_bad_kind_answered :
    lastStatus (exec .badKindFrame (withFrame { kind := 0x3F, tag := 1, flags := 0, payload := [] } State.reset)) =
      some .badKind := by decide +kernel
theorem test_notice_start_uses_credit :
    ((nextOf (exec .noticeStart State.reset)).map (fun t => (t.notices.credits, t.notices.entries))) = some (7, []) := by
  decide +kernel
theorem test_frame_start_from_starting :
    ((nextOf (exec .frameStart (trunkIs .starting State.reset))).bind (·.engine.frame)) =
      some { full := false, nextSlot := 0, wakeAddress := 0 } := by decide +kernel
theorem test_beacon_is_driven :
    ((nextOf (exec (.beaconSlot none) (atSlot 0 State.reset))).bind (·.engine.line)) = some (beaconWord 100 3 0) := by
  decide +kernel
theorem test_disturbed_fill_is_foreign :
    ((nextOf (exec (.serviceDownSlot 1 (some 0)) (atSlot 1 State.reset))).bind (fun t => (t.faultCell 0).record)) =
      some { kind := .foreign, frame := 100, slot := 1, raw := some 0 } := by decide +kernel
theorem test_trim_done_lowers_balance :
    ((nextOf (exec (.serviceUpSlot 1 (some (replyWord 1 0 0))) (trimming false 0 0))).map
      (fun t => ((t.station 3).state, (t.account 3).balance, (t.account 3).quietEnd))) =
      some (.trimming, -1, some 108) := by decide +kernel
theorem test_call_done_frees_pair :
    ((nextOf (exec (.commandUpSlot 1 (some (replyWord 1 5 9))) (exchanging .call 1 4 0 .active))).bind
      (fun t => t.exchange 1)) = none := by decide +kernel
theorem test_window_expiry_resends :
    ((nextOf (exec (.responseWindowExpiry 1) (exchanging .call 1 1 0 .active))).bind (fun t => t.exchange 1)).map
      (fun x => (x.attempt, x.framesLeft, x.sendDue)) = some (2, 4, true) := by decide +kernel
theorem test_stream_down_sends_oldest :
    ((nextOf (exec (.streamDownSlot 7 none) (stream1 .down .live [5, 6] (atSlot 7 State.reset)))).bind
      (·.engine.line)) = some (dataWord 3 5) := by decide +kernel
theorem test_stream_up_appends :
    ((nextOf (exec (.streamUpSlot 7 (some (dataWord 3 9))) (stream1 .up .live [] (atSlot 7 State.reset)))).bind
      (fun t => t.stream 1)).map (·.buffer) = some [9] := by decide +kernel
theorem test_check_gap_precedes_fault_notice :
    ((nextOf (exec (.streamUpSlot 7 (some 1)) (stream1 .up .live [] (atSlot 7 State.reset)))).map
      (fun t => t.notices.entries.tail)) =
      some [.streamFault 1 .gap 100 7 1, .fault 3 { kind := .check, frame := 100, slot := 7, raw := some 1 }] := by
  decide +kernel
theorem test_unexpected_word_is_foreign :
    ((nextOf (exec (.unexpectedWordSlot 9 1) (atSlot 9 State.reset))).map (fun t => (t.faultCell 0).count)) = some 1 := by
  decide +kernel
theorem test_reset_point_keeps_baud :
    ((nextOf (exec .resetPoint { State.reset with port := { State.reset.port with restarting := true, baud := 2 } })).map
      (fun t => (t.port.baud, t.port.restarting))) = some (2, false) := by decide +kernel

/-! ## For each obligation, states and operands that meet its hypotheses -/

theorem witness_StepRunsFrontCommand :
    ({ State.reset with pending := [.hello] } : State).pending = .hello :: [] ∧ State.reset.pending = [] := by decide

theorem witness_WellFormedCommandsComplete :
    Instr.hello.wellFormed = true ∧ (∀ n ∈ [0, 16], ¬ (1 ≤ n ∧ n ≤ 15)) ∧ (∀ n ∈ [0, 5], ¬ (1 ≤ n ∧ n ≤ 4)) ∧
    ∀ n ∈ [0, 32], ¬ (1 ≤ n ∧ n ≤ 31) := by decide

theorem witness_RstnLowCutsOff :
    ∃ s : State, s.port.rstnLow = true ∧ Instr.hello.wellFormed = true ∧ Instr.hello ≠ .rstnLow ∧
      ∀ bds1 bds0, Instr.hello ≠ .powerOn bds1 bds0 :=
  ⟨{ State.reset with port := { State.reset.port with rstnLow := true } }, rfl, rfl, by decide, by decide⟩

/-- Four immediate replies wait. -/
def fullReplies (s : State) : State :=
  { s with port := { s.port with
      replies := List.replicate 4 { kind := 0x41, tag := 1, status := .ok, body := .short, deferred := false } } }

/-- Eight requests of other tags are outstanding. -/
def fullTable (s : State) : State :=
  { s with port := { s.port with
      table := (List.range 8).map (fun i => { entryOf .call (some 3) .queued with tag := BitVec.ofNat 8 (0x30 + i) }) } }

theorem witness_PortTestsInOrder :
    (4 ≤ (fullReplies (ask .hello [] State.reset)).port.immediate) ∧
    ((ask .hello [1] State.reset).offersFrame (frameOf .hello [1]) ∧
      ReqKind.hello.allowsLength (frameOf .hello [1]).payload.length = false) ∧
    ((withEntry { entryOf .call (some 3) .queued with tag := 0x21 } (ask .hello [] State.reset)).offersFrame
      (frameOf .hello []) ∧ ReqKind.hello.allowsLength 0 = true) ∧
    ((fullTable (ask .enroll [3] State.reset)).offersFrame (frameOf .enroll [3]) ∧
      ReqKind.enroll.allowsLength (frameOf .enroll [3]).payload.length = true ∧ ReqKind.enroll.isDeferred = true ∧
      (frameOf .enroll [3]).tag ∉ (fullTable (ask .enroll [3] State.reset)).port.table.map (·.tag) ∧
      8 ≤ (fullTable (ask .enroll [3] State.reset)).port.table.length) := by
  unfold State.offersFrame; decide +kernel

theorem witness_BadKindFrameIsAnswered :
    (withFrame { kind := 0x3F, tag := 1, flags := 0, payload := [] } State.reset).offersFrame
      { kind := 0x3F, tag := 1, flags := 0, payload := [] } ∧ ∀ k : ReqKind, k.code ≠ 0x3F#8 := by
  constructor
  · unfold State.offersFrame; decide +kernel
  · intro k; cases k <;> decide

/-- A request of each kind is taken from the state that `ask` makes, whatever the rest of the state, while the port is
as at reset. -/
theorem ask_takesRequest (k : ReqKind) (payload : List Byte) (s : State) (port : s.port = State.reset.port)
    (len : k.allowsLength payload.length = true) : (ask k payload s).takesRequest k (frameOf k payload) := by
  have h : (ask k payload s).port = { State.reset.port with intake := [frameOf k payload] } := by
    simp only [ask, withFrame, port]
  refine ⟨⟨?_, ?_, ?_, ?_⟩, rfl, len, Or.inr ?_, fun _ => ?_⟩ <;> rw [h]
  · rfl
  · rfl
  · exact (by decide : (0 : Nat) < Config.immediateReplies)
  · rfl
  · exact List.not_mem_nil
  · exact (by decide : (0 : Nat) < Config.table)

theorem witness_QueriesReportAndChangeNothing :
    (ask .hello [] State.reset).takesRequest .hello (frameOf .hello []) ∧
    (ask .status [] State.reset).takesRequest .status (frameOf .status []) ∧
    (∀ b ∈ [0, 1], (ask .planInfo [b] State.reset).takesRequest .planInfo (frameOf .planInfo [b])) :=
  ⟨ask_takesRequest _ _ _ rfl rfl, ask_takesRequest _ _ _ rfl rfl, fun _ _ => ask_takesRequest _ _ _ rfl rfl⟩

theorem witness_GrantAddsCredits :
    ∀ n ∈ [0, 1, 255], (ask .grant [n] State.reset).takesRequest .grant (frameOf .grant [n]) :=
  fun _ _ => ask_takesRequest _ _ _ rfl rfl

/-- A CANCEL of tag 30h comes while the table holds one entry. -/
def cancelling (e : Outstanding) (s : State) : State := withEntry e (ask .cancel [0x30] s)

theorem witness_CancelAnswersNotFoundOrTooLate :
    (ask .cancel [0x30] State.reset).takesRequest .cancel (frameOf .cancel [0x30]) ∧
    ∀ e ∈ [{ entryOf .call (some 3) .queued with replied := true }, entryOf .call (some 3) .inFlight,
        entryOf .trunkStart none .awaitingFrame, entryOf .trunkStop none .awaitingFrame],
      (cancelling e State.reset).takesRequest .cancel (frameOf .cancel [0x30]) ∧
      (cancelling e State.reset).port.table.find? (fun e => e.tag == 0x30) = some e ∧
      (e.replied = true ∨ e.phase = .inFlight ∨ e.kind = .trunkStart ∨ e.kind = .trunkStop) := by
  refine ⟨ask_takesRequest _ _ _ rfl rfl, ?_⟩
  unfold State.takesRequest State.offersFrame
  decide +kernel

/-- The invariants that the statements about the replies of a station's work assume, and that its streams follow it. -/
def Agrees (s : State) : Prop := PortBounded s ∧ ExchangesAgree s ∧ WorkOwned s ∧ StreamsFollowStations s

/-! Whether a state meets them is decided part by part. -/

def decideEntries (s : State) : Decidable (EntriesOwned s) := by
  delta EntriesOwned HostPort.awaits; infer_instance
def decideExchanges (s : State) : Decidable (ExchangesOwned s) := by delta ExchangesOwned; infer_instance
def decideOperations (s : State) : Decidable (OperationsOwned s) := by
  delta OperationsOwned HostPort.awaits; infer_instance
def decideTrims (s : State) : Decidable (HostTrimsOwned s) := by delta HostTrimsOwned; infer_instance
def decideRequests (s : State) : Decidable (RequestsHeld s) := by
  delta RequestsHeld HostPort.awaits; infer_instance
def decideWork (s : State) : Decidable (WorkOwned s) :=
  have := decideEntries s; have := decideExchanges s; have := decideOperations s; have := decideTrims s
  have := decideRequests s
  inferInstanceAs (Decidable (_ → _ ∧ _ ∧ _ ∧ _ ∧ _))
def decidePort (s : State) : Decidable (PortBounded s) := by delta PortBounded; infer_instance
def decideAgree (s : State) : Decidable (ExchangesAgree s) := by delta ExchangesAgree; infer_instance
def decideFollow (s : State) : Decidable (StreamsFollowStations s) := by delta StreamsFollowStations; infer_instance
def decideAgrees (s : State) : Decidable (Agrees s) :=
  have := decidePort s; have := decideAgree s; have := decideWork s; have := decideFollow s
  inferInstanceAs (Decidable (_ ∧ _ ∧ _ ∧ _))

theorem agrees_of_all (l : List State) (h : l.all (fun s => @decide _ (decideAgrees s)) = true) : ∀ s ∈ l, Agrees s :=
  fun s hs => @of_decide_eq_true _ (decideAgrees s) (List.all_eq_true.mp h s hs)

/-- A request of an owner for station 3, in a state, whose entry is queued. -/
def queued3 (owner : OwnerKind) (x : StationState) : State :=
  (station3 x { State.reset with calls := { State.reset.calls with queue := [call3 owner] } }).onStation 3
    (pendingOn owner)

/-- A WAKE whose station waits in the wake queue, and a host TRIM. -/
def named3 : State :=
  let s := (station3 .waking State.reset).onStation 3 (pendingOn .wake)
  { s with stations := { s.stations with wakeQueue := [3] } }
def host3 : State := (station3 .active State.reset).onStation 3 (fun r => { r with hostTrim := true })

theorem witness_CancelWithdrawsCallOrCommit :
    (let s := { State.reset with calls := { State.reset.calls with queue := [call3 .call] } }
     (cancelling (entryOf .call (some 3) .queued) s).takesRequest .cancel (frameOf .cancel [0x30]) ∧
     (cancelling (entryOf .call (some 3) .queued) s).calls.queue.find? (fun q => q.tag == 0x30) = some (call3 .call)) ∧
    (let s := { State.reset with plans := { State.reset.plans with commit := some { target := 9, tag := 0x30 } } }
     (cancelling (entryOf .commit none .awaitingFrame) s).takesRequest .cancel (frameOf .cancel [0x30]) ∧
     (cancelling (entryOf .commit none .awaitingFrame) s).plans.commit = some { target := 9, tag := 0x30 }) := by
  unfold State.takesRequest State.offersFrame
  decide +kernel

/-- A CANCEL comes for an ENROLL, a DROWSE, a WAKE and a TRIM that it withdraws. -/
def withdrawable : List State :=
  [cancelling (entryOf .enroll (some 3) .queued)
     ((queued3 .enroll .joining).onStation 3 (fun r => { r with step := some .join })),
   cancelling (entryOf .drowse (some 3) .queued) (queued3 .drowse .active),
   cancelling (entryOf .wake (some 3) .awaitingFrame) named3,
   cancelling (entryOf .trim (some 3) .awaitingFrame) host3]

theorem witness_CancelWithdrawsCallOrCommit_owners : ∀ s ∈ withdrawable, Agrees s := agrees_of_all _ (by decide +kernel)

theorem witness_CancelWithdrawsCallOrCommit_withdrawn :
    (∀ s ∈ withdrawable, s.takesRequest .cancel (frameOf .cancel [0x30])) ∧
    (queued3 .enroll .joining).calls.queue.map (·.tag) = [0x30] ∧ named3.stations.wakeQueue = [3] ∧
    (host3.station 3).state = .active ∧ ∀ k ∈ pairNumbers, host3.trims.held k ≠ some 3 := by
  unfold State.takesRequest State.offersFrame
  decide +kernel

theorem witness_CancelWithdrawsCallOrCommit_tooLate :
    (∀ k ∈ [ReqKind.call, .drowse, .commit, .enroll, .wake, .trim],
      (cancelling (entryOf k (some 3) .queued) State.reset).takesRequest .cancel (frameOf .cancel [0x30])) ∧
    State.reset.calls.queue = [] ∧ State.reset.plans.commit = none ∧ (State.reset.station 3).step ≠ some .join ∧
    3 ∉ State.reset.stations.wakeQueue ∧ (State.reset.station 3).state ≠ .active ∧
    (trimming true 0 0).trims.held 1 = some 3 := by
  unfold State.takesRequest State.offersFrame
  decide +kernel

/-- A RESTART comes while station 3's DROWSE is queued, or in a command pair. -/
def restarting : List State :=
  [withEntry (entryOf .drowse (some 3) .queued) (ask .restart [] (queued3 .drowse .active)),
   ask .restart [] (exchanging .drowse 1 4 0 .active)]

theorem witness_RestartAbortsOutstanding :
    (∀ s ∈ restarting, s.takesRequest .restart (frameOf .restart []) ∧ (s.port.table.map (·.tag)).Nodup ∧
      s.port.table.any (fun e => e.tag == 0x30 && !e.replied) = true ∧
      (s.station 3).operation = some (.drowse, 0x30)) ∧
    ∀ s ∈ restarting[1]?, (s.exchange 1).map (·.entry) = some (call3 .drowse) ∧
      (s.station 3).exchange = some (.command 1) := by
  unfold State.takesRequest State.offersFrame
  decide +kernel

theorem witness_TrunkSetupReplacesValues :
    (∀ p ∈ [[1, 1, 1, 1, 0], [4, 4, 16, 15, 1], [0, 1, 1, 1, 0], [5, 1, 1, 1, 0], [1, 1, 17, 1, 0], [1, 1, 1, 1, 2]],
      (ask .trunkSetup p State.reset).takesRequest .trunkSetup (frameOf .trunkSetup p)) ∧
    State.reset.engine.trunk = .stopped ∧ State.reset.plans.active.streams = [] ∧
    State.reset.plans.staged.streams = [] ∧ (trunkIs .running State.reset).engine.trunk ≠ .stopped ∧
    (stream1 .up .live [] State.reset).plans.active.streams ≠ [] := by
  refine ⟨?_, by decide +kernel⟩
  unfold State.takesRequest State.offersFrame
  decide +kernel

theorem witness_TrunkStartBeginsStarting :
    ∀ x ∈ [TrunkState.stopped, .starting, .running, .stopping],
      (ask .trunkStart [] (trunkIs x State.reset)).takesRequest .trunkStart (frameOf .trunkStart []) :=
  fun _ _ => ask_takesRequest _ _ _ rfl rfl

theorem witness_TrunkStopBeginsStopping :
    (∀ x ∈ [TrunkState.stopped, .starting, .running, .stopping],
      (ask .trunkStop [] (trunkIs x State.reset)).takesRequest .trunkStop (frameOf .trunkStop []) ∧
      (trunkIs x State.reset).engine.frame = none) ∧
    (ask .trunkStop [] (atSlot 4 State.reset)).takesRequest .trunkStop (frameOf .trunkStop []) ∧
    (atSlot 4 State.reset).engine.frame.isSome = true :=
  ⟨fun _ _ => ⟨ask_takesRequest _ _ _ rfl rfl, rfl⟩, ask_takesRequest _ _ _ rfl rfl, rfl⟩

theorem witness_EnrollBeginsChain :
    (∀ a ∈ [0, 1, 15, 16], (ask .enroll [a] State.reset).takesRequest .enroll (frameOf .enroll [a])) ∧
    (∀ a ∈ [1, 15], (State.reset.station a).state = .absent) ∧
    (∀ x ∈ [StationState.faulted, .active],
      (ask .enroll [3] (station3 x State.reset)).takesRequest .enroll (frameOf .enroll [3]) ∧
      ((station3 x State.reset).station 3).state = x) ∧
    State.reset.notices.entries.length < 32 :=
  ⟨fun _ _ => ask_takesRequest _ _ _ rfl rfl, by decide +kernel,
   fun _ _ => ⟨ask_takesRequest _ _ _ rfl rfl, rfl⟩, by decide⟩

theorem witness_DropMakesAbsent :
    (∀ a ∈ [0, 1, 16], (ask .drop [a] State.reset).takesRequest .drop (frameOf .drop [a])) ∧
    (State.reset.station 1).state = .absent ∧
    (ask .drop [3] (station3 .active State.reset)).takesRequest .drop (frameOf .drop [3]) ∧
    ((station3 .active State.reset).station 3).state ≠ .absent :=
  ⟨fun _ _ => ask_takesRequest _ _ _ rfl rfl, rfl, ask_takesRequest _ _ _ rfl rfl, by decide +kernel⟩

/-- A DROP of station 3 comes, which holds a call, a DROWSE, a host TRIM. -/
def dropping : List State :=
  [withEntry (entryOf .call (some 3) .queued) (ask .drop [3] (queued3 .call .active)),
   withEntry (entryOf .drowse (some 3) .queued) (ask .drop [3] (queued3 .drowse .active)),
   withEntry (entryOf .trim (some 3) .awaitingFrame) (ask .drop [3] host3)]

theorem witness_DropMakesAbsent_work : ∀ s ∈ dropping, Agrees s := agrees_of_all _ (by decide +kernel)

theorem witness_DropMakesAbsent_taken :
    ∀ s ∈ dropping, s.takesRequest .drop (frameOf .drop [3]) ∧ (s.station 3).state ≠ .absent := by
  unfold State.takesRequest State.offersFrame
  decide +kernel

theorem witness_DrowseAndWakeTakeEffect :
    (∀ a ∈ [0, 3, 16], ∀ x ∈ [StationState.active, .drowsy],
      (ask .drowse [a] (station3 x State.reset)).takesRequest .drowse (frameOf .drowse [a]) ∧
      (ask .wake [a] (station3 x State.reset)).takesRequest .wake (frameOf .wake [a])) ∧
    ((station3 .drowsy State.reset).station 3).state = .drowsy ∧ State.reset.notices.entries.length ≤ 5 ∧
    ∀ id st, (station3 .drowsy State.reset).stream id = some st → st.station = 3 → st.state ≠ .live := by
  refine ⟨fun _ _ _ _ => ⟨ask_takesRequest _ _ _ rfl rfl, ask_takesRequest _ _ _ rfl rfl⟩, rfl, by decide, ?_⟩
  intro id st h
  have none : ∀ i ∈ streamIds, (station3 .drowsy State.reset).stream i = none := by decide +kernel
  rw [none id (State.stream_mem h)] at h
  cases h

theorem witness_TrimPolicyAndStationInfo :
    (∀ a ∈ [0, 3, 16], (ask .trim [a] (station3 .active State.reset)).takesRequest .trim (frameOf .trim [a])) ∧
    (∀ d ∈ [0, 1, 8, 9],
      (ask .policy [3, d] (station3 .active State.reset)).takesRequest .policy (frameOf .policy [3, d])) ∧
    ∀ b ∈ [0, 1, 15, 16], (ask .stationInfo [b] State.reset).takesRequest .stationInfo (frameOf .stationInfo [b]) :=
  ⟨fun _ _ => ask_takesRequest _ _ _ rfl rfl, fun _ _ => ask_takesRequest _ _ _ rfl rfl, fun _ _ => ask_takesRequest _ _ _ rfl rfl⟩

theorem witness_CallTestsThenQueues :
    ∀ p ∈ [[0, 2, 0, 0, 0], [3, 2, 240, 0, 0], [3, 3, 240, 0, 0], [3, 3, 244, 15, 255], [3, 3, 0, 16, 0]],
      (ask .call p (station3 .active State.reset)).takesRequest .call (frameOf .call p) := by
  unfold State.takesRequest State.offersFrame
  decide +kernel

theorem witness_ClearFaultRemovesRecord :
    ∀ a ∈ [0, 15, 16], (ask .clearFault [a] State.reset).takesRequest .clearFault (frameOf .clearFault [a]) :=
  fun _ _ => ask_takesRequest _ _ _ rfl rfl

/-- The states in which OPEN STREAM fails its tests 2 to 5, in their order. -/
def openRefusals : List State :=
  [{ State.reset with plans := { State.reset.plans with commit := some { target := 9, tag := 0x30 } } },
   { State.reset with streams := { State.reset.streams with
       records := Vector.replicate 24 (some (newStream 3 .up [7] 16 4)) } },
   { State.reset with plans := { State.reset.plans with staged := { State.reset.plans.staged with
       slots := Vector.replicate 32 .beacon } } },
   { State.reset with streams := { State.reset.streams with freeBlocks := 0 } }]

theorem witness_OpenStreamPlacesStream :
    (∀ p ∈ [[1, 0, 1, 0, 16, 0, 1], [15, 1, 8, 1, 0, 1, 0], [3, 1, 9, 0, 32, 0, 4]],
      (ask .openStream p State.reset).takesRequest .openStream (frameOf .openStream p)) ∧
    (∀ s ∈ openRefusals, (ask .openStream [3, 1, 2, 0, 32, 0, 4] s).takesRequest .openStream
      (frameOf .openStream [3, 1, 2, 0, 32, 0, 4])) ∧
    (∀ s ∈ openRefusals[1]?, ∀ id ∈ streamIds, s.stream id ≠ none) ∧
    (∀ s ∈ openRefusals[2]?, s.plans.staged.freeSlots = []) ∧
    State.reset.stream 1 = none ∧ 8 ≤ State.reset.plans.staged.freeSlots.length := by
  refine ⟨?_, ?_, by decide +kernel, by decide +kernel, by decide +kernel, by decide +kernel⟩
  · unfold State.takesRequest State.offersFrame; decide +kernel
  · unfold State.takesRequest State.offersFrame; decide +kernel

theorem witness_CloseStreamRemovesOrMarks :
    (∀ id ∈ [0, 1, 25], ∀ x ∈ [StreamState.staged, .live, .held],
      (ask .closeStream [id] (stream1 .up x [5] State.reset)).takesRequest .closeStream (frameOf .closeStream [id]) ∧
      (stream1 .up x [5] State.reset).plans.commit = none) ∧
    ((stream1 .up .live [5] State.reset).stream 1).map (·.closing) = some false ∧ State.reset.stream 25 = none :=
  ⟨fun _ _ _ _ => ⟨ask_takesRequest _ _ _ rfl rfl, rfl⟩, by decide +kernel, by decide +kernel⟩

theorem witness_DiscardRestoresStagedPlan :
    (ask .discard [] (stream1 .up .staged [] State.reset)).takesRequest .discard (frameOf .discard []) ∧
    (stream1 .up .staged [] State.reset).plans.commit = none ∧
    ∀ s ∈ openRefusals.head?, (ask .discard [] s).takesRequest .discard (frameOf .discard []) ∧ s.plans.commit ≠ none := by
  refine ⟨ask_takesRequest _ _ _ rfl rfl, rfl, ?_⟩
  unfold State.takesRequest State.offersFrame
  decide +kernel

theorem witness_CommitRecordsTarget :
    ∀ p ∈ [[], [0, 0, 0, 0, 0, 0], [0, 0, 0, 0, 0, 1], [0, 0, 0, 0x10, 0, 0], [0, 0, 0, 0x10, 0, 1]],
      (ask .commit p State.reset).takesRequest .commit (frameOf .commit p) := by
  unfold State.takesRequest State.offersFrame
  decide +kernel

theorem witness_WriteAppendsWhatFits_lengths :
    ∀ n ∈ [1, 5, 196], (ask .write (List.replicate n 1) State.reset).offersFrame (frameOf .write (List.replicate n 1)) ∧
      ∀ m ∈ List.range 65, 1 ≤ m → (List.replicate n (1 : Byte)).length ≠ 3 * m + 1 := by
  unfold State.offersFrame
  decide +kernel

theorem witness_WriteAppendsWhatFits :
    (∀ d ∈ [Direction.down, .up], ∀ id ∈ [1, 2],
      (ask .write [id, 0, 0, 5] (stream1 d .live [] State.reset)).takesRequest .write (frameOf .write [id, 0, 0, 5]) ∧
      ((stream1 d .live [] State.reset).stream 1).map (fun st => (st.direction, st.closing)) = some (d, false)) ∧
    (stream1 .down .live [] State.reset).stream 2 = none := by
  exact ⟨fun d _ id _ => ⟨ask_takesRequest .write [id, 0, 0, 5] _ rfl (show ReqKind.write.allowsLength 4 = true by decide), rfl⟩, rfl⟩

theorem witness_StreamInfoReportsAndClears :
    ∀ id ∈ [1, 2], ∀ flag ∈ [0, 1], (ask .streamInfo [id, flag] (stream1 .down .live [] State.reset)).takesRequest
      .streamInfo (frameOf .streamInfo [id, flag]) :=
  fun _ _ _ _ => ask_takesRequest _ _ _ rfl rfl

theorem witness_HostFrameRoundTrip :
    (List.replicate 200 (0 : Byte)).length ≤ 200 ∧ State.reset.port.rstnLow = false ∧
    State.reset.port.receiver.kept = [] := by decide +kernel

theorem witness_ReceiverTakesSingleBytes :
    ∃ (s : State) (x : RxByte), s.port.rstnLow = false ∧ s.port.receiver.kept = [x] ∧ x.byte = 0xC3 ∧
      x.framingError = false ∧ State.reset.port.receiver.kept = [] ∧ (2 : Byte).toNat < 3 ∧ 203 < (204 : Byte).toNat :=
  ⟨State.reset.atReceiver [{ byte := 0xC3, gapBefore := false, framingError := false }] false 0, _, rfl, rfl, rfl, rfl,
    rfl, by decide, by decide⟩

/-- A byte as the receiver keeps it. -/
def keptByte (b : Byte) : RxByte := { byte := b, gapBefore := false, framingError := false }

/-- Behind a kept sync byte, a bad length, a gap over the limit before the end, a framing error and a CRC that differs
each fail the candidate; a kept byte other than C3h begins none. -/
theorem witness_ReceiverTakesSingleBytes_rescan :
    (∃ s : State, s.port.rstnLow = false ∧ s.port.receiver.kept = keptByte 0xC3 :: [keptByte 3, keptByte 0xC3] ∧
      candidateFails true [keptByte 3, keptByte 0xC3] ∧
      candidateFails false ([keptByte 3, keptByte 0xC3] ++ s.port.receiver.record true [1]) ∧
      candidateFails false ([keptByte 3, keptByte 0xC3] ++ s.port.receiver.record false [0x21, 0, 0, 0])) ∧
    candidateFails false [keptByte 2] ∧ candidateFails false [keptByte 204] ∧
    (∃ s : State, s.port.rstnLow = false ∧ s.port.receiver.kept = [keptByte 5] ∧ (keptByte 5).byte ≠ 0xC3) ∧
    ([1, 0x21, 0, 0, 0] : List Byte).length = (3 : Byte).toNat + 2 ∧
    crcBytes (3 :: ([1, 0x21, 0, 0, 0] : List Byte).take 3) ≠ ([1, 0x21, 0, 0, 0] : List Byte).drop 3 :=
  ⟨⟨State.reset.atReceiver [keptByte 0xC3, keptByte 3, keptByte 0xC3] false 0, rfl, rfl,
      (examine_failed_iff _ _).mp (by decide +kernel), (examine_failed_iff _ _).mp (by decide +kernel),
      (examine_failed_iff _ _).mp (by decide +kernel)⟩,
    (examine_failed_iff _ _).mp (by decide +kernel), (examine_failed_iff _ _).mp (by decide +kernel),
    ⟨State.reset.atReceiver [keptByte 5] false 0, rfl, rfl, by decide⟩, by decide, by decide +kernel⟩

/-- One reply waits. -/
def oneReply (x : Transmitter) : State :=
  { State.reset with port := { State.reset.port with
      replies := [{ kind := 0x56, tag := 0x30, status := .ok, body := .short, deferred := true }], transmitter := x } }

theorem witness_ReplyIsSentThenLeaves :
    (∀ x ∈ [Transmitter.idle, .reply [0xC3], .notice [0xC3]],
      (oneReply x).port.rstnLow = false ∧ (oneReply x).port.replies.length = 1 ∧ (oneReply x).port.transmitter = x) ∧
    State.reset.port.replies = [] ∧ State.reset.port.transmitter = .idle ∧
    ∃ s : State, s.port.rstnLow = false ∧ s.port.replies = [] ∧ s.port.transmitter = .notice [0xC3] := by
  refine ⟨by decide, rfl, rfl, ?_⟩
  exact ⟨{ State.reset with port := { State.reset.port with transmitter := .notice [0xC3] } }, rfl, rfl, rfl⟩

/-- A notice, a marker of stream 1 among them, is at the head; the stream has a state and a number of words. -/
def noticing (n : Notice) (x : StreamState) (words : Nat) : State :=
  { stream1 .up x (List.replicate words 5) State.reset with
      notices := { State.reset.notices with entries := [n], markers := State.reset.notices.markers.set 0 true } }

theorem noticing_head (n : Notice) (x : StreamState) (words : Nat) :
    (noticing n x words).port.rstnLow = false ∧ (noticing n x words).notices.entries = n :: [] ∧
    (noticing n x words).port.transmitter = .idle ∧ (noticing n x words).port.replies = [] ∧
    0 < (noticing n x words).notices.credits ∧ (noticing n x words).port.restarting = false ∧
    ∃ st, (noticing n x words).stream 1 = some st ∧ st.watermark = 4 ∧ st.state = x ∧
      st.buffer = List.replicate words 5 :=
  ⟨rfl, rfl, rfl, rfl, show 0 < 8 by decide, rfl, _, rfl, rfl, rfl, rfl⟩

/-- The states and operands of `noticing` meet every case: a full record, a SPACE marker, and a DATA marker whose level
left meets R59's test by the watermark, by one word of a HELD stream, and not at all. -/
theorem witness_NoticeStartSendsHead :
    (Notice.start .power 0).marker = none ∧ 4 ≤ (List.replicate 68 (5 : Sample)).length - 64 ∧
    (1 ≤ (List.replicate 65 (5 : Sample)).length - 64 ∧ ¬ 4 ≤ (List.replicate 65 (5 : Sample)).length - 64) ∧
    (nextOf (exec .noticeStart (noticing (.data 1) .live 68))).map
      (fun t => (t.notices.entries, t.notices.marked 1)) = some ([.data 1], true) ∧
    (nextOf (exec .noticeStart (noticing (.data 1) .held 65))).map
      (fun t => (t.notices.entries, t.notices.marked 1)) = some ([.data 1], true) ∧
    (nextOf (exec .noticeStart (noticing (.data 1) .live 65))).map
      (fun t => (t.notices.entries, t.notices.marked 1)) = some ([], false) := by
  decide +kernel

theorem witness_NoticeStartSendsHead_stays :
    (oneReply .idle).port.replies ≠ [] ∧ (oneReply (.reply [0xC3])).port.transmitter ≠ .idle ∧
    (∃ s : State, s.port.rstnLow = false ∧ s.notices.entries = []) ∧
    ∃ s : State, s.port.rstnLow = false ∧ s.notices.credits = 0 ∧ s.port.restarting = true :=
  ⟨by decide, by decide, ⟨{ State.reset with notices := { State.reset.notices with entries := [] } }, rfl, rfl⟩,
   { State.reset with notices := { State.reset.notices with credits := 0 },
                      port := { State.reset.port with restarting := true } }, rfl, rfl, rfl⟩

theorem witness_ResetPointTakesPowerOnState :
    State.reset.port.restarting = false ∧
    ∃ s : State, s.port.rstnLow = false ∧ s.port.restarting = true ∧ s.port.replies = [] ∧ s.port.transmitter = .idle :=
  ⟨rfl, { State.reset with port := { State.reset.port with restarting := true, baud := 2 } }, rfl, rfl, rfl, rfl⟩

theorem witness_startsFrame : ∀ x ∈ [TrunkState.starting, .running], (trunkIs x State.reset).startsFrame := by
  unfold State.startsFrame
  decide

theorem witness_FrameStartAssignsNumber :
    (trunkIs .starting State.reset).startsFrame ∧ (trunkIs .running State.reset).startsFrame ∧
    (trunkIs .starting State.reset).engine.trunk = .starting ∧
    (trunkIs .running named3).startsFrame ∧ (trunkIs .running named3).stations.wakeQueue.head? = some 3 :=
  ⟨witness_startsFrame _ (by decide), witness_startsFrame _ (by decide), rfl, ⟨rfl, rfl, Or.inr rfl, by decide⟩, rfl⟩

/-- Station 3 is at its defer depth of 2, so it is eligible for a service pair. -/
def deep : State := (station3 .active (trunkIs .running State.reset)).onAccount 3 (fun c => { c with balance := 2 })

theorem witness_ServiceArbiterOrder :
    (1 ≤ deep.engine.setup.service ∧ deep.ranked[1 - 1]? = some 3) ∧
    deep.startsFrame ∧ deep.engine.trunk = .running ∧ deep.beforeGrants.ranked[1 - 1]? = some 3 := by
  unfold State.startsFrame
  decide +kernel

/-- A call to station 3 waits in the queue. -/
def calling : State :=
  { (station3 .active (trunkIs .running State.reset)).onAccount 3 (fun c => { c with countdown := 50 }) with
      calls := { State.reset.calls with queue := [call3 .call] } }

theorem witness_CommandGrantsAreEligible :
    calling.startsFrame ∧
    ((nextOf (exec .frameStart calling)).bind (fun t => t.exchange 1)).map (·.entry) = some (call3 .call) ∧
    calling.engine.trunk = .running ∧ 2 ≤ calling.engine.setup.command ∧
    (grantServices calling.beforeGrants).exchange 1 = none ∧ (grantServices calling.beforeGrants).exchange 2 = none ∧
    (grantServices calling.beforeGrants).calls.queue.Nodup ∧
    ((nextOf (exec .frameStart calling)).bind (fun t => t.exchange 2)) = none := by
  constructor
  · unfold State.startsFrame; decide +kernel
  · decide +kernel

/-- A commit for the next frame is pending; the closing stream 1, which waits for it, has a DATA marker in the queue. -/
def committing : State :=
  let s := stream1 .up .held [5] (trunkIs .running State.reset)
  let s := s.setStream 1 ((s.stream 1).map (fun st => { st with closing := true }))
  withEntry (entryOf .commit none .awaitingFrame)
    { s with plans := { s.plans with staged := Plan.reset, commit := some { target := 1, tag := 0x30 } }
             notices := s.notices.offerMarker 1 (.data 1) }

theorem witness_PlanSwapActivatesStagedPlan :
    committing.startsFrame ∧ committing.plans.commit = some { target := 1, tag := 0x30 } ∧
    1 = committing.engine.frameNumber + 1 ∧ 1 ∈ committing.plans.active.streams ∧
    1 ∉ committing.plans.staged.streams ∧
    committing.port.table.find? (fun e => e.tag == 0x30 && !e.replied) = some (entryOf .commit none .awaitingFrame) := by
  unfold State.startsFrame
  decide +kernel

theorem witness_PlanSwapActivatesStagedPlan_closing :
    committing.closing = [1] ∧ MarkersIndexed committing ∧ PlansAgree committing ∧
    committing.notices.entries.length + committing.closing.length ≤ 32 ∧ committing.notices.marked 1 = true ∧
    (committing.stream 1).isSome = true := by
  unfold MarkersIndexed PlansAgree Plan.holds
  decide +kernel

/-- Station 3's quiet span ends at the next frame, under a host TRIM, at a balance and a trim countdown. -/
def resting (balance : Int) (countdown : Nat) : State :=
  withEntry (entryOf .trim (some 3) .awaitingFrame)
    (((station3 .trimming (stream1 .up .held [5] (trunkIs .running State.reset))).onStation 3
      (fun r => { r with hostTrim := true })).onAccount 3
        (fun c => { c with balance := balance, quietEnd := some 1, ackPair := some 1, countdown := countdown }))

theorem witness_QuietSpanEndReturnsToActive :
    ∀ p ∈ [(0, 9), (8, 9), (7, 1), (8, 1)], let s := resting p.1 p.2
      s.startsFrame ∧ (s.station 3).state = .trimming ∧
      (s.account 3).quietEnd = some (s.engine.frameNumber + 1) ∧
      ((s.account 3).balance, (s.account 3).countdown) = p ∧
      (s.station 3).hostTrim = true ∧ s.port.waiting .trim (some 3) = some 0x30 ∧ (s.port.table.map (·.tag)).Nodup ∧
      s.plans.commit.map (·.target) ≠ some (s.engine.frameNumber + 1) ∧
      (s.stream 1).map (fun st => (st.station, st.state)) = some (3, .held) := by
  unfold State.startsFrame
  decide +kernel

theorem test_quiet_end_at_balance_8 :
    ((nextOf (exec .frameStart (resting 8 9))).map (fun t => ((t.station 3).state, (t.stream 1).map (·.state)))) =
      some (.active, some .live) ∧
    ((nextOf (exec .frameStart (resting 8 1))).map (fun t => ((t.station 3).state, (t.stream 1).map (·.state)))) =
      some (.faulted, some .held) := by decide +kernel

/-- A trim of station 3 falls due at the next frame. -/
def due (balance : Int) : State :=
  (station3 .active (trunkIs .running State.reset)).onAccount 3 (fun c => { c with balance := balance, countdown := 1 })

theorem witness_TrimDueRaisesBalanceOrBreaches :
    ∀ b ∈ [7, 8], (due b).startsFrame ∧ ((due b).station 3).state = .active ∧ ((due b).account 3).countdown = 1 ∧
      ((due b).account 3).balance = b := by
  unfold State.startsFrame
  decide +kernel

/-- A trim of station 3 falls due at the balance +8, while it has a stream and a queued CALL or a host TRIM. -/
def breaching : List State :=
  let account := fun (s : State) => s.onAccount 3 (fun c => { c with balance := 8, countdown := 1 })
  [account (withEntry (entryOf .call (some 3) .queued) (stream1 .up .live [5] (trunkIs .running (queued3 .call .active)))),
   account (withEntry (entryOf .trim (some 3) .awaitingFrame) (stream1 .up .live [5] (trunkIs .running host3)))]

theorem witness_TrimDueRaisesBalanceOrBreaches_work :
    (∀ s ∈ breaching, s.startsFrame ∧ (s.station 3).state = .active ∧ (s.account 3).countdown = 1 ∧
      (s.account 3).balance = 8 ∧ (s.beforeAccrual 3).notices.entries.length ≤ 5 ∧
      ((s.beforeAccrual 3).stream 1).map (fun st => (st.station, st.direction, st.state, st.buffer)) =
        some (3, .up, .live, [5]) ∧
      ((s.beforeAccrual 3).workReplies 3 .faulted .faulted).length = 1) ∧
    ∀ s ∈ breaching.map (State.beforeAccrual · 3), Agrees s := by
  refine ⟨?_, agrees_of_all _ (by decide +kernel)⟩
  unfold State.startsFrame
  decide +kernel

/-- A beacon-only frame is in progress. -/
def inStarting (countdown : Nat) : State :=
  withEntry (entryOf .trunkStart none .awaitingFrame)
    { State.reset with engine := { State.reset.engine with
        trunk := .starting, countdown := countdown, frameNumber := 16,
        frame := some { full := false, nextSlot := 1, wakeAddress := 0 } } }

theorem witness_FrameEndCountsDownToRunning :
    (atSlot 4 State.reset).engine.trunk = .running ∧ (atSlot 4 State.reset).engine.frame.isSome = true ∧
    (∀ n ∈ [1, 2], (inStarting n).port.rstnLow = false ∧ (inStarting n).engine.countdown = n ∧
      (inStarting n).engine.frameNumber < 0xFFFFFFFFFFFF ∧
      (inStarting n).port.waiting .trunkStart none = some 0x30 ∧ ((inStarting n).port.table.map (·.tag)).Nodup) := by
  decide +kernel

/-- The trunk is stopping, or the last frame is in progress. -/
def ending (x : TrunkState) : State :=
  { State.reset with engine := { State.reset.engine with
      trunk := x, frameNumber := 0xFFFFFFFFFFFF, frame := some { full := true, nextSlot := 4, wakeAddress := 0 } } }

theorem witness_TrunkStopClearsStationsAndCalls :
    ∀ x ∈ [TrunkState.stopping, .starting, .running], (ending x).port.rstnLow = false ∧
      (ending x).engine.frame.isSome = true ∧ (ending x).engine.trunk = x ∧
      (ending x).engine.frameNumber = 0xFFFFFFFFFFFF := by decide +kernel

/-- The trunk is stopping with a TRUNK STOP outstanding, and station 3 holds work of a kind. -/
def endingWith (e : Outstanding) (s : State) : State :=
  { s with
    engine := (ending .stopping).engine
    port := { s.port with table := [e, { entryOf .trunkStop none .awaitingFrame with tag := 0x31 }] } }

def stopping : List State :=
  [endingWith (entryOf .call (some 3) .queued) (queued3 .call .active),
   endingWith (entryOf .enroll (some 3) .queued) (queued3 .enroll .joining),
   endingWith (entryOf .trim (some 3) .awaitingFrame) (trimming true 0 0),
   endingWith (entryOf .trunkStart none .awaitingFrame) State.reset]

theorem witness_TrunkStopClearsStationsAndCalls_replies : ∀ s ∈ stopping.map closeFrame, Agrees s :=
  agrees_of_all _ (by decide +kernel)

theorem witness_TrunkStopClearsStationsAndCalls_stopping :
    ∀ s ∈ stopping, s.engine.trunk = .stopping ∧ s.engine.frame.isSome = true ∧
      (closeFrame s).port.waiting .trunkStop none = some 0x31 := by decide +kernel

/-- The slot that comes next has none before it. -/
theorem here {s : State} (k : Nat) (h : s.engine.frame = some { full := true, nextSlot := k, wakeAddress := 3 }) :
    s = passSlots k s := (passSlots_here h (Nat.le_refl _)).symm

/-- Station 3 is WAKING and its latency ends with the frame. -/
def awaking : State :=
  withEntry (entryOf .wake (some 3) .awaitingFrame)
    ((station3 .waking (atSlot 32 State.reset)).onStation 3
      (fun r => { r with wakeCountdown := some 1, operation := some (.wake, 0x30) }))

theorem witness_WakeLatencyEndQueuesProbe :
    awaking.port.rstnLow = false ∧ awaking.engine.frame.isSome = true ∧ awaking.engine.trunk = .running ∧
    awaking.engine.frameNumber < 0xFFFFFFFFFFFF ∧ (awaking.station 3).wakeCountdown = some 1 ∧
    awaking = passSlots 32 awaking ∧ (awaking.station 3).operation = some (.wake, 0x30) ∧
    awaking.port.restarting = false :=
  ⟨rfl, rfl, rfl, by decide, rfl, here _ rfl, rfl, rfl⟩

theorem atSlot_reached (k : Nat) (s : State) (h : s.port.rstnLow = false) : (atSlot k s).reachesSlot k :=
  ⟨h, _, rfl, Nat.le_refl _⟩

theorem atSlot_passed (k : Nat) (s : State) : atSlot k s = passSlots k (atSlot k s) :=
  here _ rfl

theorem witness_BeaconCarriesFrameFields :
    (atSlot 0 State.reset).port.rstnLow = false ∧
    (atSlot 0 State.reset).engine.frame = some { full := true, nextSlot := 0, wakeAddress := 3 } ∧
    (atSlot 0 State.reset).roleNow 0 = .beacon := by decide +kernel

theorem witness_PairDownSlotsSendOrders :
    ((atSlot 1 State.reset).reachesSlot 1 ∧ atSlot 1 State.reset = passSlots 1 (atSlot 1 State.reset) ∧
      (atSlot 1 State.reset).roleNow 1 = .serviceDown 1) ∧
    (atSlot 5 State.reset).reachesSlot 5 ∧ atSlot 5 State.reset = passSlots 5 (atSlot 5 State.reset) ∧
    5 = 2 * (atSlot 5 State.reset).engine.setup.service + 2 * 2 - 1 ∧
    (atSlot 5 State.reset).roleNow 5 = .commandDown 2 :=
  ⟨⟨atSlot_reached _ _ rfl, atSlot_passed _ _, by decide +kernel⟩, atSlot_reached _ _ rfl, atSlot_passed _ _, rfl,
   by decide +kernel⟩

theorem witness_TrimAnswerIsDealtWith :
    (∀ h ∈ [true, false], ∀ r ∈ [0, 7], ∀ m ∈ [0, 3],
      (trimming h r m).reachesSlot (2 * 1) ∧ trimming h r m = passSlots (2 * 1) (trimming h r m)) ∧
    (∀ h ∈ [true, false], ∀ r ∈ [0, 7], ∀ m ∈ [0, 3], (trimming h r m).roleNow 2 = .serviceUp 1 ∧
      (trimming h r m).plans.active.role 2 = .serviceUp 1 ∧ (trimming h r m).trims.held 1 = some 3 ∧
      ((trimming h r m).station 3).state = .active ∧ ((trimming h r m).station 3).hostTrim = h ∧
      ((trimming h r m).station 3).refusals = r ∧ ((trimming h r m).station 3).misses = m) ∧
    (∀ n ∈ [1, 2, 3], isReply 3 n (replyWord n 0 0)) ∧ oddParity 1#32 = true ∧ oddParity 3#32 = false := by
  refine ⟨fun h _ _ _ _ _ => by cases h <;> exact ⟨⟨rfl, _, rfl, Nat.le_refl _⟩, here _ rfl⟩,
    by decide +kernel, ?_, by decide, by decide⟩
  unfold isReply
  decide +kernel

theorem witness_TrimAnswerIsDealtWith_replies :
    (∀ s ∈ [trimming true 0 0, trimming true 0 3, trimming true 7 0, trimming false 7 0, trimming false 0 3], Agrees s) ∧
    (trimming true 0 0).belowMissLimit 3 ∧ ¬ (trimming true 0 3).belowMissLimit 3 :=
  ⟨agrees_of_all _ (by decide +kernel), show 0 + 1 < 4 by decide, show ¬ 3 + 1 < 4 by decide⟩

theorem exchanging_upSlotComes (owner : OwnerKind) (attempt left waits : Nat) (x : StationState) :
    (exchanging owner attempt left waits x).upSlotComes (exchanging owner attempt left waits x) 1 3 4
      { entry := call3 owner, attempt := attempt, waits := waits, framesLeft := left, sendDue := false } := by
  refine ⟨by decide, by decide, by decide, by decide, rfl, ⟨rfl, _, rfl, Nat.le_refl _⟩,
    here _ rfl, ?_, ?_, ?_, rfl⟩ <;> rfl

theorem witness_CallExchangeIsCarriedOn :
    (∀ attempt left waits, (exchanging .call attempt left waits .active).upSlotComes
      (exchanging .call attempt left waits .active) 1 3 4
      { entry := call3 .call, attempt := attempt, waits := waits, framesLeft := left, sendDue := false }) ∧
    (call3 .call).owner = .call ∧ (∀ n ∈ [1, 2, 3], isReply 3 n (replyWord n 5 0)) ∧ isWait 3 (makeWord kindWait 3 0) ∧
    isForeign 3 (makeWord kindWait 4 0) ∧ isForeign 3 (replyWord 4 0 0) ∧
    ((exchanging .call 1 1 0 .active).station 3).misses + 1 < (exchanging .call 1 1 0 .active).engine.setup.missLimit ∧
    ((exchanging .call 1 1 0 .active).station 3).exchange = some (.command 1) := by
  refine ⟨fun _ _ _ => exchanging_upSlotComes _ _ _ _ _, rfl, ?_, ?_, ?_, ?_, by decide +kernel, by decide +kernel⟩
  · unfold isReply; decide +kernel
  · unfold isWait; decide +kernel
  · refine ⟨by decide +kernel, fun h => absurd h.2.1 (by decide +kernel), fun n _ _ h => absurd h.2.1 (by decide +kernel)⟩
  · refine ⟨by decide +kernel, fun h => absurd h.2.2 (by decide +kernel), fun n h1 h3 h => ?_⟩
    have h4 : payloadHigh (wordPayload (replyWord 4 0 0)) = 4 := by decide +kernel
    have := h.2.2.2
    omega

/-- Station 3 is one miss before the limit. -/
def nearLimit (s : State) : State := s.onStation 3 (fun r => { r with misses := 3 })

theorem nearLimit_upSlotComes (owner : OwnerKind) (attempt left waits : Nat) (x : StationState) :
    (nearLimit (exchanging owner attempt left waits x)).upSlotComes (nearLimit (exchanging owner attempt left waits x))
      1 3 4 { entry := call3 owner, attempt := attempt, waits := waits, framesLeft := left, sendDue := false } := by
  refine ⟨by decide, by decide, by decide, by decide, rfl, ⟨rfl, _, rfl, Nat.le_refl _⟩,
    here _ rfl, ?_, ?_, ?_, rfl⟩ <;> rfl

/-- The exchange of an owner comes to its up slot, also one miss before the limit. -/
def exchangesOf (owner : OwnerKind) (x : StationState) : List State :=
  [exchanging owner 1 1 0 x, exchanging owner 1 1 4 x, exchanging owner 3 1 0 x, nearLimit (exchanging owner 1 1 0 x),
   nearLimit (exchanging owner 3 1 0 x)]

theorem exchanging_agrees :
    ∀ s ∈ exchangesOf .call .active ++ exchangesOf .enroll .joining ++ exchangesOf .drowse .active ++
      exchangesOf .wake .waking, Agrees s := agrees_of_all _ (by decide +kernel)

theorem exchanging_limits (owner : OwnerKind) (attempt left waits : Nat) (x : StationState) :
    (exchanging owner attempt left waits x).belowMissLimit 3 ∧
    ¬ (nearLimit (exchanging owner attempt left waits x)).belowMissLimit 3 :=
  ⟨show 0 + 1 < 4 by decide, show ¬ 3 + 1 < 4 by decide⟩

/-- The events that end an attempt or an exchange, in the forms of `Exchange.misses` and `Exchange.failsWith`. -/
theorem witness_failsWith (owner : OwnerKind) :
    (∀ attempt waits, ({ entry := call3 owner, attempt := attempt, waits := waits, framesLeft := 1, sendDue := false } :
      Exchange).misses 3 none ∧
      ({ entry := call3 owner, attempt := attempt, waits := waits, framesLeft := 1, sendDue := false } :
        Exchange).misses 3 (some 1#32)) ∧
    (∀ x : Exchange, x.failsWith 3 (some (replyWord 2 0 0)) .refused ∧
      x.failsWith 3 (some (replyWord 3 0 0)) .unknownAttr) ∧
    ({ entry := call3 owner, attempt := 1, waits := 4, framesLeft := 1, sendDue := false } : Exchange).failsWith 3
      (some (makeWord kindWait 3 0)) .stall ∧
    ({ entry := call3 owner, attempt := 3, waits := 0, framesLeft := 1, sendDue := false } : Exchange).failsWith 3 none
      .noReply := by
  refine ⟨fun _ _ => ⟨Or.inl ⟨rfl, rfl⟩, Or.inr ⟨_, rfl, Or.inl (by decide)⟩⟩, fun _ => ⟨Or.inl ⟨_, rfl, ?_, rfl⟩,
    Or.inr (Or.inl ⟨_, rfl, ?_, rfl⟩)⟩, Or.inr (Or.inr (Or.inl ⟨_, rfl, ?_, Nat.le_refl _, rfl⟩)),
    Or.inr (Or.inr (Or.inr ⟨Or.inl ⟨rfl, rfl⟩, Nat.le_refl _, rfl⟩))⟩
  · unfold isReply; decide +kernel
  · unfold isReply; decide +kernel
  · unfold isWait; decide +kernel

/-- Station 3 is JOINING at a step of its chain. -/
def chainAt (e : EnrollStep) : State :=
  (exchanging .enroll 1 4 0 .joining).onStation 3 (fun r => { r with step := some e })

theorem witness_EnrollChainAdvances :
    ∀ e, (chainAt e).upSlotComes (chainAt e) 1 3 4
        { entry := call3 .enroll, attempt := 1, waits := 0, framesLeft := 4, sendDue := false } ∧
      ((chainAt e).station 3).state = .joining ∧ ((chainAt e).station 3).step = some e ∧
      (chainAt e).port.restarting = false ∧ isReply 3 1 (replyWord 1 240 7) ∧
      payloadAttr (wordPayload (replyWord 1 240 7)) = 240 ∧ payloadValue (wordPayload (replyWord 1 240 7)) = 7 := by
  intro e
  refine ⟨⟨by decide, by decide, by decide, by decide, rfl, ⟨rfl, _, rfl, Nat.le_refl _⟩,
    here _ rfl, rfl, rfl, rfl, rfl⟩, rfl, rfl, rfl, ?_, by decide +kernel,
    by decide +kernel⟩
  unfold isReply
  decide +kernel

theorem witness_DrowseAndProbeRepliesMoveStation :
    (exchanging .drowse 1 4 0 .active).upSlotComes (exchanging .drowse 1 4 0 .active) 1 3 4
      { entry := call3 .drowse, attempt := 1, waits := 0, framesLeft := 4, sendDue := false } ∧
    (exchanging .wake 1 4 0 .waking).upSlotComes (exchanging .wake 1 4 0 .waking) 1 3 4
      { entry := call3 .wake, attempt := 1, waits := 0, framesLeft := 4, sendDue := false } ∧
    (∀ n ∈ [1, 2, 3], isReply 3 n (replyWord n 240 7)) ∧
    ((exchanging .wake 1 4 0 .waking).station 3).identity = some 7 := by
  refine ⟨exchanging_upSlotComes _ _ _ _ _, exchanging_upSlotComes _ _ _ _ _, ?_, by decide +kernel⟩
  unfold isReply
  decide +kernel

/-- Stream 1's slot comes. -/
def streaming (d : Direction) (x : StreamState) (buffer : List Sample) : State :=
  stream1 d x buffer (atSlot 7 State.reset)

theorem streaming_comes (d : Direction) (x : StreamState) (buffer : List Sample) :
    (streaming d x buffer).reachesSlot 7 ∧ streaming d x buffer = passSlots 7 (streaming d x buffer) ∧
    (streaming d x buffer).roleNow 7 = .stream 1 ∧ (streaming d x buffer).plans.active.role 7 = .stream 1 ∧
    (streaming d x buffer).stream 1 = some { newStream 3 d [7] 16 4 with state := x, buffer := buffer } :=
  ⟨⟨rfl, _, rfl, Nat.le_refl _⟩, here _ rfl, rfl, rfl, rfl⟩

theorem witness_StreamDownSlotSendsWord :
    (∀ x ∈ [StreamState.live, .held], ∀ b ∈ [[], [5]], (streaming .down x b).reachesSlot 7 ∧
      (streaming .down x b).roleNow 7 = .stream 1 ∧
      ((streaming .down x b).stream 1).map (fun st => (st.direction, st.state, st.buffer)) = some (.down, x, b)) :=
  fun x _ b _ => ⟨(streaming_comes .down x b).1, (streaming_comes .down x b).2.2.1, rfl⟩

theorem witness_StreamUpSlotTakesSampleOrGap :
    (∀ b ∈ [[], List.replicate 16 5], (streaming .up .live b).reachesSlot 7 ∧
      (streaming .up .live b).roleNow 7 = .stream 1 ∧
      ((streaming .up .live b).stream 1).map (fun st => (st.direction, st.state, st.station, st.buffer, st.capacity)) =
        some (.up, .live, 3, b, 16)) ∧
    oddParity (dataWord 3 9) = false ∧ wordAddress (dataWord 3 9) = 3 ∧ wordKind (dataWord 3 9) = 2 ∧
    oddParity 1#32 = true ∧ wordAddress (dataWord 4 9) ≠ 3 :=
  ⟨fun b _ => ⟨(streaming_comes .up .live b).1, (streaming_comes .up .live b).2.2.1, rfl⟩, by decide +kernel⟩

theorem witness_UnexpectedWordIsForeign :
    ((atSlot 9 State.reset).reachesSlot 9 ∧ (atSlot 9 State.reset).roleNow 9 = .free) ∧
    ((atSlot 2 State.reset).roleNow 2 = .serviceUp 1 ∧ (atSlot 2 State.reset).trims.held 1 = none) ∧
    ((atSlot 4 State.reset).roleNow 4 = .commandUp 1 ∧ (atSlot 4 State.reset).exchange 1 = none) ∧
    ((streaming .up .held []).roleNow 7 = .stream 1 ∧
      ((streaming .up .held []).stream 1).map (·.state) = some .held) :=
  ⟨⟨atSlot_reached _ _ rfl, by decide +kernel⟩, by decide +kernel, by decide +kernel, by decide +kernel⟩

theorem witness_TrunkWordRoundTrip :
    oddParity 1#32 = true ∧ (oddParity (dataWord 3 9) = false ∧ wordAddress (dataWord 3 9) = 3 ∧
      wordKind (dataWord 3 9) = 2) ∧ isReply 3 1 (replyWord 1 0 0) := by
  unfold isReply
  decide +kernel

/-- The state after reset with a command waiting meets every invariant and steps. -/
theorem witness_invariants :
    PoolWhole { State.reset with pending := [.hello] } ∧ BuffersFit { State.reset with pending := [.hello] } ∧
    FaultsCounted { State.reset with pending := [.hello] } ∧ MarkersIndexed { State.reset with pending := [.hello] } ∧
    PortBounded { State.reset with pending := [.hello] } ∧ EngineSound { State.reset with pending := [.hello] } ∧
    ExchangesAgree { State.reset with pending := [.hello] } ∧ WorkOwned { State.reset with pending := [.hello] } ∧
    StreamsFollowStations { State.reset with pending := [.hello] } ∧
    step { State.reset with pending := [.hello] } = .next State.reset := by
  refine ⟨?_, ?_, ?_, ?_, ?_, ?_, ?_, ?_, ?_, rfl⟩
  · unfold PoolWhole; decide +kernel
  · unfold BuffersFit; decide +kernel
  · unfold FaultsCounted; decide +kernel
  · unfold MarkersIndexed; decide +kernel
  · unfold PortBounded; decide +kernel
  · unfold EngineSound; decide +kernel
  · unfold ExchangesAgree; decide +kernel
  · exact (agrees_of_all [_] (by decide +kernel) _ List.mem_cons_self).2.2.1
  · unfold StreamsFollowStations; decide +kernel

theorem witness_PlansStayRelated :
    PlansAgree State.reset ∧ PlansAgree (stream1 .up .live [] State.reset) ∧ step State.reset = .next State.reset ∧
    StreamsFollowStations (stream1 .up .live [] (station3 .active State.reset)) ∧
    StreamsFollowStations (stream1 .up .held [] (station3 .drowsy State.reset)) := by
  refine ⟨?_, ?_, rfl, ?_⟩
  · unfold PlansAgree Plan.holds; decide +kernel
  · unfold PlansAgree Plan.holds; decide +kernel
  · unfold StreamsFollowStations; decide +kernel

theorem witness_FrameNumberRisesByOne : ∃ t, exec .frameStart (trunkIs .running State.reset) = .next t := ⟨_, rfl⟩

end Sys2Proof.Tests
end

section

namespace Sys2Proof.Machine

/-! ## The roles of a plan without streams (R1, R7, R21) -/

/-- The role of a slot in a table without streams: that of R1 within the frame, FREE beyond it. -/
theorem emptySlots_role (S C k : Nat) :
    ((emptySlots S C)[k]?).getD .free = if k < 32 then pairRole S C k else .free := by
  by_cases h : k < 32 <;> simp [emptySlots, h]

@[simp] theorem pairRole_beacon (S C : Nat) : pairRole S C 0 = .beacon := rfl

theorem pairRole_serviceDown {S C k : Nat} (h1 : 1 ≤ k) (h2 : k ≤ S) :
    pairRole S C (2 * k - 1) = .serviceDown k := by
  rw [pairRole, if_neg (by omega), if_pos (by omega), if_pos (by omega)]
  congr 1; omega

theorem pairRole_serviceUp {S C k : Nat} (h1 : 1 ≤ k) (h2 : k ≤ S) : pairRole S C (2 * k) = .serviceUp k := by
  rw [pairRole, if_neg (by omega), if_pos (by omega), if_neg (by omega)]
  congr 1; omega

theorem pairRole_commandDown {S C j : Nat} (h1 : 1 ≤ j) (h2 : j ≤ C) :
    pairRole S C (2 * S + 2 * j - 1) = .commandDown j := by
  rw [pairRole, if_neg (by omega), if_neg (by omega), if_pos (by omega), if_pos (by omega)]
  congr 1; omega

theorem pairRole_commandUp {S C j : Nat} (h1 : 1 ≤ j) (h2 : j ≤ C) :
    pairRole S C (2 * S + 2 * j) = .commandUp j := by
  rw [pairRole, if_neg (by omega), if_neg (by omega), if_pos (by omega), if_neg (by omega)]
  congr 1; omega

theorem pairRole_free {S C k : Nat} (h : 2 * S + 2 * C < k) : pairRole S C k = .free := by
  rw [pairRole, if_neg (by omega), if_neg (by omega), if_neg (by omega)]

/-- A plan carries the roles of R1 for S service and C command pairs, and no stream. -/
def Plan.bare (S C : Nat) (p : Plan) : Prop :=
  p.streams = [] ∧ p.role 0 = .beacon ∧
  (∀ k, 1 ≤ k → k ≤ S → p.role (2 * k - 1) = .serviceDown k ∧ p.role (2 * k) = .serviceUp k) ∧
  (∀ j, 1 ≤ j → j ≤ C → p.role (2 * S + 2 * j - 1) = .commandDown j ∧ p.role (2 * S + 2 * j) = .commandUp j) ∧
  ∀ k, 2 * S + 2 * C < k → p.role k = .free

/-- A plan whose table is empty has the roles of R1; at most four pairs of each kind leave room for all of them. -/
theorem Plan.bare_of_emptySlots {S C : Nat} {p : Plan} (hS : S ≤ 4) (hC : C ≤ 4) (hp : p.slots = emptySlots S C)
    (hs : p.streams = []) : p.bare S C := by
  have role : ∀ k, p.role k = if k < 32 then pairRole S C k else .free := fun k => by
    rw [Plan.role, hp, emptySlots_role]
  refine ⟨hs, ?_, fun k h1 h2 => ⟨?_, ?_⟩, fun j h1 h2 => ⟨?_, ?_⟩, fun k h => ?_⟩
  · rw [role]; rfl
  · rw [role, if_pos (by omega), pairRole_serviceDown h1 h2]
  · rw [role, if_pos (by omega), pairRole_serviceUp h1 h2]
  · rw [role, if_pos (by omega), pairRole_commandDown h1 h2]
  · rw [role, if_pos (by omega), pairRole_commandUp h1 h2]
  · rw [role, pairRole_free h, ite_self]

/-! ## The power-on tables read as their default everywhere -/

theorem vector_replicate_getD {α : Type} (n i : Nat) (x : α) : ((Vector.replicate n x)[i]?).getD x = x := by
  by_cases h : i < n <;> simp [h]

/-- A table numbered from 1 that holds its default in every place. -/
theorem numbered_replicate {α : Type} (n i : Nat) (x : α) :
    (if 1 ≤ i then ((Vector.replicate n x)[i - 1]?).getD x else x) = x := by
  rw [vector_replicate_getD, ite_self]

theorem StreamUnit.reset_get (id : Nat) : StreamUnit.reset.get id = none := numbered_replicate ..
theorem StationManager.reset_get (a : Nat) : StationManager.reset.get a = {} := numbered_replicate ..
theorem TrimScheduler.reset_get (a : Nat) : TrimScheduler.reset.get a = {} := numbered_replicate ..
theorem TrimScheduler.reset_held (k : Nat) : TrimScheduler.reset.held k = none := numbered_replicate ..
theorem CallUnit.reset_get (j : Nat) : CallUnit.reset.get j = none := numbered_replicate ..
theorem FaultRecorder.reset_get (a : Nat) : FaultRecorder.reset.get a = {} := vector_replicate_getD ..

theorem NoticeQueue.reset_marked (reason : StartReason) (baud : BitVec 2) (id : Nat) :
    (NoticeQueue.reset reason baud).marked id = false := numbered_replicate ..

theorem Plan.reset_bare : Plan.reset.bare 1 2 := Plan.bare_of_emptySlots (by decide) (by decide) rfl rfl

/-- Settles O3: each block of the power-on state read through its own reset lemma. -/
theorem powerOnTakesPowerOnState : Obligations.PowerOnTakesPowerOnState := by
  refine ⟨fun bds1 bds0 s => ⟨_, rfl, rfl, ?_, rfl, rfl, StreamUnit.reset_get, StationManager.reset_get, rfl,
    TrimScheduler.reset_get, TrimScheduler.reset_held, rfl, CallUnit.reset_get, FaultRecorder.reset_get, rfl, rfl, rfl,
    rfl, NoticeQueue.reset_marked .power _, rfl, rfl⟩, rfl⟩
  have roles : ∀ p ∈ [Plan.reset, Plan.reset], p = Plan.reset := by simp
  intro p hp
  obtain rfl := roles p hp
  obtain ⟨streams, beacon, service, command, free⟩ := Plan.reset_bare
  exact ⟨rfl, streams, beacon, (service 1 le_rfl le_rfl).1, (service 1 le_rfl le_rfl).2,
    (command 1 le_rfl (by decide)).1, (command 1 le_rfl (by decide)).2, (command 2 (by decide) le_rfl).1,
    (command 2 (by decide) le_rfl).2, fun k hk => free k (by omega)⟩

/-! ## Requests of the trunk (R6 to R8) -/

/-- A refusal of the oldest frame is the state of the statements that names it. -/
theorem State.popIntake_refuse (s : State) (k : ReqKind) (f : ReqFrame) (st : Status) :
    s.popIntake.refuse k f st = s.refused k f st := rfl

theorem setupInRange_iff (S C w m mode : Nat) :
    setupInRange S C w m mode = true ↔
      1 ≤ S ∧ S ≤ 4 ∧ 1 ≤ C ∧ C ≤ 4 ∧ 1 ≤ w ∧ w ≤ 16 ∧ 1 ≤ m ∧ m ≤ 15 ∧ mode ≤ 1 := by
  simp only [setupInRange, Bool.and_eq_true, decide_eq_true_eq, and_assoc]

/-- A plan without streams that is rewritten carries the roles of R1 for the new pair counts (R7). -/
theorem Plan.rewrite_bare {S C : Nat} {p : Plan} (hS : S ≤ 4) (hC : C ≤ 4) (hs : p.streams = []) :
    (p.rewrite S C).bare S C :=
  Plan.bare_of_emptySlots hS hC rfl hs

/-- Settles O12: the three tests of R6 decide, and an accepted setup rewrites both plans (R7). -/
theorem trunkSetupReplacesValues : Obligations.TrunkSetupReplacesValues := by
  rintro f s S C w m mode taken rfl rfl rfl rfl rfl ok hok
  have run : exec .trunkSetup s = .next (serveTrunkSetup f s.popIntake) :=
    takesRequest_served serveTrunkSetup taken
  rw [← setupInRange_iff] at hok
  subst hok
  refine ⟨fun bad => ?_, fun good trunk => ?_, fun good trunk streams => ?_, fun good trunk active staged => ?_⟩
  · simp [run, serveTrunkSetup, bad, State.popIntake_refuse]
  · simp [run, serveTrunkSetup, good, trunk, State.popIntake_refuse]
  · simp only [ne_eq] at streams
    simp [run, serveTrunkSetup, good, trunk, streams, State.popIntake_refuse]
  · have accepted : exec .trunkSetup s = .next ((applySetup f.setup s.popIntake).accept .trunkSetup f (.setup f.setup)) := by
      simp [run, serveTrunkSetup, good, trunk, active, staged]
    obtain ⟨-, hS, -, hC, -⟩ := (setupInRange_iff ..).mp good
    refine ⟨_, f.setup, accepted, rfl, rfl, rfl, rfl, rfl, fun p hp => ?_⟩
    have both : p = s.plans.active.rewrite (f.param 0) (f.param 1) ∨ p = s.plans.staged.rewrite (f.param 0) (f.param 1) :=
      List.mem_pair.mp hp
    obtain rfl | rfl := both
    · exact Plan.rewrite_bare hS hC active
    · exact Plan.rewrite_bare hS hC staged

/-- Settles O13: R8 at the take. -/
theorem trunkStartBeginsStarting : Obligations.TrunkStartBeginsStarting := by
  intro f s taken
  have run : exec .trunkStart s = .next (serveTrunkStart f s.popIntake) :=
    takesRequest_served serveTrunkStart taken
  refine ⟨fun stopped below => ?_, fun other => ?_⟩
  · have below' : s.engine.frameNumber < Config.lastFrame := below
    simp only [run, serveTrunkStart, State.popIntake_engine, stopped, below', and_self, if_true]
    rfl
  · have closed : ¬ (s.engine.trunk = .stopped ∧ s.engine.frameNumber < Config.lastFrame) := by
      rintro ⟨stopped, below⟩
      exact other.elim (fun h => h stopped) (fun h => absurd below (Nat.not_lt.mpr h))
    simp only [run, serveTrunkStart, State.popIntake_engine, closed, if_false, State.popIntake_refuse]

end Sys2Proof.Machine
end

section

namespace Sys2Proof.Machine

/-! ## Trunk words (10.7, R16, R180) -/

/-- One halving step of the parity: the upper half of the bits joins the lower one. -/
def foldBits (k : Nat) (w : Word) : Word := w ^^^ (w >>> k)

theorem foldBits_xor (k : Nat) (v w : Word) : foldBits k (v ^^^ w) = foldBits k v ^^^ foldBits k w := by
  simp only [foldBits, BitVec.ushiftRight_xor_distrib]
  ac_rfl

theorem oddParity_eq_foldBits (w : Word) :
    oddParity w = (foldBits 1 (foldBits 2 (foldBits 4 (foldBits 8 (foldBits 16 w))))).getLsbD 0 := rfl

/-- Parity is linear. -/
theorem oddParity_xor (v w : Word) : oddParity (v ^^^ w) = (oddParity v ^^ oddParity w) := by
  simp only [oddParity_eq_foldBits, foldBits_xor, BitVec.getLsbD_xor]

/-- The fields of a trunk word with its check bit still clear (10.7). -/
def wordFields (kind : BitVec 3) (address : Nat) (payload : Sample) : Word :=
  kind ++ BitVec.ofNat 4 address ++ payload ++ 0#1

theorem wordFields_getLsbD (kind : BitVec 3) (address : Nat) (payload : Sample) (i : Nat) :
    (wordFields kind address payload).getLsbD i =
      if i < 1 then false else if i < 25 then payload.getLsbD (i - 1)
      else if i < 29 then (BitVec.ofNat 4 address).getLsbD (i - 25) else kind.getLsbD (i - 29) := by
  simp only [wordFields, BitVec.getLsbD_append, BitVec.getLsbD_zero]
  by_cases h1 : i < 1
  · simp [h1]
  · by_cases h2 : i < 25
    · simp [h1, h2, show i - 1 < 24 by omega]
    · by_cases h3 : i < 29
      · simp [h1, h2, h3, show ¬ i - 1 < 24 by omega, show i - 1 - 24 = i - 25 by omega, show i - 25 < 4 by omega]
      · simp [h1, h2, h3, show ¬ i - 1 < 24 by omega, show ¬ i - 1 - 24 < 4 by omega,
          show i - 1 - 24 - 4 = i - 29 by omega]

/-- The check bit is the parity of the fields (R180). -/
theorem makeWord_eq (kind : BitVec 3) (address : Nat) (payload : Sample) :
    makeWord kind address payload =
      if oddParity (wordFields kind address payload) then wordFields kind address payload ^^^ 1#32
      else wordFields kind address payload := by
  have flip : wordFields kind address payload ||| 1#32 = wordFields kind address payload ^^^ 1#32 := by
    apply BitVec.eq_of_getLsbD_eq
    intro i _
    rw [BitVec.getLsbD_or, BitVec.getLsbD_xor, wordFields_getLsbD, BitVec.getLsbD_one]
    by_cases h : i = 0 <;> simp [h]
  show (if oddParity (wordFields kind address payload) then wordFields kind address payload ||| 1#32
    else wordFields kind address payload) = _
  rw [flip]

/-- A word that is formed has even parity (R180). -/
theorem oddParity_makeWord (kind : BitVec 3) (address : Nat) (payload : Sample) :
    oddParity (makeWord kind address payload) = false := by
  rw [makeWord_eq]
  split
  · next odd => rw [oddParity_xor, odd]; rfl
  · next even => simpa using even

/-- A field of a word that is formed does not reach the check bit. -/
theorem makeWord_field (kind : BitVec 3) (address : Nat) (payload : Sample) {start n i : Nat} (h : 1 ≤ start)
    (hi : i < n) : ((makeWord kind address payload).extractLsb' start n).getLsbD i =
      (wordFields kind address payload).getLsbD (start + i) := by
  rw [BitVec.getLsbD_extractLsb', makeWord_eq, decide_eq_true hi, Bool.true_and]
  split
  · rw [BitVec.getLsbD_xor, BitVec.getLsbD_one, decide_eq_false (show ¬ start + i = 0 by omega), Bool.and_false,
      Bool.xor_false]
  · rfl

@[simp] theorem wordKind_makeWord (kind : BitVec 3) (address : Nat) (payload : Sample) :
    wordKind (makeWord kind address payload) = kind := by
  apply BitVec.eq_of_getLsbD_eq
  intro i hi
  rw [wordKind, makeWord_field _ _ _ (by decide) hi, wordFields_getLsbD, if_neg (by omega), if_neg (by omega),
    if_neg (by omega), Nat.add_sub_cancel_left]

@[simp] theorem wordPayload_makeWord (kind : BitVec 3) (address : Nat) (payload : Sample) :
    wordPayload (makeWord kind address payload) = payload := by
  apply BitVec.eq_of_getLsbD_eq
  intro i hi
  rw [wordPayload, makeWord_field _ _ _ (by decide) hi, wordFields_getLsbD, if_neg (by omega), if_pos (by omega),
    Nat.add_sub_cancel_left]

theorem wordAddress_makeWord (kind : BitVec 3) {address : Nat} (payload : Sample) (h : address ≤ 15) :
    wordAddress (makeWord kind address payload) = address := by
  have field : (makeWord kind address payload).extractLsb' 25 4 = BitVec.ofNat 4 address := by
    apply BitVec.eq_of_getLsbD_eq
    intro i hi
    rw [makeWord_field _ _ _ (by decide) hi, wordFields_getLsbD, if_neg (by omega), if_neg (by omega),
      if_pos (by omega), Nat.add_sub_cancel_left]
  rw [wordAddress, field, BitVec.toNat_ofNat]
  omega

/-- The three fields of a beacon's payload (R13). -/
theorem beaconPayload_fields (n wake : Nat) (g : BitVec 16) :
    (BitVec.ofNat 16 n ++ BitVec.ofNat 4 wake ++ g.setWidth 4).extractLsb' 8 16 = BitVec.ofNat 16 n ∧
    (BitVec.ofNat 16 n ++ BitVec.ofNat 4 wake ++ g.setWidth 4).extractLsb' 4 4 = BitVec.ofNat 4 wake ∧
    (BitVec.ofNat 16 n ++ BitVec.ofNat 4 wake ++ g.setWidth 4).extractLsb' 0 4 = g.extractLsb' 0 4 := by
  refine ⟨?_, ?_, ?_⟩
  all_goals
    apply BitVec.eq_of_getLsbD_eq
    intro i hi
    rw [BitVec.getLsbD_extractLsb', BitVec.getLsbD_append, BitVec.getLsbD_append]
  · simp [hi, show ¬ 8 + i < 4 by omega, show ¬ 8 + i - 4 < 4 by omega, show 8 + i - 4 - 4 = i by omega]
  · simp [hi]
  · simp [hi]

end Sys2Proof.Machine
end

section

namespace Sys2Proof.Machine

/-! ## Slot events (1.8 to 1.11) -/

/-- A commanded slot that has not passed: the slots before it pass, then its event comes (log entry 8). -/
theorem slotRow_comes {s : State} {slot : Nat} {isRow : State → Bool} (line : Option Word) (h : s.reachesSlot slot)
    (row : isRow (passSlots slot s) = true) :
    slotRow slot isRow line s = .next (slotEvent slot line (passSlots slot s)) := by
  obtain ⟨low, fr, hf, hn⟩ := h
  simp [slotRow, low, hf, hn, row]

theorem forPair_of {k : Nat} (h1 : 1 ≤ k) (h4 : k ≤ 4) (o : Out) : forPair k o = o := by
  simp [forPair, goodPair, h1, h4]

theorem forSlot_of {k : Nat} (h1 : 1 ≤ k) (h31 : k ≤ 31) (o : Out) : forSlot k o = o := by
  simp [forSlot, goodSlot, h1, h31]

/-! ### Fault reports (R132, R133) -/

theorem State.reportFault_reported (s : State) {a : Nat} (h : a ≤ 15) (kind : FaultKind) (slot : Nat)
    (raw : Option Word) : faultReported a kind slot raw s (s.reportFault a kind slot raw) := by
  refine ⟨?_, ?_, fun b hb => ?_⟩
  · rw [State.reportFault_faultCell, if_pos ⟨rfl, h⟩]
  · rw [State.reportFault_faultCell, if_pos ⟨rfl, h⟩]
  · rw [State.reportFault_faultCell, if_neg (fun e => hb e.1.symm)]

/-- The first fault of an address offers its notice, a later one offers none (R133). -/
theorem State.reportFault_notices (s : State) (a : Nat) (kind : FaultKind) (slot : Nat) (raw : Option Word) :
    (s.reportFault a kind slot raw).notices = (s.faultCell a).record.elim
      (s.notices.offer (.fault a { kind := kind, frame := s.engine.frameNumber, slot := slot, raw := raw }))
      (fun _ => s.notices) := by
  simp only [State.reportFault]
  cases (s.faultCell a).record <;> rfl

/-- Of the state before it a report depends on the fault records and the frame number. -/
theorem faultReported.congr {a : Nat} {kind : FaultKind} {slot : Nat} {raw : Option Word} {s s' t : State}
    (h : faultReported a kind slot raw s t) (hf : s'.faults = s.faults)
    (hn : s'.engine.frameNumber = s.engine.frameNumber) : faultReported a kind slot raw s' t := by
  simpa only [faultReported, State.faultCell, hf, hn] using h

/-- What comes after a report and leaves the fault records alone leaves the report. -/
theorem faultReported.after {a : Nat} {kind : FaultKind} {slot : Nat} {raw : Option Word} {s t t' : State}
    (h : faultReported a kind slot raw s t) (ht : t'.faults = t.faults) : faultReported a kind slot raw s t' := by
  simpa only [faultReported, State.faultCell, ht] using h

/-! ### Down slots (R14) -/

@[simp] theorem drive_engine (slot : Nat) (w : Word) (line : Option Word) (s : State) :
    (drive slot w line s).engine = { s.engine with line := some w } := by
  cases line with
  | none => rfl
  | some r => by_cases h : r = w <;> simp [drive, h]

/-- A word that reads back as it was sent reports nothing (R14). -/
theorem drive_undisturbed {line : Option Word} {w : Word} (slot : Nat) (s : State)
    (h : line = none ∨ line = some w) :
    (drive slot w line s).faults = s.faults ∧ (drive slot w line s).notices = s.notices := by
  obtain rfl | rfl := h <;> simp [drive]

/-- Another word read back is one FOREIGN fault at address 0 (R14). -/
theorem drive_disturbed {line : Option Word} {w r : Word} (slot : Nat) (s : State) (h : line = some r) (hr : r ≠ w) :
    faultReported 0 .foreign slot (some r) s (drive slot w line s) := by
  subst h
  simp only [drive, hr, if_false]
  exact (State.reportFault_reported { s with engine := { s.engine with line := some w } } (Nat.zero_le 15) _ _ _).congr
    rfl rfl

theorem slotEvent_beacon {s : State} {slot : Nat} (line : Option Word) (h : s.roleNow slot = .beacon) :
    slotEvent slot line s = drive slot (beginSlot slot s).beacon line (beginSlot slot s) := by
  rw [slotEvent, h]; rfl

theorem slotEvent_serviceDown {s : State} {slot k : Nat} (line : Option Word)
    (h : s.roleNow slot = .serviceDown k) :
    slotEvent slot line s = drive slot (s.serviceWord k) line (beginSlot slot s) := by
  rw [slotEvent, h]; rfl

theorem slotEvent_commandDown {s : State} {slot j : Nat} (line : Option Word)
    (h : s.roleNow slot = .commandDown j) :
    slotEvent slot line s = drive slot (s.commandWord j) line (clearSendDue j (beginSlot slot s)) := by
  rw [slotEvent, h]; rfl

theorem slotEvent_serviceUp {s : State} {slot k a : Nat} (line : Option Word) (h : s.roleNow slot = .serviceUp k)
    (hk : s.trims.held k = some a) :
    slotEvent slot line s = trimAnswer k slot a (classify a .reply line) (beginSlot slot s) := by
  have hk' : (beginSlot slot s).trims.held k = some a := hk
  simp only [slotEvent, h, serveSlot, hk']

/-- A slot that expects no word takes a word as FOREIGN and silence as nothing (R19). -/
theorem slotEvent_of_expectsNone {s : State} {slot : Nat} (line : Option Word) (h : s.expectsNone slot = true) :
    slotEvent slot line s = unexpected slot line (beginSlot slot s) := by
  have trims : (beginSlot slot s).trims = s.trims := rfl
  have exchange : (beginSlot slot s).exchange = s.exchange := rfl
  have stream : (beginSlot slot s).stream = s.stream := rfl
  unfold State.expectsNone at h
  unfold slotEvent serveSlot
  cases hr : s.roleNow slot with
  | free => rfl
  | beacon | serviceDown k | commandDown j => simp [hr] at h
  | serviceUp k =>
    have none : s.trims.held k = none := by simpa [hr] using h
    simp only [trims, none]
  | commandUp j =>
    have none : s.exchange j = none := by simpa [hr] using h
    simp only [exchange, none]
  | stream id =>
    simp only [stream]
    cases hst : s.stream id with
    | none => rfl
    | some st =>
      have up : st.direction = .up ∧ st.state ≠ .live := by simpa [hr, hst] using h
      simp only [up.1, up.2, if_false]

/-! ### The statements of the slots -/

/-- Settles O41: the beacon is a word of R13's fields, sent as R14 says. -/
theorem beaconCarriesFrameFields : Obligations.BeaconCarriesFrameFields := by
  intro s fr line low hf h0 hw role
  have here : passSlots 0 s = s := passSlots_here hf (Nat.zero_le _)
  have run : exec (.beaconSlot line) s = .next (drive 0 s.beacon line (beginSlot 0 s)) := by
    have word : (beginSlot 0 s).beacon = s.beacon := by simp [State.beacon, beginSlot, hf]
    have row := slotRow_comes (isRow := fun _ => true) line ⟨low, fr, hf, h0.le⟩ rfl
    rw [here, slotEvent_beacon line role, word] at row
    exact row
  obtain ⟨number, wake, generation⟩ := beaconPayload_fields s.engine.frameNumber fr.wakeAddress s.plans.active.generation
  have fields : s.beacon = makeWord kindBeacon 0
      (BitVec.ofNat 16 s.engine.frameNumber ++ BitVec.ofNat 4 fr.wakeAddress ++ s.plans.active.generation.setWidth 4) := by
    simp [State.beacon, beaconWord, hf]
  refine ⟨_, s.beacon, run, by simp [beginSlot, hf], ?_, ?_, ?_, ?_, ?_, ?_, drive_undisturbed 0 (beginSlot 0 s),
    fun r hr hne => (drive_disturbed 0 (beginSlot 0 s) hr hne).congr rfl rfl, by simp, by simp, by simp, by simp,
    by simp, by simp⟩
  · rw [fields, oddParity_makeWord]
  · rw [fields, wordKind_makeWord]
  · rw [fields, wordAddress_makeWord _ _ (Nat.zero_le _)]
  · rw [fields, wordPayload_makeWord, number]
  · rw [fields, wordPayload_makeWord, wake, BitVec.toNat_ofNat]
    omega
  · rw [fields, wordPayload_makeWord, generation]

/-- Settles O49: every kind of slot that expects no word serves a word alike. -/
theorem unexpectedWordIsForeign : Obligations.UnexpectedWordIsForeign := by
  rintro s u slot w h1 h31 reach rfl kinds
  have none : (passSlots slot s).expectsNone slot = true := by
    unfold State.expectsNone
    obtain hr | ⟨k, hr, hk⟩ | ⟨j, hr, hj⟩ | ⟨id, st, hr, hst, up, idle⟩ := kinds
    · rw [hr]
    · rw [hr]; simp [hk]
    · rw [hr]; simp [hj]
    · rw [hr]; simp [hst, up, idle]
  have run : exec (.unexpectedWordSlot slot w) s =
      .next ((beginSlot slot (passSlots slot s)).reportFault 0 .foreign slot (some w)) := by
    have row := slotRow_comes (isRow := fun t => t.expectsNone slot) (some w) reach none
    rw [slotEvent_of_expectsNone _ none] at row
    exact (forSlot_of h1 h31 _).trans row
  refine ⟨_, run, (State.reportFault_reported (beginSlot slot _) (Nat.zero_le 15) _ _ _).congr rfl rfl,
    State.reportFault_notices .., ?_, by simp, by simp, by simp, by simp, by simp, by simp⟩
  rw [(State.reportFault_frame ..).1]
  rfl

/-! ### The down slots of the pairs (R98, R116) -/

theorem State.serviceWord_held {s : State} {k a : Nat} (h : s.trims.held k = some a) :
    s.serviceWord k = orderWord a .trim 0 0 := by rw [State.serviceWord, h]

theorem State.serviceWord_idle {s : State} {k : Nat} (h : s.trims.held k = none) : s.serviceWord k = fillWord 0 := by
  rw [State.serviceWord, h]

theorem State.commandWord_due {s : State} {j : Nat} {x : Exchange} (h : s.exchange j = some x)
    (due : x.sendDue = true) :
    s.commandWord j = orderWord x.entry.station x.entry.order x.entry.attr x.entry.value := by
  simp [State.commandWord, h, due]

theorem State.commandWord_idle {s : State} {j : Nat} (h : ∀ x, s.exchange j = some x → x.sendDue = false) :
    s.commandWord j = fillWord 0 := by
  cases hx : s.exchange j with
  | none => simp [State.commandWord, hx]
  | some x => simp [State.commandWord, hx, h x hx]

/-- A command pair that holds an exchange is one of the four. -/
theorem State.exchange_mem {s : State} {j : Nat} {x : Exchange} (h : s.exchange j = some x) : j ∈ pairNumbers := by
  rw [mem_pairNumbers]
  unfold State.exchange CallUnit.get at h
  by_cases h1 : 1 ≤ j
  · by_cases h2 : j ≤ 4
    · exact ⟨h1, h2⟩
    · rw [if_pos h1, Vector.getElem?_eq_none (by omega)] at h
      simp at h
  · rw [if_neg h1] at h
    simp at h

/-- Send due is clear after the down slot, nothing else of any exchange changes (R116). -/
theorem clearSendDue_exchange (s : State) (j i : Nat) :
    (clearSendDue j s).exchange i =
      if i = j then (s.exchange j).map (fun x => { x with sendDue := false }) else s.exchange i := by
  cases hx : s.exchange j with
  | none => by_cases h : i = j <;> simp [clearSendDue, hx, h]
  | some x =>
    have hj := mem_pairNumbers.mp (State.exchange_mem hx)
    simp [clearSendDue, hx, hj, eq_comm]

@[simp] theorem clearSendDue_queue (s : State) (j : Nat) : (clearSendDue j s).calls.queue = s.calls.queue := by
  unfold clearSendDue
  split <;> simp

/-- Settles O42: each down slot is a `drive` of the word that R98 or R116 gives. -/
theorem pairDownSlotsSendOrders : Obligations.PairDownSlotsSendOrders := by
  rintro s u n slot line h1 h4 reach rfl
  refine ⟨?_, ?_⟩
  · rintro rfl role
    have run : exec (.serviceDownSlot n line) s = .next (drive (2 * n - 1) ((passSlots (2 * n - 1) s).serviceWord n) line
        (beginSlot (2 * n - 1) (passSlots (2 * n - 1) s))) := by
      have row := slotRow_comes (isRow := fun t => t.roleNow (2 * n - 1) == .serviceDown n) line reach (by simp [role])
      rw [slotEvent_serviceDown line role] at row
      exact (forPair_of h1 h4 _).trans row
    exact ⟨_, _, run, by simp, fun a => State.serviceWord_held, State.serviceWord_idle, drive_undisturbed _ _,
      fun r hr hne => (drive_disturbed _ (beginSlot _ _) hr hne).congr rfl rfl, by simp, by simp, by simp, by simp, by simp,
      by simp⟩
  · rintro rfl role
    generalize hs : 2 * s.engine.setup.service + 2 * n - 1 = slot at reach role
    have run : exec (.commandDownSlot n line) s = .next (drive slot ((passSlots slot s).commandWord n) line
        (clearSendDue n (beginSlot slot (passSlots slot s)))) := by
      have row := slotRow_comes (isRow := fun t => t.roleNow slot == .commandDown n) line reach (by simp [role])
      rw [slotEvent_commandDown line role] at row
      subst hs
      exact (forPair_of h1 h4 _).trans row
    have exchange : ∀ j w, (drive slot w line (clearSendDue n (beginSlot slot (passSlots slot s)))).exchange j =
        (clearSendDue n (beginSlot slot (passSlots slot s))).exchange j := fun j w => by
      simp only [State.exchange, drive_frame]
    refine ⟨_, _, run, by simp, fun x => State.commandWord_due, State.commandWord_idle, ?_, fun j hj => ?_, by simp,
      fun h => ?_, fun r hr hne => (drive_disturbed _ _ hr hne).congr (by simp) (by simp [beginSlot]), by simp,
      by simp, by simp, by simp, by simp⟩
    · rw [exchange, clearSendDue_exchange, if_pos rfl]; rfl
    · rw [exchange, clearSendDue_exchange, if_neg hj]; rfl
    · simpa using drive_undisturbed slot (clearSendDue n (beginSlot slot (passSlots slot s))) h

end Sys2Proof.Machine
end

section

namespace Sys2Proof.Machine

/-! ## What leaves the Frame Engine alone -/

/-- Between s and t the RSTN pin stays and the wake queue gains stations of the part alone. -/
structure WakesKept (s t : State) : Prop where
  low : t.port.rstnLow = s.port.rstnLow
  wakes : ∀ a ∈ t.stations.wakeQueue, a ∈ s.stations.wakeQueue ∨ goodStation a = true

/-- Beside these the engine stays. -/
structure EngineKept (s t : State) : Prop extends WakesKept s t where
  engine : t.engine = s.engine

theorem WakesKept.trans {s t u : State} (h : WakesKept s t) (k : WakesKept t u) : WakesKept s u :=
  ⟨k.low.trans h.low, fun a ha => (k.wakes a ha).elim (h.wakes a) .inr⟩

theorem WakesKept.of_eq {s t : State} (low : t.port.rstnLow = s.port.rstnLow)
    (wakes : t.stations.wakeQueue = s.stations.wakeQueue) : WakesKept s t :=
  ⟨low, fun _ h => .inl (wakes ▸ h)⟩

theorem EngineKept.of_eq {s t : State} (engine : t.engine = s.engine) (low : t.port.rstnLow = s.port.rstnLow)
    (wakes : t.stations.wakeQueue = s.stations.wakeQueue) : EngineKept s t :=
  ⟨.of_eq low wakes, engine⟩

theorem EngineKept.refl (s : State) : EngineKept s s := .of_eq rfl rfl rfl

theorem EngineKept.trans {s t u : State} (h : EngineKept s t) (k : EngineKept t u) : EngineKept s u :=
  ⟨h.toWakesKept.trans k.toWakesKept, k.engine.trans h.engine⟩

theorem EngineKept.foldl {α : Type} {f : State → α → State} (h : ∀ s x, EngineKept s (f s x)) (l : List α) (s : State) :
    EngineKept s (l.foldl f s) :=
  foldl_keeps (P := EngineKept s) (fun b x hb => hb.trans (h b x)) l s (.refl s)

/-! ### The RSTN pin and the wake queue under the shared operations -/

section
variable (s : State)

@[simp] theorem State.moveStation_wakeQueue (a : Nat) (new : StationState) (reason : Reason) :
    (s.moveStation a new reason).stations.wakeQueue = s.stations.wakeQueue := by
  simp [State.moveStation]

@[simp] theorem State.answerKind_rstnLow (k : ReqKind) (t : Option Nat) (st : Status) (b : ReplyBody) :
    (s.answerKind k t st b).port.rstnLow = s.port.rstnLow := by
  unfold State.answerKind
  split <;> simp

@[simp] theorem State.endOperation_wakes (a : Nat) (st : Status) (b : ReplyBody) :
    (s.endOperation a st b).port.rstnLow = s.port.rstnLow ∧
    (s.endOperation a st b).stations.wakeQueue = s.stations.wakeQueue := by
  unfold State.endOperation
  split <;> simp

@[simp] theorem State.endHostTrim_wakes (a : Nat) (st : Status) (b : ReplyBody) :
    (s.endHostTrim a st b).port.rstnLow = s.port.rstnLow ∧
    (s.endHostTrim a st b).stations.wakeQueue = s.stations.wakeQueue := by
  unfold State.endHostTrim
  split <;> simp

@[simp] theorem State.failCall_rstnLow (e : Entry) (st : Status) : (s.failCall e st).port.rstnLow = s.port.rstnLow := by
  unfold State.failCall
  split <;> simp

@[simp] theorem State.freePair_wakeQueue (j a : Nat) :
    (s.freePair j a).stations.wakeQueue = s.stations.wakeQueue := by
  simp [State.freePair]

@[simp] theorem State.freeService_wakeQueue (k a : Nat) :
    (s.freeService k a).stations.wakeQueue = s.stations.wakeQueue := by
  simp [State.freeService]

@[simp] theorem State.abandon_wakes (a : Nat) (st : Status) :
    (s.abandon a st).port.rstnLow = s.port.rstnLow ∧ (s.abandon a st).stations.wakeQueue = s.stations.wakeQueue := by
  unfold State.abandon
  repeat' split
  all_goals simp

@[simp] theorem State.removeEntries_rstnLow (a : Nat) (st : Status) :
    (s.removeEntries a st).port.rstnLow = s.port.rstnLow :=
  foldl_same (p := fun t : State => t.port.rstnLow) (fun b x => by simp) _ _

@[simp] theorem State.disposeWork_wakes (a : Nat) (st : Status) :
    (s.disposeWork a st).port.rstnLow = s.port.rstnLow ∧
    (s.disposeWork a st).stations.wakeQueue = s.stations.wakeQueue := by
  simp [State.disposeWork]

/-- A station that enters ABSENT leaves the wake queue (R86). -/
@[simp] theorem State.enterAbsent_wakes (a : Nat) (reason : Reason) (o w : Status) :
    (s.enterAbsent a reason o w).port.rstnLow = s.port.rstnLow ∧
    (s.enterAbsent a reason o w).stations.wakeQueue = s.stations.wakeQueue.filter (· != a) := by
  simp [State.enterAbsent]

@[simp] theorem State.enterFaulted_wakes (a : Nat) (reason : Reason) (o w : Status) :
    (s.enterFaulted a reason o w).port.rstnLow = s.port.rstnLow ∧
    (s.enterFaulted a reason o w).stations.wakeQueue = s.stations.wakeQueue := by
  simp [State.enterFaulted]

theorem State.moveStation_kept (a : Nat) (new : StationState) (reason : Reason) :
    EngineKept s (s.moveStation a new reason) := .of_eq (by simp) (by simp) (by simp)

theorem State.onStation_kept (a : Nat) (f : Station → Station) : EngineKept s (s.onStation a f) :=
  .of_eq (by simp) (by simp) (by simp)

theorem State.answer_kept (tag : Byte) (st : Status) (b : ReplyBody) : EngineKept s (s.answer tag st b) :=
  .of_eq (by simp) (by simp) (by simp)

theorem State.endOperation_kept (a : Nat) (st : Status) (b : ReplyBody) : EngineKept s (s.endOperation a st b) :=
  .of_eq (by simp) (by simp) (by simp)

theorem State.endHostTrim_kept (a : Nat) (st : Status) (b : ReplyBody) : EngineKept s (s.endHostTrim a st b) :=
  .of_eq (by simp) (by simp) (by simp)

theorem State.answerKind_kept (k : ReqKind) (t : Option Nat) (st : Status) (b : ReplyBody) :
    EngineKept s (s.answerKind k t st b) := .of_eq (by simp) (by simp) (by simp)

theorem State.enterFaulted_kept (a : Nat) (reason : Reason) (o w : Status) :
    EngineKept s (s.enterFaulted a reason o w) := .of_eq (by simp) (by simp) (by simp)

theorem State.enterAbsent_kept (a : Nat) (reason : Reason) (o w : Status) :
    EngineKept s (s.enterAbsent a reason o w) :=
  ⟨⟨by simp, fun _ h => by
    rw [(State.enterAbsent_wakes ..).2] at h
    exact .inl (List.mem_of_mem_filter h)⟩, by simp⟩

theorem State.missLimit_kept (a : Nat) (origin : StationState) : EngineKept s (s.missLimit a origin) := by
  unfold State.missLimit
  split
  · split
    · exact s.enterAbsent_kept ..
    · exact s.enterFaulted_kept ..
    · exact s.enterFaulted_kept ..
    all_goals exact .refl s
  · exact .refl s

theorem State.enqueue_kept (e : Entry) : EngineKept s (s.enqueue e) := .of_eq (by simp) (by simp) (by simp)

theorem State.reportFault_kept (a : Nat) (kind : FaultKind) (slot : Nat) (raw : Option Word) :
    EngineKept s (s.reportFault a kind slot raw) := .of_eq (by simp) (by simp) (by simp)

/-! ### The exchanges (chapter 6) -/

theorem callEnds_kept (e : Entry) (r : Ending) : EngineKept s (callEnds e r s) := by
  refine .of_eq (by simp) ?_ (by simp)
  unfold callEnds
  repeat' split
  all_goals simp

theorem enrollFails_kept (a : Nat) (st : Status) : EngineKept s (enrollFails a st s) := by
  unfold enrollFails
  split
  · exact s.enterAbsent_kept ..
  · exact .refl s

theorem enrollNext_kept (e : Entry) (st : EnrollStep) (n : Nat) : EngineKept s (enrollNext e st n s) :=
  .of_eq (by simp) (by simp [enrollNext]) (by simp [enrollNext])

theorem enrollCompletes_kept (a : Nat) : EngineKept s (enrollCompletes a s) :=
  .of_eq (by simp) (by simp [enrollCompletes]) (by simp [enrollCompletes])

theorem enrollDone_kept (e : Entry) (m n : Nat) : EngineKept s (enrollDone e m n s) := by
  have next : ∀ f st k, EngineKept s (enrollNext e st k (s.onStation e.station f)) := fun f st k =>
    (s.onStation_kept ..).trans (enrollNext_kept ..)
  simp only [enrollDone]
  split
  case h_1 => exact .refl s
  case h_2 => exact enrollNext_kept ..
  all_goals split
  case h_6.isTrue => exact (s.onStation_kept ..).trans (enrollCompletes_kept ..)
  case h_3.isTrue | h_4.isTrue | h_5.isTrue => exact next ..
  all_goals exact enrollFails_kept ..

theorem enrollEnds_kept (e : Entry) (r : Ending) : EngineKept s (enrollEnds e r s) := by
  unfold enrollEnds
  split
  · split
    · exact enrollDone_kept ..
    all_goals exact enrollFails_kept ..
  · exact .refl s

theorem drowseEnds_kept (e : Entry) (r : Ending) : EngineKept s (drowseEnds e r s) := by
  simp only [drowseEnds]
  split
  · split
    · exact .of_eq (by simp) (by simp) (by simp)
    · exact .refl s
  all_goals exact s.endOperation_kept ..

theorem probeEnds_kept (e : Entry) (r : Ending) : EngineKept s (probeEnds e r s) := by
  simp only [probeEnds]
  repeat' split
  all_goals exact .of_eq (by simp) (by simp) (by simp)

theorem handOff_kept (e : Entry) (r : Ending) : EngineKept s (handOff e r s) := by
  unfold handOff
  split
  · exact callEnds_kept ..
  · exact enrollEnds_kept ..
  · exact drowseEnds_kept ..
  · exact probeEnds_kept ..

theorem State.reportMiss_kept (a : Nat) : EngineKept s (s.reportMiss a) := s.onStation_kept ..
theorem State.reportValid_kept (a : Nat) : EngineKept s (s.reportValid a) := s.onStation_kept ..

theorem State.freePair_kept (j a : Nat) : EngineKept s (s.freePair j a) := .of_eq (by simp) (by simp) (by simp)

theorem attemptMiss_kept (j slot : Nat) (x : Exchange) : EngineKept s (attemptMiss j slot x s) := by
  refine (s.reportMiss_kept x.entry.station).trans ?_
  have attempt : ∀ t : State, EngineKept t
      (if x.attempt < Config.attempts then
        t.setExchange j (some { x with attempt := x.attempt + 1, framesLeft := t.engine.setup.window, sendDue := true })
      else handOff x.entry .noReply ((t.reportFault x.entry.station .noReply slot none).freePair j x.entry.station)) := by
    intro t
    split
    · exact .of_eq (by simp) (by simp) (by simp)
    · exact ((t.reportFault_kept ..).trans (State.freePair_kept ..)).trans (handOff_kept ..)
  have limit : ∀ (t : State) (reached : Bool) (origin : StationState),
      EngineKept t (if reached then t.missLimit x.entry.station origin else t) := by
    intro t reached origin
    cases reached
    · exact .refl t
    · exact t.missLimit_kept ..
  exact (attempt _).trans (limit ..)

theorem exchangeReply_kept (j : Nat) (x : Exchange) (r : Ending) : EngineKept s (exchangeReply j x r s) :=
  ((s.reportValid_kept ..).trans (State.freePair_kept ..)).trans (handOff_kept ..)

theorem exchangeWait_kept (j : Nat) (x : Exchange) : EngineKept s (exchangeWait j x s) := by
  refine (s.reportValid_kept x.entry.station).trans ?_
  simp only [exchangeWait]
  split
  · exact .of_eq (by simp) (by simp) (by simp)
  · exact (State.freePair_kept ..).trans (handOff_kept ..)

theorem exchangeSilent_kept (j slot : Nat) (x : Exchange) : EngineKept s (exchangeSilent j slot x s) := by
  simp only [exchangeSilent]
  split
  · exact .of_eq (by simp) (by simp) (by simp)
  · exact attemptMiss_kept ..

theorem commandAnswer_kept (j slot : Nat) (x : Exchange) (c : UpClass) :
    EngineKept s (commandAnswer j slot x c s) := by
  unfold commandAnswer
  split
  · exact exchangeSilent_kept ..
  · exact (s.reportFault_kept ..).trans (attemptMiss_kept ..)
  · exact (s.reportFault_kept ..).trans (attemptMiss_kept ..)
  · exact exchangeReply_kept ..
  · exact exchangeReply_kept ..
  · exact exchangeReply_kept ..
  · exact exchangeWait_kept ..
  · exact .refl s

@[simp] theorem grantPair_wakes (j : Nat) :
    (grantPair s j).port.rstnLow = s.port.rstnLow ∧ (grantPair s j).stations.wakeQueue = s.stations.wakeQueue := by
  simp only [grantPair]
  repeat' split
  all_goals simp

theorem grantCommands_kept : EngineKept s (grantCommands s) :=
  .foldl (fun _ _ => .of_eq (by simp) (by simp) (by simp)) _ _

theorem stopPair_kept (j : Nat) : EngineKept s (stopPair s j) := by
  refine .of_eq (by simp) ?_ ?_ <;> unfold stopPair <;> split <;> simp

theorem callUnitStop_kept : EngineKept s (callUnitStop s) := by
  have queue : EngineKept s (s.calls.queue.foldl (fun s e => s.failCall e .aborted) (s.dequeue (fun _ => true))) :=
    EngineKept.trans (.of_eq (by simp) (by simp) (by simp))
      (.foldl (fun _ _ => .of_eq (by simp) (by simp) (by simp)) _ _)
  exact queue.trans (.foldl (fun t j => stopPair_kept t j) _ _)

/-! ### The trims (chapter 5) -/

theorem quietSpanEnds_kept (a : Nat) : EngineKept s (quietSpanEnds a s) :=
  .of_eq (by simp) (by simp [quietSpanEnds]) (by simp [quietSpanEnds])

theorem endQuietSpans_kept : EngineKept s (endQuietSpans s) := by
  refine .foldl (fun t a => ?_) _ _
  split
  · exact quietSpanEnds_kept ..
  · exact .refl t

theorem breach_kept (a : Nat) : EngineKept s (breach a s) := by
  unfold breach
  split
  · exact s.enterFaulted_kept ..
  · exact .refl s

theorem trimFallsDue_kept (a : Nat) : EngineKept s (trimFallsDue a s) := by
  simp only [trimFallsDue]
  split
  · exact .of_eq (by simp) (by simp) (by simp)
  · exact EngineKept.trans (.of_eq (by simp) (by simp) (by simp)) (breach_kept ..)

theorem accrueStation_kept (a : Nat) : EngineKept s (accrueStation s a) := by
  unfold accrueStation
  repeat' split
  · exact trimFallsDue_kept ..
  · exact .of_eq (by simp) (by simp) (by simp)
  · exact .refl s

theorem accrue_kept : EngineKept s (accrue s) := .foldl (fun t a => accrueStation_kept t a) _ _

theorem grantServices_kept : EngineKept s (grantServices s) :=
  .foldl (fun _ _ => .of_eq (by simp) (by simp) (by simp [grantService])) _ _

theorem State.freeService_kept (k a : Nat) : EngineKept s (s.freeService k a) :=
  .of_eq (by simp) (by simp) (by simp)

theorem trimDone_kept (k a : Nat) : EngineKept s (trimDone k a s) := by
  simp only [trimDone]
  split
  all_goals exact .of_eq (by simp) (by simp) (by simp [State.reportValid])

theorem trimRefused_kept (a : Nat) : EngineKept s (trimRefused a s) := by
  simp only [trimRefused]
  repeat' split
  all_goals exact .of_eq (by simp) (by simp) (by simp [State.reportValid])

theorem trimMiss_kept (a : Nat) : EngineKept s (trimMiss a s) := by
  simp only [trimMiss]
  split
  · exact (s.reportMiss_kept a).trans (State.missLimit_kept ..)
  · exact s.reportMiss_kept a

theorem trimAnswer_kept (k slot a : Nat) (c : UpClass) : EngineKept s (trimAnswer k slot a c s) := by
  refine (s.freeService_kept k a).trans ?_
  simp only [trimAnswer]
  split
  · exact trimMiss_kept ..
  · exact (State.reportFault_kept ..).trans (trimMiss_kept ..)
  · exact (State.reportFault_kept ..).trans (trimMiss_kept ..)
  · exact trimDone_kept ..
  · exact trimRefused_kept ..
  · exact trimRefused_kept ..
  all_goals exact .refl _

/-! ### The plan swap and the wake countdowns -/

theorem planSwap_kept : EngineKept s (planSwap s) := by
  refine .of_eq (by simp) ?_ (by simp)
  have closing : ∀ (l : List Nat) (t : State), (l.foldl removeClosing t).port = t.port := fun l t =>
    foldl_same (p := State.port) (fun _ _ => by simp) l t
  have entering : ∀ (l : List Nat) (t : State), (l.foldl enterActive t).port = t.port := fun l t =>
    foldl_same (p := State.port) (fun _ _ => by simp) l t
  unfold planSwap swapPlans
  repeat' split
  all_goals simp [closing, entering]

theorem queueProbe_kept (a : Nat) : EngineKept s (queueProbe a s) := by
  refine .of_eq (by simp) ?_ (by simp)
  simp only [queueProbe]
  split <;> simp

theorem wakeTick_kept (a : Nat) : EngineKept s (wakeTick s a) := by
  unfold wakeTick
  repeat' split
  · exact .refl s
  · exact (s.onStation_kept ..).trans (queueProbe_kept ..)
  · exact s.onStation_kept ..

theorem stopStation_kept (a : Nat) : EngineKept s (stopStation s a) := by
  unfold stopStation
  split
  · exact .refl s
  · exact s.enterAbsent_kept ..

theorem stationManagerStop_kept : EngineKept s (stationManagerStop s) := by
  have stops : EngineKept s (addresses.foldl stopStation s) := .foldl stopStation_kept addresses s
  unfold stationManagerStop
  generalize addresses.foldl stopStation s = t at stops ⊢
  exact stops.trans ⟨⟨rfl, by simp⟩, rfl⟩

end

end Sys2Proof.Machine
end

section

namespace Sys2Proof.Machine

/-! ## The Frame Engine at a slot, a frame start and a frame end -/

/-- The engine of a frame that starts: its number, the beacon's wake address, the line released (R3, R4, R81). -/
def FrameEngine.started (wake : Nat) (e : FrameEngine) : FrameEngine :=
  { e with frameNumber := e.frameNumber + 1,
           frame := some { full := decide (e.trunk = .running), nextSlot := 0, wakeAddress := wake }, line := none }

/-- The engine once a slot has passed: the slot that comes next, the word on the line. -/
def FrameEngine.atSlot (slot : Nat) (line : Option Word) (e : FrameEngine) : FrameEngine :=
  { e with frame := e.frame.map (fun fr => { fr with nextSlot := slot }), line := line }

/-- The engine with no frame in progress. -/
def FrameEngine.between (e : FrameEngine) : FrameEngine := { e with frame := none, line := none }

/-- The engine after a frame end (R3, R9, R11). -/
def FrameEngine.ended (e : FrameEngine) : FrameEngine :=
  match e.trunk with
  | .stopped => e.between
  | .stopping => { e.between with trunk := .stopped, countdown := 0 }
  | .starting =>
    if e.frameNumber = Config.lastFrame then { e.between with trunk := .stopped, countdown := 0 }
    else { e.between with countdown := e.countdown - 1, trunk := if e.countdown - 1 = 0 then .running else .starting }
  | .running =>
    if e.frameNumber = Config.lastFrame then { e.between with trunk := .stopped, countdown := 0 } else e.between

@[simp] theorem FrameEngine.atSlot_atSlot (m n : Nat) (k l : Option Word) (e : FrameEngine) :
    (e.atSlot m k).atSlot n l = e.atSlot n l := by
  cases e with
  | mk trunk frameNumber countdown setup frame line => cases frame <;> rfl

@[simp] theorem FrameEngine.atSlot_between (m : Nat) (k : Option Word) (e : FrameEngine) :
    (e.atSlot m k).between = e.between := rfl

/-! ### Slot events -/

theorem slotEvent_engine (slot : Nat) (line : Option Word) (s : State) :
    ∃ l, (slotEvent slot line s).engine = s.engine.atSlot (slot + 1) l := by
  have begun : (beginSlot slot s).engine = s.engine.atSlot (slot + 1) none := rfl
  unfold slotEvent
  generalize beginSlot slot s = t at begun
  have silent : ∀ u : State, u.engine = t.engine → ∃ l, u.engine = s.engine.atSlot (slot + 1) l :=
    fun u hu => ⟨none, hu.trans begun⟩
  have driven : ∀ (u : State) (w : Word), u.engine = t.engine →
      ∃ l, (drive slot w line u).engine = s.engine.atSlot (slot + 1) l :=
    fun u w hu => ⟨some w, by rw [drive_engine, hu, begun]; rfl⟩
  have down : ∀ (id : Nat) (st : Stream), ∃ l, (streamDown id slot st line t).engine = s.engine.atSlot (slot + 1) l := by
    intro id st
    unfold streamDown
    split
    · rw [(spaceTest_frame ..).1]
      exact driven _ _ (supplyDown_frame ..).1
    · exact driven _ _ rfl
  unfold serveSlot
  split
  case h_2 => exact driven _ _ rfl
  case h_3 => exact driven _ _ rfl
  case h_5 => exact driven _ _ (clearSendDue_frame ..).1
  case h_7 =>
    split
    · exact silent _ (unexpected_frame ..).1
    · split
      · exact down ..
      · split <;> exact silent _ (by simp)
  case h_1 => exact silent _ (by simp)
  all_goals split <;> exact silent _ (by simp)

/-- Slots that pass change of the engine only the slot that comes next and the line. -/
theorem passFrom_engine (n : Nat) : ∀ (slot : Nat) (s : State) (m : Nat) (l : Option Word),
    (passFrom slot n s).engine.atSlot m l = s.engine.atSlot m l := by
  induction n with
  | zero => intro slot s m l; rfl
  | succ n ih =>
    intro slot s m l
    obtain ⟨k, hk⟩ := slotEvent_engine slot none s
    rw [passFrom, ih, hk, FrameEngine.atSlot_atSlot]

theorem passSlots_engine (slot : Nat) (s : State) (m : Nat) (l : Option Word) :
    (passSlots slot s).engine.atSlot m l = s.engine.atSlot m l := by
  unfold passSlots
  split
  · rfl
  · exact passFrom_engine ..

/-- A commanded slot event, with the slots before it. -/
theorem slotEvent_passSlots_engine (slot : Nat) (line : Option Word) (s : State) :
    ∃ l, (slotEvent slot line (passSlots slot s)).engine = s.engine.atSlot (slot + 1) l := by
  obtain ⟨l, hl⟩ := slotEvent_engine slot line (passSlots slot s)
  exact ⟨l, by rw [hl, passSlots_engine]⟩

/-! ### Frame starts -/

/-- Before the grants the engine has the frame's number and no wake address (R3). -/
theorem beforeGrants_engine (s : State) : s.beforeGrants.engine = s.engine.started 0 := by
  have running : (s.engine.trunk == .running) = decide (s.engine.trunk = .running) := by
    cases s.engine.trunk <;> rfl
  simp only [State.beforeGrants, accrue_frame, endQuietSpans_frame, planSwap_frame]
  simp only [assignFrame, FrameEngine.started, running]

theorem frameStart_eq (s : State) :
    frameStart s = if s.engine.trunk = .running then grantFrame s.beforeGrants else s.beforeGrants := rfl

/-- The head of the wake queue is named in the beacon of the frame that starts (R81). -/
theorem nameWake_engine {s : State} {e : FrameEngine} {wake : Nat} (h : s.engine = e.started wake) :
    (nameWake s).engine = e.started (s.stations.wakeQueue.headD wake) := by
  unfold nameWake
  cases hq : s.stations.wakeQueue with
  | nil => exact h
  | cons a rest => simp [h, FrameEngine.started]

end Sys2Proof.Machine
end

section

namespace Sys2Proof.Machine

/-! ## What the end of a station's work leaves of the pairs, the queue and the accounts (R68, R102, R126, R127) -/

variable (s : State)

/-- A pair number that is none of the four reads as free. -/
theorem CallUnit.get_of_not_mem {u : CallUnit} {j : Nat} (h : ¬ (1 ≤ j ∧ j ≤ 4)) : u.get j = none := by
  cases hx : u.get j with
  | none => rfl
  | some x =>
    exact absurd (mem_pairNumbers.mp (State.exchange_mem (s := { State.reset with calls := u }) hx)) h

theorem TrimScheduler.held_mem {t : TrimScheduler} {k a : Nat} (h : t.held k = some a) : 1 ≤ k ∧ k ≤ 4 := by
  unfold TrimScheduler.held at h
  by_cases h1 : 1 ≤ k
  · by_cases h2 : k ≤ 4
    · exact ⟨h1, h2⟩
    · rw [if_pos h1, Vector.getElem?_eq_none (by omega)] at h
      simp at h
  · rw [if_neg h1] at h
    simp at h

/-- Freeing a pair frees it, whatever its number. -/
theorem State.setExchange_none_exchange (j i : Nat) :
    (s.setExchange j none).exchange i = if j = i then none else s.exchange i := by
  rw [State.setExchange_exchange]
  by_cases hji : j = i
  · subst hji
    by_cases hj : 1 ≤ j ∧ j ≤ 4
    · simp [hj]
    · simp [hj, State.exchange, CallUnit.get_of_not_mem hj]
  · simp [hji]

theorem TrimScheduler.hold_none_held (t : TrimScheduler) (k i : Nat) :
    (t.hold k none).held i = if k = i then none else t.held i := by
  rw [TrimScheduler.held_hold]
  by_cases hki : k = i
  · subst hki
    by_cases hk : 1 ≤ k ∧ k ≤ 4
    · simp [hk]
    · cases hx : t.held k with
      | none => simp
      | some a => exact absurd (TrimScheduler.held_mem hx) hk
  · simp [hki]

@[simp] theorem State.freePair_exchange (j a i : Nat) :
    (s.freePair j a).exchange i = if j = i then none else s.exchange i := by
  rw [State.freePair, State.onStation_exchange, State.setExchange_none_exchange]

@[simp] theorem State.freePair_queue (j a : Nat) : (s.freePair j a).calls.queue = s.calls.queue := by
  simp [State.freePair]

@[simp] theorem State.freeService_held (k a i : Nat) :
    (s.freeService k a).trims.held i = if k = i then none else s.trims.held i := by
  simp [State.freeService, TrimScheduler.hold_none_held]

@[simp] theorem State.freeService_account (k a b : Nat) : (s.freeService k a).account b = s.account b := by
  rw [State.freeService, State.onStation_account, State.holdTrim_account]

/-! ### The exchange in flight and the entries, one after another -/

/-- The CALLs among some entries fail, in their order. -/
def State.failCalls (es : List Entry) (st : Status) (s : State) : State := es.foldl (fun t e => t.failCall e st) s

@[simp] theorem State.failCalls_frame (es : List Entry) (st : Status) :
    (s.failCalls es st).engine = s.engine ∧ (s.failCalls es st).plans = s.plans ∧
    (s.failCalls es st).streams = s.streams ∧ (s.failCalls es st).stations = s.stations ∧
    (s.failCalls es st).trims = s.trims ∧ (s.failCalls es st).calls = s.calls ∧
    (s.failCalls es st).faults = s.faults ∧ (s.failCalls es st).notices = s.notices ∧
    (s.failCalls es st).pending = s.pending :=
  ⟨foldl_same (p := State.engine) (fun b x => by simp) _ _, foldl_same (p := State.plans) (fun b x => by simp) _ _,
    foldl_same (p := State.streams) (fun b x => by simp) _ _, foldl_same (p := State.stations) (fun b x => by simp) _ _,
    foldl_same (p := State.trims) (fun b x => by simp) _ _, foldl_same (p := State.calls) (fun b x => by simp) _ _,
    foldl_same (p := State.faults) (fun b x => by simp) _ _, foldl_same (p := State.notices) (fun b x => by simp) _ _,
    foldl_same (p := State.pending) (fun b x => by simp) _ _⟩

@[simp] theorem State.failCalls_records (es : List Entry) (st : Status) :
    (s.failCalls es st).station = s.station ∧ (s.failCalls es st).account = s.account ∧
    (s.failCalls es st).exchange = s.exchange := by
  refine ⟨?_, ?_, ?_⟩ <;> funext n <;> simp only [State.station, State.account, State.exchange, State.failCalls_frame]

/-- The pair that the station's exchange-in-flight field names is freed (R102, R126). -/
def State.release (a : Nat) (s : State) : State :=
  match (s.station a).exchange with
  | none => s
  | some (.service k) => s.freeService k a
  | some (.command j) => s.freePair j a

/-- An abandonment frees the pair, then the CALL in flight fails (R102, R126). -/
theorem State.abandon_eq (a : Nat) (st : Status) :
    s.abandon a st = (s.release a).failCalls (s.entryInFlight a).toList st := by
  unfold State.abandon State.release State.entryInFlight
  cases (s.station a).exchange with
  | none => rfl
  | some p =>
    cases p with
    | service k => rfl
    | command j =>
      simp only [Option.bind_some]
      cases s.exchange j <;> rfl

theorem State.removeEntries_eq (a : Nat) (st : Status) :
    s.removeEntries a st = (s.dequeue (fun e => e.station == a)).failCalls
      (s.calls.queue.filter (fun e => e.station == a)) st := rfl

@[simp] theorem State.release_frame (a : Nat) :
    (s.release a).engine = s.engine ∧ (s.release a).plans = s.plans ∧ (s.release a).streams = s.streams ∧
    (s.release a).faults = s.faults ∧ (s.release a).notices = s.notices ∧ (s.release a).port = s.port ∧
    (s.release a).pending = s.pending ∧ (s.release a).calls.queue = s.calls.queue := by
  unfold State.release
  split <;> simp

@[simp] theorem State.release_exchange (a j : Nat) :
    (s.release a).exchange j = if (s.station a).exchange = some (.command j) then none else s.exchange j := by
  unfold State.release
  split
  · next h => simp [h]
  · next h => simp only [h, State.exchange, State.freeService_frame]; simp
  · next h => simp [h]

@[simp] theorem State.release_held (a k : Nat) :
    (s.release a).trims.held k = if (s.station a).exchange = some (.service k) then none else s.trims.held k := by
  unfold State.release
  split
  · next h => simp [h]
  · next h => simp [h]
  · next h => simp [h]

@[simp] theorem State.release_account (a b : Nat) : (s.release a).account b = s.account b := by
  unfold State.release
  split
  · rfl
  · exact s.freeService_account ..
  · simp only [State.account, State.freePair_frame]

/-! ### The pairs, the queue and the accounts once the work is disposed of -/

@[simp] theorem State.endHostTrim_exchange_field (a : Nat) (st : Status) (b : ReplyBody) :
    ((s.endHostTrim a st b).station a).exchange = (s.station a).exchange := by
  rw [State.endHostTrim_station]
  split <;> rfl

@[simp] theorem State.endHostTrim_records (a : Nat) (st : Status) (b : ReplyBody) :
    (s.endHostTrim a st b).account = s.account ∧ (s.endHostTrim a st b).exchange = s.exchange := by
  refine ⟨?_, ?_⟩ <;> funext n <;> simp only [State.account, State.exchange, State.endHostTrim_frame]

theorem State.disposeWork_eq (a : Nat) (st : Status) :
    s.disposeWork a st =
      ((((s.endHostTrim a st .short).release a).failCalls ((s.endHostTrim a st .short).entryInFlight a).toList
        st).dequeue (fun e => e.station == a)).failCalls (s.calls.queue.filter (fun e => e.station == a)) st := by
  rw [State.disposeWork, State.removeEntries_eq, State.abandon_eq]
  simp only [State.failCalls_frame, State.release_frame, State.endHostTrim_frame]

@[simp] theorem State.disposeWork_exchange (a : Nat) (st : Status) (j : Nat) :
    (s.disposeWork a st).exchange j = if (s.station a).exchange = some (.command j) then none else s.exchange j := by
  simp only [State.disposeWork_eq, State.failCalls_records, State.dequeue_exchange, State.release_exchange,
    State.endHostTrim_exchange_field, State.endHostTrim_records]

@[simp] theorem State.disposeWork_held (a : Nat) (st : Status) (k : Nat) :
    (s.disposeWork a st).trims.held k =
      if (s.station a).exchange = some (.service k) then none else s.trims.held k := by
  simp only [State.disposeWork_eq, State.failCalls_frame, State.dequeue_trims, State.release_held,
    State.endHostTrim_exchange_field, State.endHostTrim_frame]

@[simp] theorem State.disposeWork_queue (a : Nat) (st : Status) :
    (s.disposeWork a st).calls.queue = s.calls.queue.filter (fun e => e.station != a) := by
  simp only [State.disposeWork_eq, State.failCalls_frame, State.dequeue_calls, State.release_frame,
    State.endHostTrim_frame]
  rfl

@[simp] theorem State.disposeWork_account (a : Nat) (st : Status) (b : Nat) :
    (s.disposeWork a st).account b = s.account b := by
  have dequeued : ∀ (t : State) l, (t.dequeue l).account = t.account := fun t l => rfl
  simp only [State.disposeWork_eq, State.failCalls_records, dequeued, State.release_account,
    State.endHostTrim_records]

/-- Where no exchange is in flight the pairs and the accounts are out of it. -/
theorem State.disposeWork_of_idle (a : Nat) (st : Status) (h : (s.station a).exchange = none) :
    (s.disposeWork a st).trims = s.trims ∧ (s.disposeWork a st).calls.pairs = s.calls.pairs := by
  have idle : (s.endHostTrim a st .short).release a = s.endHostTrim a st .short := by
    rw [State.release, State.endHostTrim_exchange_field, h]
  rw [State.disposeWork_eq, idle]
  simp

/-! ### The same for a station that enters ABSENT or FAULTED -/

/-- The state in which a station's work is disposed of at entry to FAULTED: steps 1 to 4 of R67 are done. -/
def State.operationEnded (a : Nat) (new : StationState) (reason : Reason) (st : Status) (s : State) : State :=
  (s.moveStation a new reason).endOperation a st .short

@[simp] theorem State.operationEnded_exchange_field (a : Nat) (new : StationState) (reason : Reason) (st : Status) :
    ((s.operationEnded a new reason st).station a).exchange = (s.station a).exchange := by
  simp only [State.operationEnded, State.endOperation_station, State.moveStation_station]
  repeat' split
  all_goals rfl

@[simp] theorem State.operationEnded_frame (a : Nat) (new : StationState) (reason : Reason) (st : Status) :
    (s.operationEnded a new reason st).engine = s.engine ∧ (s.operationEnded a new reason st).plans = s.plans ∧
    (s.operationEnded a new reason st).trims = s.trims ∧ (s.operationEnded a new reason st).calls = s.calls ∧
    (s.operationEnded a new reason st).faults = s.faults ∧
    (s.operationEnded a new reason st).account = s.account ∧
    (s.operationEnded a new reason st).exchange = s.exchange := by
  refine ⟨?_, ?_, ?_, ?_, ?_, ?_, ?_⟩
  case refine_6 => funext b; simp [State.operationEnded, State.account]
  case refine_7 => funext j; simp [State.operationEnded, State.exchange]
  all_goals simp [State.operationEnded]

theorem State.enterFaulted_eq (a : Nat) (reason : Reason) (o w : Status) :
    s.enterFaulted a reason o w = (s.operationEnded a .faulted reason o).disposeWork a w := rfl

/-- The station's values are removed and a wake or a quiet span of it ends, at entry to ABSENT (R77, R86, R104). -/
def State.clearStation (a : Nat) (s : State) : State :=
  let s := s.onStation a Station.clear
  ({ s with stations := { s.stations with wakeQueue := s.stations.wakeQueue.filter (· != a) } } : State).endQuiet a

@[simp] theorem State.clearStation_frame (a : Nat) :
    (s.clearStation a).engine = s.engine ∧ (s.clearStation a).plans = s.plans ∧
    (s.clearStation a).streams = s.streams ∧ (s.clearStation a).calls = s.calls ∧
    (s.clearStation a).faults = s.faults ∧ (s.clearStation a).notices = s.notices ∧
    (s.clearStation a).port = s.port ∧ (s.clearStation a).exchange = s.exchange ∧
    (s.clearStation a).trims.held = s.trims.held := by
  refine ⟨rfl, rfl, rfl, rfl, rfl, rfl, rfl, rfl, ?_⟩
  funext k
  exact TrimScheduler.set_held ..

theorem State.clearStation_station (a b : Nat) :
    (s.clearStation a).station b =
      if a = b ∧ 1 ≤ a ∧ a ≤ 15 then (s.station a).clear else s.station b :=
  s.onStation_station a b Station.clear

theorem State.enterAbsent_eq (a : Nat) (reason : Reason) (o w : Status) :
    s.enterAbsent a reason o w = ((s.operationEnded a .absent reason o).clearStation a).disposeWork a w := rfl

@[simp] theorem State.clearStation_exchange_field (a : Nat) :
    ((s.clearStation a).station a).exchange = (s.station a).exchange := by
  rw [State.clearStation_station]
  split <;> rfl

@[simp] theorem State.enterFaulted_exchange (a : Nat) (reason : Reason) (o w : Status) (j : Nat) :
    (s.enterFaulted a reason o w).exchange j =
      if (s.station a).exchange = some (.command j) then none else s.exchange j := by
  simp [State.enterFaulted_eq]

@[simp] theorem State.enterFaulted_held (a : Nat) (reason : Reason) (o w : Status) (k : Nat) :
    (s.enterFaulted a reason o w).trims.held k =
      if (s.station a).exchange = some (.service k) then none else s.trims.held k := by
  simp [State.enterFaulted_eq]

@[simp] theorem State.enterAbsent_exchange (a : Nat) (reason : Reason) (o w : Status) (j : Nat) :
    (s.enterAbsent a reason o w).exchange j =
      if (s.station a).exchange = some (.command j) then none else s.exchange j := by
  simp [State.enterAbsent_eq]

@[simp] theorem State.enterAbsent_held (a : Nat) (reason : Reason) (o w : Status) (k : Nat) :
    (s.enterAbsent a reason o w).trims.held k =
      if (s.station a).exchange = some (.service k) then none else s.trims.held k := by
  simp [State.enterAbsent_eq]

@[simp] theorem State.enterAbsent_queue (a : Nat) (reason : Reason) (o w : Status) :
    (s.enterAbsent a reason o w).calls.queue = s.calls.queue.filter (fun e => e.station != a) := by
  simp [State.enterAbsent_eq]

/-- A station that enters FAULTED with no exchange in flight leaves the accounts and the pairs alone. -/
theorem State.enterFaulted_of_idle (a : Nat) (reason : Reason) (o w : Status) (h : (s.station a).exchange = none) :
    (s.enterFaulted a reason o w).trims = s.trims ∧ (s.enterFaulted a reason o w).calls.pairs = s.calls.pairs := by
  have frame := s.operationEnded_frame a .faulted reason o
  obtain ⟨trims, pairs⟩ := (s.operationEnded a .faulted reason o).disposeWork_of_idle a w
    (by rw [State.operationEnded_exchange_field, h])
  rw [State.enterFaulted_eq, trims, pairs, frame.2.2.1, frame.2.2.2.1]
  exact ⟨rfl, rfl⟩

/-- Of the streams and the notices entry to FAULTED is the change of state alone. -/
theorem State.enterFaulted_streams (a : Nat) (reason : Reason) (o w : Status) :
    (s.enterFaulted a reason o w).streams = (s.moveStation a .faulted reason).streams := by
  simp [State.enterFaulted]

theorem State.enterFaulted_notices (a : Nat) (reason : Reason) (o w : Status) :
    (s.enterFaulted a reason o w).notices = (s.moveStation a .faulted reason).notices := by
  simp [State.enterFaulted]

end Sys2Proof.Machine
end

section

namespace Sys2Proof.Machine

variable (s : State)

/-! ## The wakes through a frame start (R80, R81) -/

/-- The wake queue, and of each station the wake countdown and the latency it is loaded from (R81). -/
def State.wakeView (s : State) : List Nat × (Nat → Option Nat × Option Nat) :=
  (s.stations.wakeQueue, fun a => ((s.station a).wakeCountdown, (s.station a).latency))

theorem State.wakeView_congr {s t : State} (queue : t.stations.wakeQueue = s.stations.wakeQueue)
    (fields : ∀ a, (t.station a).wakeCountdown = (s.station a).wakeCountdown ∧
      (t.station a).latency = (s.station a).latency) : t.wakeView = s.wakeView := by
  unfold State.wakeView
  rw [queue]
  congr 1
  funext a
  rw [(fields a).1, (fields a).2]

theorem State.wakeQueue_of_view {s t : State} (h : t.wakeView = s.wakeView) :
    t.stations.wakeQueue = s.stations.wakeQueue := congrArg Prod.fst h

theorem State.wakes_of_view {s t : State} (h : t.wakeView = s.wakeView) (a : Nat) :
    (t.station a).wakeCountdown = (s.station a).wakeCountdown ∧ (t.station a).latency = (s.station a).latency := by
  have fields := congrFun (congrArg Prod.snd h) a
  exact ⟨congrArg Prod.fst fields, congrArg Prod.snd fields⟩

theorem State.wakeView_of_stations {s t : State} (h : t.stations = s.stations) : t.wakeView = s.wakeView :=
  wakeView_congr (by rw [h]) fun a => by simp only [State.station, h, and_self]

/-- A change of a record that leaves the wake countdown and the latency alone. -/
theorem State.onStation_wakeView (a : Nat) {f : Station → Station}
    (h : ∀ r, (f r).wakeCountdown = r.wakeCountdown ∧ (f r).latency = r.latency) :
    (s.onStation a f).wakeView = s.wakeView := by
  refine wakeView_congr (by simp) fun b => ?_
  rw [State.onStation_station]
  split
  · next hb => rw [← hb.1]; exact h _
  · exact ⟨rfl, rfl⟩

theorem State.moveStation_wakeView (a : Nat) (new : StationState) (reason : Reason) :
    (s.moveStation a new reason).wakeView = s.wakeView := by
  refine wakeView_congr (by simp) fun b => ?_
  rw [State.moveStation_station]
  split
  · next hb => rw [← hb.1]; exact ⟨rfl, rfl⟩
  · exact ⟨rfl, rfl⟩

theorem State.endHostTrim_wakeView (a : Nat) (st : Status) (b : ReplyBody) :
    (s.endHostTrim a st b).wakeView = s.wakeView := by
  refine wakeView_congr (by simp) fun b => ?_
  rw [State.endHostTrim_station]
  split
  · next hb => rw [← hb.1.1]; exact ⟨rfl, rfl⟩
  · exact ⟨rfl, rfl⟩

/-- A breach keeps the station's values (R84). -/
theorem State.enterFaulted_wakeView (a : Nat) (reason : Reason) (o w : Status) :
    (s.enterFaulted a reason o w).wakeView = s.wakeView := by
  refine wakeView_congr (by simp) fun b => ?_
  rw [State.enterFaulted_station]
  split
  · next hb => rw [← hb.1]; exact ⟨rfl, rfl⟩
  · exact ⟨rfl, rfl⟩

theorem quietSpanEnds_wakeView (a : Nat) : (quietSpanEnds a s).wakeView = s.wakeView := by
  unfold quietSpanEnds
  rw [State.wakeView_of_stations (State.endQuiet_frame ..).2.2.2.1, State.endHostTrim_wakeView,
    State.moveStation_wakeView]

theorem endQuietSpans_wakeView : (endQuietSpans s).wakeView = s.wakeView :=
  foldl_same (p := State.wakeView) (fun t a => by
    split
    · exact quietSpanEnds_wakeView t a
    · rfl) _ _

theorem trimFallsDue_wakeView (a : Nat) : (trimFallsDue a s).wakeView = s.wakeView := by
  simp only [trimFallsDue, breach]
  repeat' split
  · rfl
  · rw [State.enterFaulted_wakeView]; rfl
  · rfl

theorem accrueStation_wakeView (a : Nat) : (accrueStation s a).wakeView = s.wakeView := by
  unfold accrueStation
  repeat' split
  · exact trimFallsDue_wakeView ..
  · rfl
  · rfl

/-- Up to the grants a frame start leaves the wakes alone. -/
theorem State.beforeGrants_wakeView : s.beforeGrants.wakeView = s.wakeView := by
  have accrued : (accrue (endQuietSpans (planSwap (assignFrame s)))).wakeView =
      (endQuietSpans (planSwap (assignFrame s))).wakeView :=
    foldl_same (p := State.wakeView) (fun t a => accrueStation_wakeView t a) _ _
  have swapped : (planSwap (assignFrame s)).wakeView = s.wakeView :=
    State.wakeView_of_stations (planSwap_frame _).2.1
  rw [State.beforeGrants, accrued, endQuietSpans_wakeView, swapped]

theorem grantPair_wakeView (j : Nat) : (grantPair s j).wakeView = s.wakeView := by
  have phase : ∀ (t : State) tag ph, (t.setPhase tag ph).wakeView = t.wakeView := fun _ _ _ => rfl
  simp only [grantPair]
  repeat' split
  · rfl
  · rw [phase, State.onStation_wakeView]
    · rfl
    · exact fun _ => ⟨rfl, rfl⟩
  · rfl

/-- The grants of a frame start leave the wakes alone. -/
theorem grants_wakeView : (grantCommands (grantServices s)).wakeView = s.wakeView :=
  (foldl_same (p := State.wakeView) (fun t j => grantPair_wakeView t j) _ _).trans
    (foldl_same (p := State.wakeView) (fun t g => by
      rw [grantService, State.onStation_wakeView]
      · rfl
      · exact fun _ => ⟨rfl, rfl⟩) _ _)

/-! ### The wake naming (R81) -/

theorem nameWake_wakeQueue : (nameWake s).stations.wakeQueue = s.stations.wakeQueue.tail := by
  unfold nameWake
  cases h : s.stations.wakeQueue with
  | nil => simp [h]
  | cons a rest => simp

/-- The head of the wake queue has its countdown loaded with its W, every other countdown stays (R81). -/
theorem nameWake_wakeCountdown {a : Nat} (h1 : 1 ≤ a) (h15 : a ≤ 15) :
    ((nameWake s).station a).wakeCountdown =
      if s.stations.wakeQueue.head? = some a then some ((s.station a).latency.getD 0)
      else (s.station a).wakeCountdown := by
  unfold nameWake
  cases h : s.stations.wakeQueue with
  | nil => simp
  | cons b rest =>
    rw [State.onStation_station]
    by_cases hb : b = a
    · subst hb; simp [h1, h15]; rfl
    · simp [hb]; rfl

/-! ## The frame start as a whole (R4) -/

/-- Up to the wake naming the wakes are those before the frame start. -/
theorem granted_wakeView : (grantCommands (grantServices s.beforeGrants)).wakeView = s.wakeView :=
  (grants_wakeView _).trans s.beforeGrants_wakeView

theorem frameStart_engine : (frameStart s).engine = s.engine.started
    (if s.engine.trunk = .running then s.stations.wakeQueue.headD 0 else 0) := by
  have grants : (grantCommands (grantServices s.beforeGrants)).engine = s.engine.started 0 := by
    rw [(grantCommands_frame _).1, (grantServices_frame _).1, beforeGrants_engine]
  rw [frameStart_eq]
  split
  · rw [grantFrame, nameWake_engine grants, State.wakeQueue_of_view (granted_wakeView s)]
  · rw [beforeGrants_engine]

theorem frameStart_wakeQueue : (frameStart s).stations.wakeQueue =
    if s.engine.trunk = .running then s.stations.wakeQueue.tail else s.stations.wakeQueue := by
  rw [frameStart_eq]
  split
  · rw [grantFrame, nameWake_wakeQueue, State.wakeQueue_of_view (granted_wakeView s)]
  · exact State.wakeQueue_of_view s.beforeGrants_wakeView

theorem frameStart_wakeCountdown {a : Nat} (h1 : 1 ≤ a) (h15 : a ≤ 15) :
    ((frameStart s).station a).wakeCountdown =
      if s.engine.trunk = .running ∧ s.stations.wakeQueue.head? = some a then some ((s.station a).latency.getD 0)
      else (s.station a).wakeCountdown := by
  rw [frameStart_eq]
  split
  · next running =>
    obtain ⟨countdown, latency⟩ := State.wakes_of_view (granted_wakeView s) a
    rw [grantFrame, nameWake_wakeCountdown _ h1 h15, State.wakeQueue_of_view (granted_wakeView s), countdown, latency]
    simp only [running, true_and]
  · next halted =>
    rw [(State.wakes_of_view s.beforeGrants_wakeView a).1]
    simp only [halted, false_and, if_false]

/-! ### Without grants pairs are only freed (R9, R93) -/

/-- Between s and t pairs were freed and none was granted. -/
def onlyFreed (s t : State) : Prop :=
  (∀ j x, t.exchange j = some x → s.exchange j = some x) ∧ ∀ k a, t.trims.held k = some a → s.trims.held k = some a

theorem onlyFreed.of_eq {s t : State} (calls : t.exchange = s.exchange) (trims : t.trims.held = s.trims.held) :
    onlyFreed s t := ⟨fun _ _ h => calls ▸ h, fun _ _ h => trims ▸ h⟩

theorem onlyFreed.trans {s t u : State} (h : onlyFreed s t) (k : onlyFreed t u) : onlyFreed s u :=
  ⟨fun j x hx => h.1 j x (k.1 j x hx), fun i a ha => h.2 i a (k.2 i a ha)⟩

theorem onlyFreed.foldl {α : Type} {f : State → α → State} (h : ∀ s x, onlyFreed s (f s x)) (l : List α) (s : State) :
    onlyFreed s (l.foldl f s) :=
  foldl_keeps (P := onlyFreed s) (fun b x hb => hb.trans (h b x)) l s (.of_eq rfl rfl)

theorem State.onAccount_held (a : Nat) (f : TrimAccount → TrimAccount) :
    (s.onAccount a f).trims.held = s.trims.held := by
  funext k
  exact TrimScheduler.set_held ..

theorem quietSpanEnds_onlyFreed (a : Nat) : onlyFreed s (quietSpanEnds a s) := by
  refine .of_eq ?_ ?_
  · funext j
    simp only [State.exchange, quietSpanEnds_frame]
  · simp only [quietSpanEnds, State.endQuiet, State.onAccount_held, State.endHostTrim_frame, State.moveStation_frame]

theorem State.enterFaulted_onlyFreed (a : Nat) (reason : Reason) (o w : Status) :
    onlyFreed s (s.enterFaulted a reason o w) := by
  refine ⟨fun j x h => ?_, fun k b h => ?_⟩
  · rw [State.enterFaulted_exchange] at h
    split at h
    · simp at h
    · exact h
  · rw [State.enterFaulted_held] at h
    split at h
    · simp at h
    · exact h

theorem accrueStation_onlyFreed (a : Nat) : onlyFreed s (accrueStation s a) := by
  have account : ∀ (t : State) f, onlyFreed t (t.onAccount a f) := fun t f => .of_eq rfl (t.onAccount_held a f)
  have due : onlyFreed s (trimFallsDue a s) := by
    simp only [trimFallsDue, breach]
    repeat' split
    · exact (account ..).trans (account ..)
    · exact (account ..).trans (State.enterFaulted_onlyFreed ..)
    · exact account ..
  unfold accrueStation
  repeat' split
  · exact due
  · exact account ..
  · exact .of_eq rfl rfl

theorem State.beforeGrants_onlyFreed : onlyFreed s s.beforeGrants := by
  have swapped : onlyFreed s (planSwap (assignFrame s)) := by
    refine .of_eq ?_ ?_
    · funext j
      simp only [State.exchange, planSwap_frame, assignFrame_frame]
    · simp only [planSwap_frame, assignFrame_frame]
  have quiet : ∀ t : State, onlyFreed t (endQuietSpans t) := fun t => .foldl (fun u a => by
    split
    · exact quietSpanEnds_onlyFreed ..
    · exact .of_eq rfl rfl) _ _
  have accrued : ∀ t : State, onlyFreed t (accrue t) := fun t => .foldl accrueStation_onlyFreed _ _
  exact (swapped.trans (quiet _)).trans (accrued _)

theorem State.startsFrame_due {s : State} (h : s.startsFrame) : s.port.rstnLow = false ∧ s.frameDue = true := by
  obtain ⟨low, none, trunk, below⟩ := h
  have below' : s.engine.frameNumber < Config.lastFrame := below
  obtain trunk | trunk := trunk <;> simp [State.frameDue, low, none, trunk, below']

/-- Settles O32: the frame start read field by field. -/
theorem frameStartAssignsNumber : Obligations.FrameStartAssignsNumber := by
  intro s starts
  obtain ⟨low, due⟩ := State.startsFrame_due starts
  have run : exec .frameStart s = .next (frameStart s) := by
    show execFrameStart s = _
    simp [execFrameStart, low, due]
  refine ⟨_, run, frameStart_engine s, frameStart_wakeQueue s, fun a => frameStart_wakeCountdown s, by simp, by simp,
    fun starting => ?_⟩
  have ungranted : frameStart s = s.beforeGrants := by
    rw [frameStart_eq, if_neg (by simp [starting])]
  rw [ungranted]
  exact s.beforeGrants_onlyFreed

/-! ## TRUNK STOP (R10) -/

/-- Settles O14: with no frame in progress the frame start that is due is part of the take (log entry 10). -/
theorem trunkStopBeginsStopping : Obligations.TrunkStopBeginsStopping := by
  intro f s taken
  have run : exec .trunkStop s = .next (serveTrunkStop f s.popIntake) := takesRequest_served serveTrunkStop taken
  refine ⟨fun halted => ?_, fun making => ⟨fun frame => ?_, fun gap below => ?_⟩⟩
  · have halted' : ¬ (s.engine.trunk = .starting ∨ s.engine.trunk = .running) := by
      obtain h | h := halted <;> simp [h]
    simp only [run, serveTrunkStop, State.popIntake_engine, halted', if_false, State.popIntake_refuse]
  · have due : s.popIntake.frameDue = false := by
      simp [State.frameDue, Option.isSome_iff_ne_none.mp frame]
    simp only [run, serveTrunkStop, State.popIntake_engine, making, due, if_true, Bool.false_eq_true, if_false]
    rfl
  · have due : s.popIntake.frameDue = true :=
      (State.startsFrame_due (s := s.popIntake) ⟨taken.1.1, gap, making, below⟩).2
    have stopped : exec .trunkStop s =
        .next ((beginStop (frameStart s.popIntake)).enter (outstanding .trunkStop f none .awaitingFrame)) := by
      simp only [run, serveTrunkStop, State.popIntake_engine, making, due, if_true]
    refine ⟨_, stopped, rfl, rfl, ?_, ?_, ?_⟩
    · simp [beginStop, frameStart_engine, FrameEngine.started]
    · simp [beginStop, frameStart_engine, FrameEngine.started]
    · simp [outstanding]

end Sys2Proof.Machine
end

section

namespace Sys2Proof.Machine

/-! ## The reply of an unanswered request (R153, R154) -/

/-- Tags of the outstanding table differ (R153). -/
def HostPort.tagsDiffer (p : HostPort) : Prop := (p.table.map (·.tag)).Nodup

/-- Two entries of the table with one tag are the same. -/
theorem HostPort.tagsDiffer.eq {p : HostPort} (h : p.tagsDiffer) {o q : Outstanding} (ho : o ∈ p.table)
    (hq : q ∈ p.table) (ht : o.tag = q.tag) : o = q :=
  List.inj_on_of_nodup_map h ho hq ht

/-- An unanswered request is the entry that an answer of its tag finds. -/
theorem HostPort.find_waits {p : HostPort} (h : p.tagsDiffer) {tag : Byte} {k : ReqKind} {target : Option Nat}
    (ha : p.awaits tag k target) : ∃ o, p.table.find? (·.waits tag) = some o ∧ o.kind = k := by
  obtain ⟨o, ho, htag, hkind, -, hopen⟩ := ha
  have found : (p.table.find? (·.waits tag)).isSome = true :=
    List.find?_isSome.mpr ⟨o, ho, by simp [Outstanding.waits, htag, hopen]⟩
  obtain ⟨q, hq⟩ := Option.isSome_iff_exists.mp found
  have waits := List.find?_some hq
  simp only [Outstanding.waits, Bool.and_eq_true, beq_iff_eq] at waits
  have same : q = o := h.eq (List.mem_of_find?_eq_some hq) ho (waits.1.trans htag.symm)
  exact ⟨q, hq, same ▸ hkind⟩

/-- The answer of an unanswered request: its mark is set and the reply of its kind joins the queue (R153). -/
theorem HostPort.answer_of_awaits {p : HostPort} (h : p.tagsDiffer) {tag : Byte} {k : ReqKind} {target : Option Nat}
    (ha : p.awaits tag k target) (st : Status) (b : ReplyBody) :
    p.answer tag st b = { p with table := p.table.map (Outstanding.mark tag)
                                 replies := p.replies ++ [deferredReply k tag st b] } := by
  obtain ⟨o, ho, rfl⟩ := HostPort.find_waits h ha
  exact HostPort.answer_waiting st b ho

theorem HostPort.tagsDiffer_answer {p : HostPort} (tag : Byte) (st : Status) (b : ReplyBody) :
    (p.answer tag st b).tagsDiffer ↔ p.tagsDiffer := by
  rw [HostPort.tagsDiffer, HostPort.answer_tags, HostPort.tagsDiffer]

@[simp] theorem Outstanding.mark_fields (tag : Byte) (o : Outstanding) :
    (o.mark tag).tag = o.tag ∧ (o.mark tag).kind = o.kind ∧ (o.mark tag).target = o.target := by
  unfold Outstanding.mark
  split <;> simp

theorem Outstanding.mark_of_ne {tag : Byte} {o : Outstanding} (h : o.tag ≠ tag) : o.mark tag = o := by
  rw [Outstanding.mark, if_neg h]

theorem Outstanding.mark_replied (tag : Byte) (o : Outstanding) :
    (o.mark tag).replied = (o.replied || o.tag == tag) := by
  by_cases h : o.tag = tag <;> simp [Outstanding.mark, h]

/-- The answer of one request leaves the others unanswered. -/
theorem HostPort.awaits_answer_of_ne {p : HostPort} {tag other : Byte} {k : ReqKind} {target : Option Nat}
    (ne : tag ≠ other) (st : Status) (b : ReplyBody) (ha : p.awaits tag k target) :
    (p.answer other st b).awaits tag k target := by
  obtain ⟨o, ho, htag, rest⟩ := ha
  unfold HostPort.answer
  split
  · exact ⟨o, ho, htag, rest⟩
  · exact ⟨o, List.mem_map.mpr ⟨o, ho, Outstanding.mark_of_ne (htag ▸ ne)⟩, htag, rest⟩

theorem HostPort.awaits_of_waiting {p : HostPort} {tag : Byte} {k : ReqKind} {target : Option Nat}
    (h : p.waiting k target = some tag) : p.awaits tag k target := by
  obtain ⟨o, ho, htag⟩ := Option.map_eq_some_iff.mp h
  have test := List.find?_some ho
  simp only [Bool.and_eq_true, beq_iff_eq, Bool.not_eq_true'] at test
  exact ⟨o, List.mem_of_find?_eq_some ho, htag, test.1.1, test.1.2, test.2⟩

/-- Whether a request of a kind and target waits depends on the entries of that kind and target alone. -/
theorem HostPort.waiting_map {p q : HostPort} {k : ReqKind} {target : Option Nat} {f : Outstanding → Outstanding}
    (hq : q.table = p.table.map f)
    (keeps : ∀ o ∈ p.table, (f o).tag = o.tag ∧ (f o).kind = o.kind ∧ (f o).target = o.target ∧
      (o.kind = k → o.target = target → (f o).replied = o.replied)) :
    q.waiting k target = p.waiting k target := by
  have tests : p.table.find? ((fun e => e.kind == k && e.target == target && !e.replied) ∘ f) =
      p.table.find? (fun e => e.kind == k && e.target == target && !e.replied) := by
    refine List.find?_congr fun o ho => ?_
    obtain ⟨-, hkind, htarget, hreplied⟩ := keeps o ho
    by_cases hk : o.kind = k
    · by_cases ht : o.target = target
      · simp [hkind, htarget, hreplied hk ht]
      · simp [htarget, beq_false_of_ne ht]
    · simp [hkind, beq_false_of_ne hk]
  unfold HostPort.waiting
  rw [hq, List.find?_map, tests, Option.map_map]
  cases hf : p.table.find? (fun e => e.kind == k && e.target == target && !e.replied) with
  | none => rfl
  | some o => simp [(keeps o (List.mem_of_find?_eq_some hf)).1]

/-- The answer of a request of another kind or target leaves what waits of this one. -/
theorem HostPort.waiting_answer_of_ne {p : HostPort} (h : p.tagsDiffer) {tag : Byte} {k l : ReqKind}
    {target other : Option Nat} (ha : p.awaits tag l other) (ne : ¬ (l = k ∧ other = target)) (st : Status)
    (b : ReplyBody) : (p.answer tag st b).waiting k target = p.waiting k target := by
  rw [HostPort.answer_of_awaits h ha]
  refine HostPort.waiting_map rfl fun o ho => ⟨by simp, by simp, by simp, fun hk ht => ?_⟩
  obtain ⟨q, hq, htag, hkind, htarget, -⟩ := ha
  have apart : o.tag ≠ tag := fun e => by
    have same := h.eq ho hq (e.trans htag.symm)
    exact ne ⟨by rw [← hkind, ← same, hk], by rw [← htarget, ← same, ht]⟩
  rw [Outstanding.mark_of_ne apart]

theorem HostPort.waiting_setPhase (p : HostPort) (tag : Byte) (ph : Phase) (k : ReqKind) (target : Option Nat) :
    (p.setPhase tag ph).waiting k target = p.waiting k target :=
  HostPort.waiting_map rfl fun o _ => by split <;> simp

theorem HostPort.tagsDiffer_setPhase (p : HostPort) (tag : Byte) (ph : Phase) :
    (p.setPhase tag ph).tagsDiffer ↔ p.tagsDiffer := by
  have tags : (p.setPhase tag ph).table.map (·.tag) = p.table.map (·.tag) := by
    simp only [HostPort.setPhase, List.map_map]
    refine List.map_congr_left fun o _ => ?_
    simp only [Function.comp]
    split <;> rfl
  rw [HostPort.tagsDiffer, tags, HostPort.tagsDiffer]

/-- The answer of the request that waits of a kind and target: its reply, or none where none waits. -/
theorem State.answerKind_replies {s : State} (h : s.port.tagsDiffer) (k : ReqKind) (target : Option Nat) (st : Status)
    (b : ReplyBody) : (s.answerKind k target st b).port.replies =
      s.port.replies ++ (s.port.waiting k target).toList.map (fun tag => deferredReply k tag st b) := by
  unfold State.answerKind
  cases hw : s.port.waiting k target with
  | none => simp
  | some tag =>
    simp only [State.answer_port, HostPort.answer_of_awaits h (HostPort.awaits_of_waiting hw)]
    rfl

end Sys2Proof.Machine
end

section

namespace Sys2Proof.Machine

/-! ## The engine at a frame end (R3, R4, R9, R11) -/

/-- The frame in progress is over, the line released. -/
def State.overFrame (s : State) : State := { s with engine := s.engine.between }

theorem closeFrame_eq (s : State) :
    closeFrame s = addresses.foldl wakeTick (passSlots Config.slots s).overFrame := rfl

theorem passSlots_between (slot : Nat) (s : State) : (passSlots slot s).engine.between = s.engine.between := by
  rw [← FrameEngine.atSlot_between 0 none, passSlots_engine, FrameEngine.atSlot_between]

theorem closeFrame_engine (s : State) : (closeFrame s).engine = s.engine.between := by
  have ticks : (addresses.foldl wakeTick (passSlots Config.slots s).overFrame).engine =
      (passSlots Config.slots s).overFrame.engine :=
    foldl_same (p := State.engine) (fun t a => by simp) _ _
  rw [closeFrame_eq, ticks]
  exact passSlots_between ..

/-- The trunk is STOPPED; its owners have still to deal with the stop (R11). -/
def State.halted (s : State) : State :=
  { s with engine := { s.engine with trunk := .stopped, countdown := 0, frame := none, line := none } }

theorem trunkStops_eq (s : State) :
    trunkStops s = ((streamUnitStop (callUnitStop (stationManagerStop s.halted))).answerKind
      .trunkStart none .aborted .short).answerKind .trunkStop none .ok .short := rfl

theorem trunkStops_engine (s : State) :
    (trunkStops s).engine = { s.engine.between with trunk := .stopped, countdown := 0 } := by
  simp only [trunkStops_eq, State.answerKind_frame, streamUnitStop_frame, callUnitStop_frame,
    stationManagerStop_frame]
  rfl

theorem startingTick_engine (s : State) : (startingTick s).engine =
    { s.engine with countdown := s.engine.countdown - 1,
                    trunk := if s.engine.countdown - 1 = 0 then .running else s.engine.trunk } := by
  simp only [startingTick]
  split
  · rw [(State.answerKind_frame ..).1]
  · rfl

theorem settleTrunk_engine {s : State} {e : FrameEngine} (h : s.engine = e.between) :
    (settleTrunk s).engine = e.ended := by
  have trunk : s.engine.trunk = e.trunk := by rw [h]; rfl
  have number : s.engine.frameNumber = e.frameNumber := by rw [h]; rfl
  have stops : (trunkStops s).engine = { e.between with trunk := .stopped, countdown := 0 } := by
    rw [trunkStops_engine, h]
    rfl
  have ticks : (startingTick s).engine = { e.between with
      countdown := e.countdown - 1, trunk := if e.countdown - 1 = 0 then .running else e.trunk } := by
    rw [startingTick_engine, h]
    rfl
  unfold settleTrunk FrameEngine.ended
  rw [trunk, number]
  cases ht : e.trunk with
  | stopped => exact h
  | stopping => exact stops
  | starting =>
    simp only
    split
    · exact stops
    · rw [ticks, ht]
  | running =>
    simp only
    split
    · exact stops
    · exact h

theorem frameEnd_engine (s : State) : (frameEnd s).engine = s.engine.ended :=
  settleTrunk_engine (closeFrame_engine s)

theorem FrameEngine.ended_running {e : FrameEngine} (h : e.trunk = .running) (below : e.frameNumber < Config.lastFrame) :
    e.ended = e.between := by
  simp only [FrameEngine.ended, h, Nat.ne_of_lt below, if_false]

theorem FrameEngine.ended_starting {e : FrameEngine} (h : e.trunk = .starting)
    (below : e.frameNumber < Config.lastFrame) :
    e.ended = { e.between with countdown := e.countdown - 1,
                               trunk := if e.countdown - 1 = 0 then .running else .starting } := by
  simp only [FrameEngine.ended, h, Nat.ne_of_lt below, if_false]

/-- The frame end at which a stop completes (R3, R11). -/
theorem FrameEngine.ended_stops {e : FrameEngine}
    (h : e.trunk = .stopping ∨ (e.frameNumber = Config.lastFrame ∧ (e.trunk = .starting ∨ e.trunk = .running))) :
    e.ended = { e.between with trunk := .stopped, countdown := 0 } := by
  obtain h | ⟨last, h | h⟩ := h
  · simp only [FrameEngine.ended, h]
  · simp only [FrameEngine.ended, h, last, if_true]
  · simp only [FrameEngine.ended, h, last, if_true]

/-! ### The slots of a beacon-only frame leave the port alone (R9, R15) -/

/-- The frame in progress, if there is one, carries the beacon alone (R9). -/
def State.beaconOnly (s : State) : Prop := ∀ fr ∈ s.engine.frame, fr.full = false

theorem slotEvent_beaconOnly {s : State} (h : s.beaconOnly) (slot : Nat) (line : Option Word) :
    (slotEvent slot line s).port = s.port ∧ (slotEvent slot line s).beaconOnly := by
  have role : s.roleNow slot = .beacon ∨ s.roleNow slot = .free := by
    unfold State.roleNow
    split
    · exact .inr rfl
    · next fr hf =>
      rw [h fr hf]
      by_cases h0 : slot = 0 <;> simp [h0]
  refine ⟨?_, ?_⟩
  · unfold slotEvent serveSlot
    obtain hr | hr := role <;> simp [hr]
  · obtain ⟨l, hl⟩ := slotEvent_engine slot line s
    intro fr hf
    rw [hl] at hf
    obtain ⟨fr', hf', rfl⟩ := Option.map_eq_some_iff.mp hf
    exact h fr' hf'

theorem passFrom_port_of_beaconOnly (n : Nat) : ∀ (slot : Nat) {s : State}, s.beaconOnly →
    (passFrom slot n s).port = s.port := by
  induction n with
  | zero => intro slot s _; rfl
  | succ n ih =>
    intro slot s h
    obtain ⟨port, only⟩ := slotEvent_beaconOnly h slot none
    rw [passFrom, ih _ only, port]

theorem passSlots_port_of_beaconOnly {s : State} (h : s.beaconOnly) (slot : Nat) :
    (passSlots slot s).port = s.port := by
  unfold passSlots
  split
  · rfl
  · exact passFrom_port_of_beaconOnly _ _ h

/-! ### The wake countdowns at a frame end change no request but its phase (R81) -/

theorem wakeTick_port (s : State) (a : Nat) :
    (wakeTick s a).port = s.port ∨ ∃ tag, (wakeTick s a).port = s.port.setPhase tag .queued := by
  unfold wakeTick queueProbe
  repeat' split
  · exact .inl rfl
  · exact .inl rfl
  · next tag _ => exact .inr ⟨tag, by simp⟩
  · exact .inl rfl

/-- What waits of a kind and target, the tags and the replies are those before the wake countdowns fell. -/
theorem wakeTicks_port (l : List Nat) (s : State) (k : ReqKind) (target : Option Nat) :
    (l.foldl wakeTick s).port.waiting k target = s.port.waiting k target ∧
    ((l.foldl wakeTick s).port.tagsDiffer ↔ s.port.tagsDiffer) ∧
    (l.foldl wakeTick s).port.replies = s.port.replies := by
  refine foldl_keeps (P := fun t : State => t.port.waiting k target = s.port.waiting k target ∧
    (t.port.tagsDiffer ↔ s.port.tagsDiffer) ∧ t.port.replies = s.port.replies) (fun t a ht => ?_) l s
    ⟨rfl, Iff.rfl, rfl⟩
  obtain same | ⟨tag, phase⟩ := wakeTick_port t a
  · rwa [same]
  · rw [phase, HostPort.waiting_setPhase, HostPort.tagsDiffer_setPhase, (HostPort.setPhase_frame ..).2.2.2.2.2.1]
    exact ht

/-- When the countdown reaches 0 a TRUNK START that waits is answered OK (R9). -/
theorem startingTick_replies {s : State} (differ : s.port.tagsDiffer) (last : s.engine.countdown = 1) :
    (startingTick s).port.replies = s.port.replies ++
      (s.port.waiting .trunkStart none).toList.map (fun tag => deferredReply .trunkStart tag .ok .short) := by
  simp only [startingTick, last, Nat.sub_self, if_true]
  exact State.answerKind_replies (s := { s with engine := { s.engine with countdown := 0, trunk := .running } })
    differ _ _ _ _

/-! ### The statement of the frame end (R4, R9) -/

theorem exec_frameEnd {s : State} (low : s.port.rstnLow = false) (frame : s.engine.frame.isSome = true) :
    exec .frameEnd s = .next (frameEnd s) := by
  show execFrameEnd s = _
  simp [execFrameEnd, low, frame]

/-- At the end of the last beacon-only frame the TRUNK START that waits is answered OK (R9). -/
theorem frameEnd_answersTrunkStart {s : State} {tag : Byte} (only : s.beaconOnly) (differ : s.port.tagsDiffer)
    (trunk : s.engine.trunk = .starting) (last : s.engine.countdown = 1)
    (below : s.engine.frameNumber < Config.lastFrame) (waits : s.port.waiting .trunkStart none = some tag) :
    (frameEnd s).port.replies.getLast? = some (deferredReply .trunkStart tag .ok .short) := by
  have passed : (passSlots Config.slots s).overFrame.port = s.port := passSlots_port_of_beaconOnly only _
  obtain ⟨waits', differ', -⟩ := wakeTicks_port addresses (passSlots Config.slots s).overFrame .trunkStart none
  rw [← closeFrame_eq, passed] at waits' differ'
  have engine := closeFrame_engine s
  unfold frameEnd
  generalize closeFrame s = u at waits' differ' engine ⊢
  have starting : settleTrunk u = startingTick u := by
    have trunk' : u.engine.trunk = .starting := by rw [engine]; exact trunk
    have number : u.engine.frameNumber ≠ Config.lastFrame := by rw [engine]; exact Nat.ne_of_lt below
    simp only [settleTrunk, trunk', number, if_false]
  rw [starting, startingTick_replies (differ'.mpr differ) (by rw [engine]; exact last), waits', waits]
  simp

/-- Settles O38: the frame end read off the engine, and the reply of the TRUNK START. -/
theorem frameEndCountsDownToRunning : Obligations.FrameEndCountsDownToRunning := by
  intro s fr low frame below
  have run := exec_frameEnd low (by rw [frame]; rfl)
  have plans : (frameEnd s).plans = s.plans := (frameEnd_frame s).1
  refine ⟨fun trunk => ⟨_, run, ?_, plans⟩, fun trunk many => ⟨_, run, ?_, plans⟩, fun trunk last => ⟨_, ?_, run, ?_, plans, ?_⟩⟩
  · rw [frameEnd_engine, FrameEngine.ended_running trunk below]
    rfl
  · rw [frameEnd_engine, FrameEngine.ended_starting trunk below, if_neg (by omega), ← trunk]
    rfl
  · have number : s.engine.frameNumber ≠ Config.lastFrame := Nat.ne_of_lt below
    show execStartingEnd s = _
    simp [execStartingEnd, low, frame, trunk, last, number]
  · rw [frameEnd_engine, FrameEngine.ended_starting trunk below, last]
    rfl
  · intro tag beacon differ waits
    have only : s.beaconOnly := fun fr' hf => by
      rw [frame] at hf
      obtain rfl := Option.some.inj hf
      exact beacon
    exact frameEnd_answersTrunkStart only differ trunk last below waits

/-! ## The RSTN pin and the wake queue through slots and frames -/

theorem WakesKept.refl (s : State) : WakesKept s s := .of_eq rfl rfl

theorem drive_wakes (slot : Nat) (w : Word) (line : Option Word) (s : State) : WakesKept s (drive slot w line s) :=
  .of_eq (by simp) (by simp)

theorem streamAnswer_wakes (id slot : Nat) (st : Stream) (c : UpClass) (s : State) :
    WakesKept s (streamAnswer id slot st c s) := .of_eq (by simp) (by simp)

theorem unexpected_wakes (slot : Nat) (line : Option Word) (s : State) : WakesKept s (unexpected slot line s) :=
  .of_eq (by simp) (by simp)

theorem serveSlot_wakes (role : Role) (slot : Nat) (line : Option Word) (s : State) :
    WakesKept s (serveSlot role slot line s) := by
  unfold serveSlot
  cases role with
  | free => exact unexpected_wakes ..
  | beacon => exact drive_wakes ..
  | serviceDown k => exact drive_wakes ..
  | serviceUp k =>
    simp only
    split
    · exact (trimAnswer_kept ..).toWakesKept
    · exact unexpected_wakes ..
  | commandDown j => exact .of_eq (by simp) (by simp)
  | commandUp j =>
    simp only
    split
    · exact (commandAnswer_kept ..).toWakesKept
    · exact unexpected_wakes ..
  | stream id =>
    simp only
    repeat' split
    · exact unexpected_wakes ..
    · exact .of_eq (by simp) (by simp)
    · exact streamAnswer_wakes ..
    · exact unexpected_wakes ..

theorem slotEvent_wakes (slot : Nat) (line : Option Word) (s : State) : WakesKept s (slotEvent slot line s) :=
  WakesKept.trans (.of_eq (by simp) (by simp)) (serveSlot_wakes ..)

theorem passFrom_wakes (n : Nat) : ∀ (slot : Nat) (s : State), WakesKept s (passFrom slot n s) := by
  induction n with
  | zero => exact fun slot s => .refl s
  | succ n ih => exact fun slot s => (slotEvent_wakes slot none s).trans (ih _ _)

theorem passSlots_wakes (slot : Nat) (s : State) : WakesKept s (passSlots slot s) := by
  unfold passSlots
  split
  · exact .refl s
  · exact passFrom_wakes ..

theorem closeFrame_wakes (s : State) : WakesKept s (closeFrame s) := by
  have between : WakesKept (passSlots Config.slots s) (passSlots Config.slots s).overFrame := .of_eq rfl rfl
  rw [closeFrame_eq]
  exact ((passSlots_wakes ..).trans between).trans (EngineKept.foldl wakeTick_kept _ _).toWakesKept

theorem trunkStops_wakes (s : State) : WakesKept s (trunkStops s) := by
  have streams : ∀ t : State, WakesKept t (streamUnitStop t) := fun t => .of_eq (by simp) (by simp)
  have begun : WakesKept s s.halted := .of_eq rfl rfl
  rw [trunkStops_eq]
  exact ((((begun.trans (stationManagerStop_kept _).toWakesKept).trans (callUnitStop_kept _).toWakesKept).trans
    (streams _)).trans (State.answerKind_kept ..).toWakesKept).trans (State.answerKind_kept ..).toWakesKept

theorem settleTrunk_wakes (s : State) : WakesKept s (settleTrunk s) := by
  have tick : WakesKept s (startingTick s) := by
    refine .of_eq ?_ (by simp)
    simp only [startingTick]
    split <;> simp
  unfold settleTrunk
  repeat' split
  · exact .refl s
  · exact trunkStops_wakes s
  · exact trunkStops_wakes s
  · exact tick
  · exact trunkStops_wakes s
  · exact .refl s

theorem frameEnd_wakes (s : State) : WakesKept s (frameEnd s) :=
  (closeFrame_wakes s).trans (settleTrunk_wakes _)

theorem frameStart_wakes (s : State) : WakesKept s (frameStart s) := by
  have assigned : WakesKept s (assignFrame s) := .of_eq (by simp) (by simp)
  have before : WakesKept s s.beforeGrants :=
    ((assigned.trans (planSwap_kept _).toWakesKept).trans (endQuietSpans_kept _).toWakesKept).trans
      (accrue_kept _).toWakesKept
  have granted : WakesKept s (grantCommands (grantServices s.beforeGrants)) :=
    (before.trans (grantServices_kept _).toWakesKept).trans (grantCommands_kept _).toWakesKept
  refine ⟨?_, fun a ha => .inl ?_⟩
  · rw [frameStart_eq]
    split
    · rw [grantFrame, (nameWake_frame _).2.2.2.2.2.2.1]
      exact granted.low
    · exact before.low
  · rw [frameStart_wakeQueue] at ha
    split at ha
    · exact List.mem_of_mem_tail ha
    · exact ha

end Sys2Proof.Machine
end

section

namespace Sys2Proof.Machine

/-! ## The requests that leave the Frame Engine alone -/

section
variable (f : ReqFrame) (s : State)

theorem State.accept_kept (k : ReqKind) (b : ReplyBody) : EngineKept s (s.accept k f b) :=
  .of_eq (by simp) (by simp) (by simp)

theorem State.refuse_kept (k : ReqKind) (st : Status) : EngineKept s (s.refuse k f st) :=
  .of_eq (by simp) (by simp) (by simp)

theorem State.replyNow_kept (k tag : Byte) (st : Status) (b : ReplyBody) : EngineKept s (s.replyNow k tag st b) :=
  .of_eq (by simp) (by simp) (by simp)

theorem State.dequeue_kept (l : Entry → Bool) : EngineKept s (s.dequeue l) := .of_eq rfl rfl rfl

theorem serveGrant_kept : EngineKept s (serveGrant f s) := by
  simp only [serveGrant]
  split
  · exact .of_eq (by simp) (by simp) (by simp)
  · exact s.refuse_kept ..

/-! ### CANCEL and RESTART (R158, R159) -/

/-- A withdrawal by the owner of the request leaves the engine alone. -/
theorem cancelEntry_kept {e : Outstanding} {s t : State} (h : cancelEntry e s = some t) : EngineKept s t := by
  unfold cancelEntry at h
  split at h
  · unfold cancelCommit at h
    repeat' split at h
    · obtain rfl := Option.some.inj h
      exact .of_eq (by simp) (by simp) (by simp)
    all_goals simp at h
  · unfold cancelEnroll at h
    split at h
    · obtain rfl := Option.some.inj h
      exact (s.dequeue_kept _).trans (State.enterAbsent_kept ..)
    · simp at h
  · unfold cancelDrowse at h
    split at h
    · obtain rfl := Option.some.inj h
      exact (s.dequeue_kept _).trans (State.endOperation_kept ..)
    · simp at h
  · unfold cancelWake at h
    split at h
    · obtain rfl := Option.some.inj h
      refine ⟨⟨by simp, fun a ha => .inl ?_⟩, by simp⟩
      simp only [State.endOperation_wakes, State.moveStation_wakeQueue] at ha
      exact List.mem_of_mem_filter ha
    · simp at h
  · unfold cancelTrim at h
    split at h
    · obtain rfl := Option.some.inj h
      exact s.endHostTrim_kept ..
    · simp at h
  · unfold cancelCall at h
    split at h
    · obtain rfl := Option.some.inj h
      exact .of_eq (by simp) (by simp) (by simp)
    · simp at h
  all_goals simp at h

theorem serveCancel_kept : EngineKept s (serveCancel f s) := by
  simp only [serveCancel]
  split
  · exact s.replyNow_kept ..
  · split
    · exact s.replyNow_kept ..
    · split
      · next h => exact (cancelEntry_kept h).trans (State.replyNow_kept ..)
      · exact s.replyNow_kept ..

theorem giveUpExchange_kept (tag : Byte) (j : Nat) : EngineKept s (giveUpExchange tag s j) := by
  unfold giveUpExchange
  repeat' split
  · exact s.freePair_kept ..
  all_goals exact .refl s

theorem giveUpOperation_kept (tag : Byte) (a : Nat) : EngineKept s (giveUpOperation tag s a) := by
  unfold giveUpOperation
  repeat' split
  · exact s.onStation_kept ..
  all_goals exact .refl s

/-- The pairs and the pending operations of a request are given up, its entries have left the queue (R159). -/
def State.workGivenUp (tag : Byte) (s : State) : State :=
  addresses.foldl (giveUpOperation tag) (pairNumbers.foldl (giveUpExchange tag) (s.dequeue (fun e => e.tag == tag)))

theorem State.workGivenUp_kept (tag : Byte) : EngineKept s (s.workGivenUp tag) := by
  have exchanges : ∀ t, EngineKept t (pairNumbers.foldl (giveUpExchange tag) t) :=
    EngineKept.foldl (fun t j => giveUpExchange_kept t tag j) pairNumbers
  have operations : ∀ t, EngineKept t (addresses.foldl (giveUpOperation tag) t) :=
    EngineKept.foldl (fun t a => giveUpOperation_kept t tag a) addresses
  exact ((s.dequeue_kept (fun e => e.tag == tag)).trans (exchanges _)).trans (operations _)

/-- Beside that work a request can own the pending commit (R37). -/
theorem giveUp_cases (tag : Byte) : giveUp tag s = s.workGivenUp tag ∨
    giveUp tag s = { s.workGivenUp tag with plans := { (s.workGivenUp tag).plans with commit := none } } := by
  unfold giveUp
  simp only [← State.workGivenUp.eq_def]
  generalize s.workGivenUp tag = t
  cases t.plans.commit
  · exact .inl rfl
  · simp only
    split
    · exact .inr rfl
    · exact .inl rfl

theorem giveUp_kept (tag : Byte) : EngineKept s (giveUp tag s) := by
  have kept := s.workGivenUp_kept tag
  obtain h | h := giveUp_cases s tag
  · rwa [h]
  · rw [h]
    generalize s.workGivenUp tag = t at kept ⊢
    exact kept.trans (.of_eq rfl rfl rfl)

theorem serveRestart_kept : EngineKept s (serveRestart f s) := by
  have one : ∀ (t : State) (e : Outstanding), EngineKept t (abortOne t e) := fun t e => by
    unfold abortOne
    split
    · exact .refl t
    · exact (giveUp_kept t e.tag).trans (State.answer_kept ..)
  have closed : EngineKept s { s with port := { s.port with restarting := true } } := .of_eq rfl rfl rfl
  exact (closed.trans (.foldl one _ _)).trans (State.accept_kept ..)

/-! ### The station requests -/

theorem serveEnroll_kept : EngineKept s (serveEnroll f s) := by
  simp only [serveEnroll]
  repeat' split
  · exact s.refuse_kept ..
  · exact .of_eq (by simp [beginEnroll]) (by simp [beginEnroll]) (by simp [beginEnroll])
  · exact s.refuse_kept ..

theorem serveDrop_kept : EngineKept s (serveDrop f s) := by
  simp only [serveDrop]
  repeat' split
  · exact s.refuse_kept ..
  · exact s.refuse_kept ..
  · exact (s.enterAbsent_kept ..).trans (State.accept_kept ..)

theorem serveDrowse_kept : EngineKept s (serveDrowse f s) := by
  simp only [serveDrowse]
  repeat' split
  iterate 3 exact s.refuse_kept ..
  exact .of_eq (by simp [beginDrowse]) (by simp [beginDrowse]) (by simp [beginDrowse])

/-- A WAKE puts a station of the part at the tail of the wake queue (R80). -/
theorem serveWake_kept : EngineKept s (serveWake f s) := by
  simp only [serveWake]
  repeat' split
  · exact s.refuse_kept ..
  · exact s.refuse_kept ..
  · next good _ =>
    refine ⟨⟨by simp [beginWake], fun a ha => ?_⟩, by simp [beginWake]⟩
    simp only [beginWake, State.enter_stations, State.onStation_stations, StationManager.set_wakeQueue,
      State.moveStation_wakeQueue, List.mem_append, List.mem_singleton] at ha
    obtain ha | rfl := ha
    · exact .inl ha
    · exact .inr (by simpa using good)

theorem serveTrim_kept : EngineKept s (serveTrim f s) := by
  simp only [serveTrim]
  repeat' split
  iterate 4 exact s.refuse_kept ..
  exact .of_eq (by simp) (by simp) (by simp)

theorem servePolicy_kept : EngineKept s (servePolicy f s) := by
  simp only [servePolicy]
  repeat' split
  · exact s.refuse_kept ..
  · exact s.refuse_kept ..
  · exact .of_eq (by simp) (by simp) (by simp)

theorem serveCall_kept : EngineKept s (serveCall f s) := by
  simp only [serveCall]
  repeat' split
  iterate 5 exact s.refuse_kept ..
  exact .of_eq (by simp [beginCall]) (by simp [beginCall]) (by simp [beginCall])

theorem serveClearFault_kept : EngineKept s (serveClearFault f s) := by
  simp only [serveClearFault]
  split
  · exact s.refuse_kept ..
  · exact .of_eq (by simp) (by simp) (by simp)

theorem serveStationInfo_kept : EngineKept s (serveStationInfo f s) := by
  simp only [serveStationInfo]
  split
  · exact s.refuse_kept ..
  · exact s.accept_kept ..

/-! ### The requests of the plans and the streams -/

theorem serveOpenStream_kept : EngineKept s (serveOpenStream f s) := by
  simp only [serveOpenStream]
  repeat' split
  iterate 5 exact s.refuse_kept ..
  all_goals exact .of_eq (by simp) (by simp) (by simp)

theorem serveCloseStream_kept : EngineKept s (serveCloseStream f s) := by
  simp only [serveCloseStream]
  repeat' split
  iterate 3 exact s.refuse_kept ..
  all_goals exact .of_eq (by simp) (by simp) (by simp)

theorem serveCommit_kept : EngineKept s (serveCommit f s) := by
  simp only [serveCommit]
  repeat' split
  iterate 3 exact s.refuse_kept ..
  exact .of_eq (by simp) (by simp) (by simp)

theorem serveDiscard_kept : EngineKept s (serveDiscard f s) := by
  have streams : EngineKept s (streamIds.foldl discardStream s) :=
    .foldl (fun t id => .of_eq (by simp) (by simp) (by simp)) _ _
  simp only [serveDiscard]
  split
  · exact s.refuse_kept ..
  · exact streams.trans (.of_eq (by simp) (by simp) (by simp))

theorem serveWrite_kept : EngineKept s (serveWrite f s) := by
  simp only [serveWrite]
  repeat' split
  iterate 2 exact s.refuse_kept ..
  exact .of_eq (by simp) (by simp) (by simp)

theorem serveStreamInfo_kept : EngineKept s (serveStreamInfo f s) := by
  simp only [serveStreamInfo]
  split
  · exact s.refuse_kept ..
  · split <;> exact .of_eq (by simp) (by simp) (by simp)

end

/-- What a take can do: nothing, a refusal by the port's own tests, or the service of the frame (R150, R151). -/
theorem takeRequest_cases {k : ReqKind} {serve : ReqFrame → State → State} {s t : State}
    (h : takeRequest k serve s = .next t) :
    t = s ∨ ∃ f, s.port.rstnLow = false ∧ ((∃ st, t = s.popIntake.refuse k f st) ∨ t = serve f s.popIntake) := by
  cases low : s.port.rstnLow with
  | true =>
    rw [takeRequest, whileReleased_low low, Host.Outcome.next.injEq] at h
    exact .inl h.symm
  | false =>
    rw [takeRequest, whileReleased_of low, Host.Outcome.next.injEq] at h
    subst h
    split
    · exact .inl rfl
    · next f _ =>
      split
      · refine .inr ⟨f, rfl, ?_⟩
        unfold serveFrame
        split
        · next st _ => exact .inl ⟨st, rfl⟩
        · exact .inr rfl
      · exact .inl rfl

theorem State.popIntake_kept (s : State) : EngineKept s s.popIntake := .of_eq rfl rfl rfl

/-- The take of a request whose service leaves the engine alone. -/
theorem takeRequest_kept {k : ReqKind} {serve : ReqFrame → State → State} {s t : State}
    (hs : ∀ f s, EngineKept s (serve f s)) (h : takeRequest k serve s = .next t) : EngineKept s t := by
  obtain rfl | ⟨f, -, ⟨st, rfl⟩ | rfl⟩ := takeRequest_cases h
  · exact .refl _
  · exact s.popIntake_kept.trans (State.refuse_kept ..)
  · exact s.popIntake_kept.trans (hs ..)

/-! ## The host port (chapter 8) -/

theorem HostPort.settle_rstnLow (r : Scan) (p : HostPort) : (p.settle r).rstnLow = p.rstnLow := by
  have discards : ∀ (l : List Nat) (q : HostPort), (l.foldl (fun p _ => p.countDiscard) q).rstnLow = q.rstnLow :=
    foldl_same (p := HostPort.rstnLow) fun _ _ => rfl
  have places : ∀ (l : List ReqFrame) (q : HostPort), (l.foldl HostPort.place q).rstnLow = q.rstnLow :=
    foldl_same (p := HostPort.rstnLow) fun q f => by
      unfold HostPort.place
      split <;> rfl
  rw [HostPort.settle, discards, places]

/-- Outside the reset a meaning that changes the port alone, and not its pin. -/
theorem whileReleased_kept {s t : State} {f : State → State} (hf : EngineKept s (f s))
    (h : whileReleased s f = .next t) : EngineKept s t := by
  unfold whileReleased at h
  obtain rfl := Host.Outcome.next.inj h
  split
  · exact .refl s
  · exact hf

theorem receive_kept {s t : State} {err : Bool} {bytes : List Byte}
    (h : whileReleased s (fun s => { s with port := s.port.receive err bytes }) = .next t) : EngineKept s t :=
  whileReleased_kept (f := fun s => { s with port := s.port.receive err bytes })
    (.of_eq rfl (HostPort.settle_rstnLow ..) rfl) h

theorem gapLimit_kept {s t : State}
    (h : whileReleased s (fun s => { s with port := s.port.gapLimit }) = .next t) : EngineKept s t :=
  whileReleased_kept (f := fun s => { s with port := s.port.gapLimit })
    (.of_eq rfl (HostPort.settle_rstnLow ..) rfl) h

theorem execReplyStart_kept {s t : State} (h : execReplyStart s = .next t) : EngineKept s t := by
  refine whileReleased_kept ?_ h
  split
  · exact .of_eq rfl rfl rfl
  all_goals exact .refl s

theorem execNoticeStart_kept {s t : State} (h : execNoticeStart s = .next t) : EngineKept s t := by
  refine whileReleased_kept ?_ h
  repeat' split
  · unfold startNotice
    split <;> exact .of_eq (by simp) (by simp) (by simp)
  all_goals exact .refl s

theorem execMessageEnd_kept {s t : State} (h : execMessageEnd s = .next t) : EngineKept s t := by
  have sent : s.port.replySent.rstnLow = s.port.rstnLow := by
    unfold HostPort.replySent
    split <;> rfl
  refine whileReleased_kept ?_ h
  split
  · exact .refl s
  · exact .of_eq rfl rfl rfl
  · exact .of_eq rfl sent rfl

theorem execBadKindFrame_kept {s t : State} (h : execBadKindFrame s = .next t) : EngineKept s t := by
  refine whileReleased_kept ?_ h
  repeat' split
  · exact .refl s
  · exact .of_eq (by simp) (by simp) (by simp)
  · exact .refl s

end Sys2Proof.Machine
end

section

namespace Sys2Proof.Machine

/-! ## What a command can do to the Frame Engine -/

/-- The rows that are a frame start, and TRUNK STOP, whose take in the gap has one before it (log entries 9, 10). -/
def startsFrames (c : Instr) : Prop :=
  c ∈ [.frameStart, .planSwap, .trunkStop] ∨ ∃ a, c = .trimDue a ∨ c = .quietSpanEnd a

/-- The events of the Frame Engine: each says what a command makes of the engine, and when. -/
inductive EngineEvent (c : Instr) (s t : State) : Prop
  | kept (h : EngineKept s t)
  /-- R6, R7 -/
  | setup (u : Setup) (kept : WakesKept s t) (engine : t.engine = { s.engine with setup := u })
      (range : setupInRange u.service u.command u.window u.missLimit u.mode.code = true)
  /-- R8 -/
  | starts (kept : WakesKept s t)
      (engine : t.engine = { s.engine with trunk := .starting, countdown := Config.startFrames })
      (trunk : s.engine.trunk = .stopped) (below : s.engine.frameNumber < Config.lastFrame)
  /-- R3, R4, R81 -/
  | frameStarts (wake : Nat) (kept : WakesKept s t) (engine : t.engine = s.engine.started wake)
      (row : startsFrames c) (due : s.frameDue = true) (named : wake = 0 ∨ wake ∈ s.stations.wakeQueue)
  /-- R10 -/
  | stops (kept : WakesKept s t) (engine : t.engine = { s.engine with trunk := .stopping, countdown := 0 })
      (trunk : s.engine.trunk = .starting ∨ s.engine.trunk = .running) (low : s.port.rstnLow = false)
      (busy : s.frameDue = false)
  /-- R10 in the gap between two frames (log entry 10) -/
  | stopsInGap (wake : Nat) (kept : WakesKept s t)
      (engine : t.engine = { s.engine.started wake with trunk := .stopping, countdown := 0 })
      (row : startsFrames c) (due : s.frameDue = true) (named : wake = 0 ∨ wake ∈ s.stations.wakeQueue)
  /-- 1.8 to 1.11; the pairs' slots lie within the frame while the setup is in range -/
  | slot (n : Nat) (line : Option Word) (kept : WakesKept s t) (engine : t.engine = s.engine.atSlot n line)
      (bound : s.engine.setup.service ≤ 4 → n ≤ Config.slots)
  /-- R3, R9, R11 -/
  | frameEnds (kept : WakesKept s t) (engine : t.engine = s.engine.ended) (frame : s.engine.frame.isSome = true)
  /-- R5, R162 -/
  | cutOff (low : t.port.rstnLow = true) (engine : t.engine = s.engine.between) (stations : t.stations = s.stations)
  /-- R5, R161, R162 -/
  | reset (engine : t.engine = FrameEngine.reset) (stations : t.stations = StationManager.reset)
      (row : c = .resetPoint ∨ ∃ bds1 bds0, c = .powerOn bds1 bds0)

/-! ### The rows of each event -/

/-- What a meaning in the shell answers: the state itself, or what it does while RSTN is released. -/
theorem whileReleased_cases {s t : State} {f : State → State} (h : whileReleased s f = .next t) :
    t = s ∨ (s.port.rstnLow = false ∧ t = f s) := by
  cases low : s.port.rstnLow with
  | true =>
    rw [whileReleased_low low, Host.Outcome.next.injEq] at h
    exact .inl h.symm
  | false =>
    rw [whileReleased_of low, Host.Outcome.next.injEq] at h
    exact .inr ⟨rfl, h.symm⟩

/-- A meaning behind a guard does nothing or what it means. -/
theorem guarded_cases {s t : State} {p : State → Prop} {_ : DecidablePred p} {f : State → State}
    (h : whileReleased s (fun s => if p s then f s else s) = .next t) : t = s ∨ (p s ∧ t = f s) := by
  obtain rfl | ⟨-, rfl⟩ := whileReleased_cases h
  · exact .inl rfl
  · split
    · next hp => exact .inr ⟨hp, rfl⟩
    · exact .inl rfl

theorem forStation_next {a : Nat} {o : Out} {t : State} (h : forStation a o = .next t) : o = .next t := by
  unfold forStation at h
  split at h
  · exact h
  · simp at h

theorem forPair_next {k : Nat} {o : Out} {t : State} (h : forPair k o = .next t) : goodPair k = true ∧ o = .next t := by
  unfold forPair at h
  split at h
  · next good => exact ⟨good, h⟩
  · simp at h

theorem forSlot_next {k : Nat} {o : Out} {t : State} (h : forSlot k o = .next t) : goodSlot k = true ∧ o = .next t := by
  unfold forSlot at h
  split at h
  · next good => exact ⟨good, h⟩
  · simp at h

/-- The wake address of a frame that starts is 0 or the head of the wake queue (R81). -/
theorem frameStart_named (s : State) : ∃ wake, (frameStart s).engine = s.engine.started wake ∧
    (wake = 0 ∨ wake ∈ s.stations.wakeQueue) := by
  refine ⟨_, frameStart_engine s, ?_⟩
  split
  · cases s.stations.wakeQueue with
    | nil => exact .inl rfl
    | cons a rest => exact .inr List.mem_cons_self
  · exact .inl rfl

/-- A row that is a frame start where it is due (log entry 9). -/
theorem EngineEvent.of_frameStart {c : Instr} {s t : State} {p : State → Prop} {_ : DecidablePred p}
    (row : startsFrames c) (due : p s → s.frameDue = true)
    (h : whileReleased s (fun s => if p s then frameStart s else s) = .next t) : EngineEvent c s t := by
  obtain rfl | ⟨hp, rfl⟩ := guarded_cases h
  · exact .kept (.refl _)
  · obtain ⟨wake, engine, named⟩ := frameStart_named s
    exact .frameStarts wake (frameStart_wakes s) engine row (due hp) named

/-- A row that is a frame end (log entry 9). -/
theorem EngineEvent.of_frameEnd {c : Instr} {s t : State} {p : State → Prop} {_ : DecidablePred p}
    (frame : p s → s.engine.frame.isSome = true)
    (h : whileReleased s (fun s => if p s then frameEnd s else s) = .next t) : EngineEvent c s t := by
  obtain rfl | ⟨hp, ht⟩ := guarded_cases h
  · exact .kept (.refl _)
  · exact .frameEnds (ht ▸ frameEnd_wakes s) (ht ▸ frameEnd_engine s) (frame hp)

/-- A row that is a slot event. -/
theorem EngineEvent.of_slotRow {c : Instr} {s t : State} {slot : Nat} {isRow : State → Bool} {line : Option Word}
    (bound : s.engine.setup.service ≤ 4 → slot + 1 ≤ Config.slots) (h : slotRow slot isRow line s = .next t) :
    EngineEvent c s t := by
  obtain rfl | ⟨-, rfl⟩ := whileReleased_cases h
  · exact .kept (.refl _)
  · split
    · exact .kept (.refl _)
    · split
      · obtain ⟨l, engine⟩ := slotEvent_passSlots_engine slot line s
        exact .slot (slot + 1) l ((passSlots_wakes ..).trans (slotEvent_wakes ..)) engine bound
      · exact .kept (.refl _)

/-- A row of a pair's slot: the pairs' slots are at most 16 while the setup is in range (R1). -/
theorem EngineEvent.of_pairSlot {c : Instr} {s t : State} {k slot : Nat} {isRow : State → Bool} {line : Option Word}
    (bound : slot ≤ 2 * s.engine.setup.service + 2 * k ∨ slot ≤ 2 * k)
    (h : forPair k (slotRow slot isRow line s) = .next t) : EngineEvent c s t := by
  obtain ⟨good, h⟩ := forPair_next h
  have pair : 1 ≤ k ∧ k ≤ 4 := by simpa [goodPair] using good
  exact .of_slotRow (fun service => by simp only [Config.slots]; omega) h

theorem EngineEvent.of_streamSlot {c : Instr} {s t : State} {slot : Nat} {isRow : State → Bool} {line : Option Word}
    (h : forSlot slot (slotRow slot isRow line s) = .next t) : EngineEvent c s t := by
  obtain ⟨good, h⟩ := forSlot_next h
  have inFrame : 1 ≤ slot ∧ slot ≤ 31 := by simpa [goodSlot] using good
  exact .of_slotRow (fun _ => by simp only [Config.slots]; omega) h

theorem setupInRange_setup {f : ReqFrame}
    (h : setupInRange (f.param 0) (f.param 1) (f.param 2) (f.param 3) (f.param 4) = true) :
    setupInRange f.setup.service f.setup.command f.setup.window f.setup.missLimit f.setup.mode.code = true := by
  have mode : f.setup.mode.code ≤ 1 := by
    cases f.setup.mode <;> decide
  rw [setupInRange_iff] at h ⊢
  obtain ⟨h1, h2, h3, h4, h5, h6, h7, h8, -⟩ := h
  exact ⟨h1, h2, h3, h4, h5, h6, h7, h8, mode⟩

theorem EngineEvent.of_trunkSetup {s t : State} (h : execTrunkSetup s = .next t) : EngineEvent .trunkSetup s t := by
  obtain rfl | ⟨f, -, ⟨st, rfl⟩ | rfl⟩ := takeRequest_cases h
  · exact .kept (.refl _)
  · exact .kept (s.popIntake_kept.trans (State.refuse_kept ..))
  · unfold serveTrunkSetup
    repeat' split
    iterate 3 exact .kept (s.popIntake_kept.trans (State.refuse_kept ..))
    next good _ _ =>
    exact .setup f.setup (.of_eq rfl rfl) rfl (setupInRange_setup (by simpa using good))

theorem EngineEvent.of_trunkStart {s t : State} (h : execTrunkStart s = .next t) : EngineEvent .trunkStart s t := by
  obtain rfl | ⟨f, -, ⟨st, rfl⟩ | rfl⟩ := takeRequest_cases h
  · exact .kept (.refl _)
  · exact .kept (s.popIntake_kept.trans (State.refuse_kept ..))
  · unfold serveTrunkStart
    split
    · next start => exact .starts (.of_eq rfl rfl) rfl start.1 start.2
    · exact .kept (s.popIntake_kept.trans (State.refuse_kept ..))

theorem EngineEvent.of_trunkStop {s t : State} (h : execTrunkStop s = .next t) : EngineEvent .trunkStop s t := by
  obtain rfl | ⟨f, low, ⟨st, rfl⟩ | rfl⟩ := takeRequest_cases h
  · exact .kept (.refl _)
  · exact .kept (s.popIntake_kept.trans (State.refuse_kept ..))
  · unfold serveTrunkStop
    split
    · next making =>
      cases due : s.popIntake.frameDue with
      | false => exact .stops (.of_eq rfl rfl) rfl making low due
      | true =>
        obtain ⟨wake, engine, named⟩ := frameStart_named s.popIntake
        have stopped : WakesKept (frameStart s.popIntake)
          ((beginStop (frameStart s.popIntake)).enter (outstanding .trunkStop f none .awaitingFrame)) := .of_eq rfl rfl
        refine .stopsInGap wake ((s.popIntake_kept.toWakesKept.trans (frameStart_wakes _)).trans stopped) ?_
          (.inl (by decide)) due named
        simp only [if_true, State.enter_engine, beginStop, engine, State.popIntake_engine]
    · exact .kept (s.popIntake_kept.trans (State.refuse_kept ..))

theorem EngineEvent.of_resetPoint {s t : State} (h : execResetPoint s = .next t) : EngineEvent .resetPoint s t := by
  obtain rfl | ⟨-, rfl⟩ := guarded_cases h
  · exact .kept (.refl _)
  · exact .reset rfl rfl (.inl rfl)

/-! ### Every command is one of these events -/

theorem exec_engineEvent {c : Instr} {s t : State} (h : exec c s = .next t) : EngineEvent c s t := by
  cases c with
  | powerOn bds1 bds0 =>
    obtain rfl := Host.Outcome.next.inj h
    exact .reset rfl rfl (.inr ⟨bds1, bds0, rfl⟩)
  | rstnLow =>
    obtain rfl := Host.Outcome.next.inj h
    exact .cutOff rfl rfl rfl
  | resetPoint => exact .of_resetPoint h
  | receiveFrame bytes => exact .kept (receive_kept h)
  | gapLimitExpiry => exact .kept (gapLimit_kept h)
  | syncByteReceived => exact .kept (receive_kept h)
  | badLengthByte b => exact .kept (receive_kept h)
  | framingErrorByte b => exact .kept (receive_kept h)
  | badKindFrame => exact .kept (execBadKindFrame_kept h)
  | replyStart => exact .kept (execReplyStart_kept h)
  | noticeStart => exact .kept (execNoticeStart_kept h)
  | messageEnd => exact .kept (execMessageEnd_kept h)
  | hello => exact .kept (takeRequest_kept (fun f s => s.accept_kept f ..) h)
  | status => exact .kept (takeRequest_kept (fun f s => s.accept_kept f ..) h)
  | grant => exact .kept (takeRequest_kept serveGrant_kept h)
  | cancel => exact .kept (takeRequest_kept serveCancel_kept h)
  | restart => exact .kept (takeRequest_kept serveRestart_kept h)
  | trunkSetup => exact .of_trunkSetup h
  | trunkStart => exact .of_trunkStart h
  | trunkStop => exact .of_trunkStop h
  | enroll => exact .kept (takeRequest_kept serveEnroll_kept h)
  | drop => exact .kept (takeRequest_kept serveDrop_kept h)
  | drowse => exact .kept (takeRequest_kept serveDrowse_kept h)
  | wake => exact .kept (takeRequest_kept serveWake_kept h)
  | trim => exact .kept (takeRequest_kept serveTrim_kept h)
  | policy => exact .kept (takeRequest_kept servePolicy_kept h)
  | call => exact .kept (takeRequest_kept serveCall_kept h)
  | clearFault => exact .kept (takeRequest_kept serveClearFault_kept h)
  | stationInfo => exact .kept (takeRequest_kept serveStationInfo_kept h)
  | openStream => exact .kept (takeRequest_kept serveOpenStream_kept h)
  | closeStream => exact .kept (takeRequest_kept serveCloseStream_kept h)
  | commit => exact .kept (takeRequest_kept serveCommit_kept h)
  | discard => exact .kept (takeRequest_kept serveDiscard_kept h)
  | planInfo => exact .kept (takeRequest_kept (fun f s => s.accept_kept f ..) h)
  | write => exact .kept (takeRequest_kept serveWrite_kept h)
  | streamInfo => exact .kept (takeRequest_kept serveStreamInfo_kept h)
  | frameStart => exact .of_frameStart (.inl (by decide)) id (show execFrameStart s = _ from h)
  | planSwap => exact .of_frameStart (.inl (by decide)) And.left (show execPlanSwap s = _ from h)
  | trimDue a => exact .of_frameStart (.inr ⟨a, .inl rfl⟩) And.left (forStation_next h)
  | quietSpanEnd a => exact .of_frameStart (.inr ⟨a, .inr rfl⟩) And.left (forStation_next h)
  | frameEnd => exact .of_frameEnd id (show execFrameEnd s = _ from h)
  | startingEnd => exact .of_frameEnd And.left (show execStartingEnd s = _ from h)
  | trunkStopComplete => exact .of_frameEnd And.left (show execTrunkStopComplete s = _ from h)
  | frameNumberExhausted => exact .of_frameEnd And.left (show execFrameNumberExhausted s = _ from h)
  | wakeLatencyEnd a => exact .of_frameEnd And.left (forStation_next h)
  | beaconSlot line => exact .of_slotRow (slot := 0) (fun _ => by decide) (show execBeaconSlot line s = _ from h)
  | serviceDownSlot k line => exact .of_pairSlot (.inr (Nat.sub_le ..)) h
  | serviceUpSlot k line => exact .of_pairSlot (.inr le_rfl) h
  | commandDownSlot j line => exact .of_pairSlot (.inl (Nat.sub_le ..)) h
  | commandUpSlot j line => exact .of_pairSlot (.inl le_rfl) h
  | responseWindowExpiry j => exact .of_pairSlot (.inl le_rfl) h
  | streamDownSlot k line => exact .of_streamSlot h
  | streamUpSlot k line => exact .of_streamSlot h
  | unexpectedWordSlot k w => exact .of_streamSlot h

/-! ## The frame number (R3) -/

theorem FrameEngine.ended_frameNumber (e : FrameEngine) : e.ended.frameNumber = e.frameNumber := by
  unfold FrameEngine.ended
  repeat' split
  all_goals rfl

/-- Settles O60, event by event. -/
theorem frameNumberRisesByOne : Obligations.FrameNumberRisesByOne := by
  intro c s t h
  cases exec_engineEvent h with
  | kept kept => exact .inl (by rw [kept.engine])
  | setup u _ engine _ => exact .inl (by rw [engine])
  | starts _ engine _ _ => exact .inl (by rw [engine])
  | frameStarts wake _ engine row _ _ => exact .inr (.inl ⟨by rw [engine]; rfl, row⟩)
  | stops _ engine _ _ _ => exact .inl (by rw [engine])
  | stopsInGap wake _ engine row _ _ => exact .inr (.inl ⟨by rw [engine]; rfl, row⟩)
  | slot n line _ engine _ => exact .inl (by rw [engine]; rfl)
  | frameEnds _ engine _ => exact .inl (by rw [engine, FrameEngine.ended_frameNumber])
  | cutOff _ engine _ => exact .inl (by rw [engine]; rfl)
  | reset engine _ row => exact .inr (.inr ⟨by rw [engine]; rfl, row⟩)

end Sys2Proof.Machine
end

section

namespace Sys2Proof.Machine

/-! ## The ranges of the Frame Engine (R3 to R11) -/

/-- What EngineSound says of the engine itself; `low` is the RSTN pin. -/
structure FrameEngine.Sound (low : Bool) (e : FrameEngine) : Prop where
  number : e.frameNumber ≤ Config.lastFrame
  setup : setupInRange e.setup.service e.setup.command e.setup.window e.setup.missLimit e.setup.mode.code = true
  countdown : if e.trunk = .starting then 1 ≤ e.countdown ∧ e.countdown ≤ Config.startFrames else e.countdown = 0
  stopped : e.trunk = .stopped → e.frame = none
  gap : low = false → e.frame = none →
    e.trunk ≠ .stopping ∧ (e.trunk ≠ .stopped → e.frameNumber < Config.lastFrame)
  frame : ∀ fr ∈ e.frame, fr.nextSlot ≤ Config.slots ∧ fr.wakeAddress ≤ 15

theorem engineSound_iff {s : State} : EngineSound s ↔
    s.engine.Sound s.port.rstnLow ∧ ∀ a ∈ s.stations.wakeQueue, goodStation a = true :=
  ⟨fun ⟨h1, h2, h3, h4, h5, h6, h7⟩ => ⟨⟨h1, h2, h3, h4, h5, h6⟩, h7⟩,
    fun ⟨⟨h1, h2, h3, h4, h5, h6⟩, h7⟩ => ⟨h1, h2, h3, h4, h5, h6, h7⟩⟩

namespace FrameEngine.Sound

variable {low : Bool} {e : FrameEngine} (h : e.Sound low)
include h

theorem withSetup {u : Setup}
    (range : setupInRange u.service u.command u.window u.missLimit u.mode.code = true) :
    ({ e with setup := u } : FrameEngine).Sound low :=
  ⟨h.number, range, h.countdown, h.stopped, h.gap, h.frame⟩

theorem starts (trunk : e.trunk = .stopped) (below : e.frameNumber < Config.lastFrame) :
    ({ e with trunk := .starting, countdown := Config.startFrames } : FrameEngine).Sound low where
  number := h.number
  setup := h.setup
  countdown := by simp
  stopped := fun starting => by simp at starting
  gap := fun _ _ => ⟨by simp, fun _ => below⟩
  frame := by simp [h.stopped trunk]

/-- A frame start is due only below the last frame number, in a trunk that makes frames (R3, R4). -/
theorem started {wake : Nat} (below : e.frameNumber < Config.lastFrame) (trunk : e.trunk ≠ .stopped)
    (hw : wake ≤ 15) : (e.started wake).Sound low where
  number := below
  setup := h.setup
  countdown := h.countdown
  stopped := fun stopped => absurd stopped trunk
  gap := fun _ none => by simp [FrameEngine.started] at none
  frame := by simp [FrameEngine.started, hw]

/-- A stop begins in a frame; in a gap the frame that is due is started first (R10, log entry 10). -/
theorem stops (frame : low = false → e.frame ≠ none) :
    ({ e with trunk := .stopping, countdown := 0 } : FrameEngine).Sound low where
  number := h.number
  setup := h.setup
  countdown := rfl
  stopped := fun stopping => by simp at stopping
  gap := fun hl none => absurd none (frame hl)
  frame := h.frame

theorem atSlot {n : Nat} (hn : n ≤ Config.slots) (line : Option Word) : (e.atSlot n line).Sound low where
  number := h.number
  setup := h.setup
  countdown := h.countdown
  stopped := fun stopped => by simp [FrameEngine.atSlot, h.stopped stopped]
  gap := fun hl none => h.gap hl (Option.map_eq_none_iff.mp none)
  frame := fun fr hf => by
    obtain ⟨fr', hf', rfl⟩ := Option.map_eq_some_iff.mp hf
    exact ⟨hn, (h.frame fr' hf').2⟩

/-- With no frame in progress and none missing the ranges are those of the number and the countdown. -/
theorem between (gap : low = false → e.trunk ≠ .stopping ∧ (e.trunk ≠ .stopped → e.frameNumber < Config.lastFrame)) :
    e.between.Sound low where
  number := h.number
  setup := h.setup
  countdown := h.countdown
  stopped := fun _ => rfl
  gap := fun hl _ => gap hl
  frame := by simp [FrameEngine.between]

theorem halted : ({ e.between with trunk := .stopped, countdown := 0 } : FrameEngine).Sound low where
  number := h.number
  setup := h.setup
  countdown := rfl
  stopped := fun _ => rfl
  gap := fun _ _ => ⟨by simp, fun running => absurd rfl running⟩
  frame := by simp [FrameEngine.between]

/-- Below the last frame the countdown of STARTING falls to RUNNING (R9). -/
theorem ticks (trunk : e.trunk = .starting) (below : e.frameNumber < Config.lastFrame) :
    ({ e.between with countdown := e.countdown - 1,
                      trunk := if e.countdown - 1 = 0 then .running else .starting } : FrameEngine).Sound low where
  number := h.number
  setup := h.setup
  countdown := by
    have bounds := h.countdown
    rw [if_pos trunk] at bounds
    by_cases last : e.countdown - 1 = 0
    · simp [last]
    · simp only [last, if_false, if_true]
      omega
  stopped := fun _ => rfl
  gap := fun _ _ => ⟨by split <;> simp, fun _ => below⟩
  frame := by simp [FrameEngine.between]

/-- A frame end keeps the ranges (R3, R9, R11). -/
theorem ended : e.ended.Sound low := by
  have below : e.frameNumber ≠ Config.lastFrame → e.frameNumber < Config.lastFrame := Nat.lt_of_le_of_ne h.number
  cases ht : e.trunk with
  | stopped =>
    have run : e.ended = e.between := by simp only [FrameEngine.ended, ht]
    exact run ▸ h.between fun _ => by simp [ht]
  | stopping => exact FrameEngine.ended_stops (.inl ht) ▸ h.halted
  | starting =>
    by_cases last : e.frameNumber = Config.lastFrame
    · exact FrameEngine.ended_stops (.inr ⟨last, .inl ht⟩) ▸ h.halted
    · exact FrameEngine.ended_starting ht (below last) ▸ h.ticks ht (below last)
  | running =>
    by_cases last : e.frameNumber = Config.lastFrame
    · exact FrameEngine.ended_stops (.inr ⟨last, .inr ht⟩) ▸ h.halted
    · exact FrameEngine.ended_running ht (below last) ▸ h.between fun _ => by simp [ht, below last]

end FrameEngine.Sound

theorem FrameEngine.reset_sound (low : Bool) : FrameEngine.reset.Sound low where
  number := by decide
  setup := by decide
  countdown := by decide
  stopped := fun _ => rfl
  gap := fun _ _ => ⟨by decide, fun h => absurd rfl h⟩
  frame := by simp [FrameEngine.reset]

/-! ### Every command keeps the ranges -/

theorem State.frameDue_iff {s : State} : s.frameDue = true ↔
    s.engine.frame = none ∧ (s.engine.trunk = .starting ∨ s.engine.trunk = .running) ∧
      s.engine.frameNumber < Config.lastFrame := by
  simp [State.frameDue, and_assoc]

/-- A wake address that a frame takes from the queue names a station, or is 0. -/
theorem wake_le {s : State} {wake : Nat} (good : ∀ a ∈ s.stations.wakeQueue, goodStation a = true)
    (named : wake = 0 ∨ wake ∈ s.stations.wakeQueue) : wake ≤ 15 := by
  obtain rfl | h := named
  · omega
  · have := good wake h
    simp only [goodStation, Bool.and_eq_true, decide_eq_true_eq] at this
    exact this.2

theorem EngineEvent.keeps_sound {c : Instr} {s t : State} (h : EngineEvent c s t) (hs : EngineSound s) :
    EngineSound t := by
  obtain ⟨sound, good⟩ := engineSound_iff.mp hs
  have kept : ∀ {e : FrameEngine}, WakesKept s t → t.engine = e → e.Sound s.port.rstnLow → EngineSound t :=
    fun wakes engine he => engineSound_iff.mpr
      ⟨by rw [engine, wakes.low]; exact he, fun a ha => (wakes.wakes a ha).elim (good a) id⟩
  have started : ∀ {wake : Nat}, s.frameDue = true → (wake = 0 ∨ wake ∈ s.stations.wakeQueue) →
      (s.engine.started wake).Sound s.port.rstnLow := fun due named => by
    obtain ⟨-, trunk, below⟩ := State.frameDue_iff.mp due
    exact sound.started below (fun h => by simp [h] at trunk) (wake_le good named)
  cases h with
  | kept h => exact kept h.toWakesKept h.engine sound
  | setup u wakes engine range => exact kept wakes engine (sound.withSetup range)
  | starts wakes engine trunk below => exact kept wakes engine (sound.starts trunk below)
  | frameStarts wake wakes engine _ due named => exact kept wakes engine (started due named)
  | stops wakes engine trunk low busy =>
    refine kept wakes engine (sound.stops fun _ none => ?_)
    have below := (sound.gap low none).2 (fun h => by simp [h] at trunk)
    rw [State.frameDue_iff.mpr ⟨none, trunk, below⟩] at busy
    exact absurd busy (by decide)
  | stopsInGap wake wakes engine _ due named =>
    exact kept wakes engine ((started due named).stops fun _ => by simp [FrameEngine.started])
  | slot n line wakes engine bound =>
    have service := ((setupInRange_iff ..).mp sound.setup).2.1
    exact kept wakes engine (sound.atSlot (bound service) line)
  | frameEnds wakes engine _ => exact kept wakes engine sound.ended
  | cutOff low engine stations =>
    exact engineSound_iff.mpr ⟨by
      rw [engine, low]
      exact FrameEngine.Sound.between ⟨sound.number, sound.setup, sound.countdown, sound.stopped,
        fun h => absurd h (by decide), sound.frame⟩ fun h => absurd h (by decide), stations ▸ good⟩
  | reset engine stations _ =>
    exact engineSound_iff.mpr ⟨engine ▸ FrameEngine.reset_sound _, by simp [stations, StationManager.reset]⟩

/-- Settles O56: a step is one of the engine's events. -/
theorem engineStaysSound : Obligations.EngineStaysSound := by
  intro s t hs h
  cases hp : s.pending with
  | nil =>
    rw [step_nil hp] at h
    exact Host.Outcome.next.inj h ▸ hs
  | cons c rest =>
    rw [step_cons hp] at h
    exact (exec_engineEvent h).keeps_sound (s := { s with pending := rest }) hs

end Sys2Proof.Machine
end

section

namespace Sys2Proof.Machine

/-! ## Which requests an operation answers (R67, R68, R153) -/

/-- Between p and q the requests answered are of a class of kinds and targets, and rs are their replies, in order. -/
structure Answered (which : ReqKind → Option Nat → Prop) (rs : List Reply) (p q : HostPort) : Prop where
  replies : q.replies = p.replies ++ rs
  differ : q.tagsDiffer
  awaits : ∀ tag k target, ¬ which k target → p.awaits tag k target → q.awaits tag k target
  waiting : ∀ k target, ¬ which k target → q.waiting k target = p.waiting k target

namespace Answered

variable {which : ReqKind → Option Nat → Prop} {rs rs' : List Reply} {p q r : HostPort}

theorem refl (h : p.tagsDiffer) : Answered which [] p p := ⟨by simp, h, fun _ _ _ _ => id, fun _ _ _ => rfl⟩

theorem trans (h : Answered which rs p q) (k : Answered which rs' q r) : Answered which (rs ++ rs') p r where
  replies := by rw [k.replies, h.replies, List.append_assoc]
  differ := k.differ
  awaits := fun tag l target hn ha => k.awaits tag l target hn (h.awaits tag l target hn ha)
  waiting := fun l target hn => (k.waiting l target hn).trans (h.waiting l target hn)

theorem mono {which' : ReqKind → Option Nat → Prop} (h : Answered which rs p q)
    (sub : ∀ k target, which k target → which' k target) : Answered which' rs p q where
  replies := h.replies
  differ := h.differ
  awaits := fun tag k target hn => h.awaits tag k target (fun hw => hn (sub k target hw))
  waiting := fun k target hn => h.waiting k target (fun hw => hn (sub k target hw))

/-- The answer of one unanswered request. -/
theorem one (h : p.tagsDiffer) {tag : Byte} {k : ReqKind} {target : Option Nat} (ha : p.awaits tag k target)
    (hw : which k target) (st : Status) (b : ReplyBody) :
    Answered which [deferredReply k tag st b] p (p.answer tag st b) where
  replies := by rw [HostPort.answer_of_awaits h ha]
  differ := (HostPort.tagsDiffer_answer ..).mpr h
  awaits := fun tag' k' target' hn ha' => by
    refine HostPort.awaits_answer_of_ne (fun e => hn ?_) st b ha'
    obtain ⟨o, ho, htag, hkind, htarget, -⟩ := ha
    obtain ⟨o', ho', htag', hkind', htarget', -⟩ := ha'
    have same : o' = o := h.eq ho' ho (htag'.trans (e.trans htag.symm))
    rw [← hkind', ← htarget', same, hkind, htarget]
    exact hw
  waiting := fun k' target' hn =>
    HostPort.waiting_answer_of_ne h ha (fun ⟨hk, ht⟩ => hn (by rw [← hk, ← ht]; exact hw)) st b

end Answered

/-- The request of a kind and target that waits is answered, if there is one. -/
theorem State.answerKind_answered {s : State} (h : s.port.tagsDiffer) (k : ReqKind) (target : Option Nat) (st : Status)
    (b : ReplyBody) : Answered (fun l t => l = k ∧ t = target)
      ((s.port.waiting k target).toList.map (fun tag => deferredReply k tag st b)) s.port
      (s.answerKind k target st b).port := by
  unfold State.answerKind
  cases hw : s.port.waiting k target with
  | none => exact .refl h
  | some tag => exact .one h (HostPort.awaits_of_waiting hw) ⟨rfl, rfl⟩ st b

/-- The pending operation of a station is answered (R67, step 4). -/
theorem State.endOperation_answered {s : State} {a : Nat} (h : s.port.tagsDiffer)
    (owned : ∀ o ∈ (s.station a).operation, s.port.awaits o.2 o.1.request (some a)) (st : Status) (b : ReplyBody) :
    Answered (fun k t => k ≠ .trim ∧ k ≠ .call ∧ t = some a) (s.operationReply a st b) s.port
      (s.endOperation a st b).port := by
  unfold State.endOperation State.operationReply
  cases ho : (s.station a).operation with
  | none => exact .refl h
  | some o =>
    obtain ⟨operation, tag⟩ := o
    have kind : operation.request ≠ .trim ∧ operation.request ≠ .call := by cases operation <;> decide
    exact .one h (owned _ ho) ⟨kind.1, kind.2, rfl⟩ st b

/-- The pending host TRIM of a station is answered (R106, R107, R108). -/
theorem State.endHostTrim_answered {s : State} (h : s.port.tagsDiffer) (a : Nat) (st : Status) :
    Answered (fun k t => k = .trim ∧ t = some a) (s.hostTrimReply a st) s.port (s.endHostTrim a st .short).port := by
  unfold State.endHostTrim State.hostTrimReply
  split
  · exact State.answerKind_answered (s := s.onStation a _) h .trim (some a) st .short
  · exact .refl h

/-- The CALLs among a station's entries fail in their order (R124, R127). -/
theorem State.failCalls_answered {a : Nat} (st : Status) : ∀ (es : List Entry) {s : State}, s.port.tagsDiffer →
    (es.map (·.tag)).Nodup → (∀ e ∈ es, e.owner = .call → s.port.awaits e.tag .call (some a)) →
    Answered (fun k t => k = .call ∧ t = some a) (es.flatMap (Entry.failReply st)) s.port (s.failCalls es st).port := by
  intro es
  induction es with
  | nil => exact fun h _ _ => .refl h
  | cons e es ih =>
    intro s h apart owned
    obtain ⟨fresh, apart⟩ := List.nodup_cons.mp apart
    have first : Answered (fun k t => k = .call ∧ t = some a) (Entry.failReply st e) s.port (s.failCall e st).port := by
      unfold State.failCall Entry.failReply
      split
      · next call => exact .one h (owned e List.mem_cons_self call) ⟨rfl, rfl⟩ st _
      · exact .refl h
    refine first.trans (ih first.differ apart fun x hx call => ?_)
    have ha := owned x (List.mem_cons_of_mem e hx) call
    unfold State.failCall
    split
    · exact HostPort.awaits_answer_of_ne (fun same => fresh (List.mem_map.mpr ⟨x, hx, same⟩)) st _ ha
    · exact ha

/-! ## The work of a station and its replies (R68) -/

/-- The entries of a station's work: that in flight, then those queued. -/
def State.workEntries (s : State) (a : Nat) : List Entry :=
  (s.entryInFlight a).toList ++ s.calls.queue.filter (fun e => e.station == a)

/-- The work of station a stands for unanswered requests of the table, each for one. -/
structure OwnsWork (s : State) (a : Nat) : Prop where
  differ : s.port.tagsDiffer
  operation : ∀ o ∈ (s.station a).operation, s.port.awaits o.2 o.1.request (some a)
  calls : ∀ e ∈ s.workEntries a, e.owner = .call → s.port.awaits e.tag .call (some a)
  apart : ((s.workEntries a).map (·.tag)).Nodup

/-- What a station's work is, for its replies, does not depend on more than this. -/
theorem OwnsWork.congr {s t : State} {a : Nat} (h : OwnsWork s a) (port : t.port = s.port)
    (operation : (t.station a).operation = (s.station a).operation) (entries : t.workEntries a = s.workEntries a) :
    OwnsWork t a where
  differ := port ▸ h.differ
  operation := by rw [operation, port]; exact h.operation
  calls := by rw [entries, port]; exact h.calls
  apart := by rw [entries]; exact h.apart

theorem State.entryInFlight_congr {s t : State} {a : Nat}
    (field : (t.station a).exchange = (s.station a).exchange) (calls : t.exchange = s.exchange) :
    t.entryInFlight a = s.entryInFlight a := by
  unfold State.entryInFlight
  rw [field, calls]

/-- The replies of failing CALLs depend on the port alone. -/
theorem State.failCalls_port (st : Status) : ∀ (es : List Entry) {s t : State}, t.port = s.port →
    (t.failCalls es st).port = (s.failCalls es st).port := by
  intro es
  induction es with
  | nil => exact fun h => h
  | cons e es ih =>
    intro s t h
    have first : (t.failCall e st).port = (s.failCall e st).port := by
      unfold State.failCall
      split
      · rw [State.answer_port, State.answer_port, h]
      · exact h
    exact ih first

/-- What the disposal of a station's work answers: the host TRIM, then the entries in flight and queued (R68). -/
theorem State.disposeWork_port (s : State) (a : Nat) (st : Status) :
    (s.disposeWork a st).port = ((s.endHostTrim a st .short).failCalls (s.workEntries a) st).port := by
  have flight : (s.endHostTrim a st .short).entryInFlight a = s.entryInFlight a :=
    State.entryInFlight_congr (State.endHostTrim_exchange_field ..) (State.endHostTrim_records ..).2
  have append : ∀ es es' (t : State), t.failCalls (es ++ es') st = (t.failCalls es st).failCalls es' st :=
    fun es es' t => List.foldl_append
  rw [State.disposeWork_eq, flight, State.workEntries, append]
  exact State.failCalls_port st _ (State.failCalls_port st _ (by simp))

/-- Where a station's work is owned its disposal answers it in the order of R68, and nothing else. -/
theorem State.disposeWork_answered {s : State} {a : Nat} (h : s.port.tagsDiffer)
    (calls : ∀ e ∈ s.workEntries a, e.owner = .call → s.port.awaits e.tag .call (some a))
    (apart : ((s.workEntries a).map (·.tag)).Nodup) (st : Status) :
    Answered (fun _ t => t = some a) (s.hostTrimReply a st ++ (s.workEntries a).flatMap (Entry.failReply st)) s.port
      (s.disposeWork a st).port := by
  have trim := State.endHostTrim_answered h a st
  have fails := State.failCalls_answered st (s.workEntries a) trim.differ apart
    (fun e he call => trim.awaits _ _ _ (by simp) (calls e he call))
  rw [State.disposeWork_port]
  exact (trim.mono fun _ _ => And.right).trans (fails.mono fun _ _ => And.right)

theorem State.workReplies_eq (s : State) (a : Nat) (o w : Status) :
    s.workReplies a o w = s.operationReply a o .short ++
      (s.hostTrimReply a w ++ (s.workEntries a).flatMap (Entry.failReply w)) := by
  simp only [State.workReplies, State.workEntries, State.queueReplies, List.flatMap_append, List.append_assoc]

/-! ### Entry to ABSENT or FAULTED -/

/-- Steps 1 to 4 of R67 leave the work that step 5 disposes of. -/
theorem State.operationEnded_work (s : State) (a : Nat) (new : StationState) (reason : Reason) (st : Status) :
    (s.operationEnded a new reason st).workEntries a = s.workEntries a ∧
    ((s.operationEnded a new reason st).station a).hostTrim = (s.station a).hostTrim := by
  have frame := s.operationEnded_frame a new reason st
  refine ⟨?_, ?_⟩
  · rw [State.workEntries, State.entryInFlight_congr (State.operationEnded_exchange_field ..) frame.2.2.2.2.2.2,
      frame.2.2.2.1, State.workEntries]
  · simp only [State.operationEnded, State.endOperation_station, State.moveStation_station]
    repeat' split
    all_goals rfl

/-- The pending operation's reply is the first of the work's replies (R68). -/
theorem State.operationEnded_answered {s : State} {a : Nat} (h : OwnsWork s a) (new : StationState) (reason : Reason)
    (st : Status) : Answered (fun k t => k ≠ .trim ∧ k ≠ .call ∧ t = some a) (s.operationReply a st .short) s.port
      (s.operationEnded a new reason st).port := by
  have port : (s.moveStation a new reason).port = s.port := (s.moveStation_frame a new reason).2.2.2.2.2.1
  have field : ((s.moveStation a new reason).station a).operation = (s.station a).operation := by
    rw [State.moveStation_station]
    split <;> rfl
  have ends := State.endOperation_answered (s := s.moveStation a new reason) (a := a) (by rw [port]; exact h.differ)
    (by rw [field, port]; exact h.operation) st .short
  have reply : (s.moveStation a new reason).operationReply a st .short = s.operationReply a st .short := by
    unfold State.operationReply
    rw [field]
  rw [port, reply] at ends
  exact ends

/-- A state t whose port is that of a station's ended operation, and whose work is that of s, is disposed of with the
replies of all the work. -/
theorem OwnsWork.disposed {s t : State} {a : Nat} {o w : Status} (h : OwnsWork s a)
    (ended : Answered (fun k t => k ≠ .trim ∧ k ≠ .call ∧ t = some a) (s.operationReply a o .short) s.port t.port)
    (entries : t.workEntries a = s.workEntries a)
    (flag : (t.station a).hostTrim = (s.station a).hostTrim) :
    Answered (fun _ t => t = some a) (s.workReplies a o w) s.port (t.disposeWork a w).port := by
  have trim : t.hostTrimReply a w = s.hostTrimReply a w := by
    unfold State.hostTrimReply
    rw [flag, ended.waiting .trim (some a) (by simp)]
  have disposed := State.disposeWork_answered (s := t) (a := a) ended.differ
    (fun e he call => ended.awaits _ _ _ (by simp) (h.calls e (entries ▸ he) call)) (entries ▸ h.apart) w
  rw [trim, entries] at disposed
  rw [State.workReplies_eq]
  exact (ended.mono fun _ _ hw => hw.2.2).trans disposed

theorem State.enterFaulted_answered {s : State} {a : Nat} (h : OwnsWork s a) (reason : Reason) (o w : Status) :
    Answered (fun _ t => t = some a) (s.workReplies a o w) s.port (s.enterFaulted a reason o w).port := by
  obtain ⟨entries, flag⟩ := s.operationEnded_work a .faulted reason o
  exact h.disposed (State.operationEnded_answered h .faulted reason o) entries flag

theorem State.enterAbsent_answered {s : State} {a : Nat} (h : OwnsWork s a) (reason : Reason) (o w : Status) :
    Answered (fun _ t => t = some a) (s.workReplies a o w) s.port (s.enterAbsent a reason o w).port := by
  obtain ⟨entries, flag⟩ := s.operationEnded_work a .absent reason o
  have cleared := (s.operationEnded a .absent reason o).clearStation_frame a
  rw [State.enterAbsent_eq]
  refine h.disposed (by rw [cleared.2.2.2.2.2.2.1]; exact State.operationEnded_answered h .absent reason o) ?_ ?_
  · rw [← entries, State.workEntries, State.workEntries, cleared.2.2.2.1,
      State.entryInFlight_congr (State.clearStation_exchange_field ..) cleared.2.2.2.2.2.2.2.1]
  · rw [← flag, State.clearStation_station]
    split <;> rfl

/-! ### The invariants give every station its work -/

/-- The entry in flight of a station is the station's, and one of those the command pairs hold (R69). -/
theorem entryInFlight_mem {s : State} {a : Nat} (backs : ∀ p ∈ (s.station a).exchange, s.backs a p = true) {e : Entry}
    (he : s.entryInFlight a = some e) :
    e.station = a ∧ e ∈ (pairNumbers.filterMap s.exchange).map (·.entry) := by
  obtain ⟨p, hpair, he⟩ := Option.bind_eq_some_iff.mp he
  have back := backs p hpair
  cases p with
  | service k => simp at he
  | command j =>
    obtain ⟨x, hx, rfl⟩ := Option.map_eq_some_iff.mp he
    simp only [State.backs, hx, Option.any_some, beq_iff_eq] at back
    exact ⟨back, List.mem_map.mpr ⟨x, List.mem_filterMap.mpr ⟨j, State.exchange_mem hx, hx⟩, rfl⟩⟩

/-- Under the invariants of the port and of its work every station's work is owned. -/
theorem ownsWork_of_invariants {s : State} {a : Nat} (hp : PortBounded s) (hw : WorkOwned s)
    (low : s.port.rstnLow = false) (ha : a ∈ addresses) : OwnsWork s a := by
  obtain ⟨-, -, -, differ, -⟩ := hp
  obtain ⟨⟨apart, owned⟩, ⟨-, -, backs⟩, ⟨operations, -⟩, -, -⟩ := hw low
  refine ⟨differ, fun o ho => (operations a ha o ho).1, fun e he call => ?_, ?_⟩
  · have member : e ∈ s.entries ∧ e.station = a := by
      obtain he | he := List.mem_append.mp he
      · obtain ⟨station, pairs⟩ := entryInFlight_mem (backs a ha) (by simpa using he)
        exact ⟨List.mem_append_right _ pairs, station⟩
      · obtain ⟨queued, station⟩ := List.mem_filter.mp he
        exact ⟨List.mem_append_left _ queued, by simpa using station⟩
    have awaited := (owned e member.1).2.1
    rwa [call, member.2] at awaited
  · have sub : (s.entryInFlight a).toList.Sublist ((pairNumbers.filterMap s.exchange).map (·.entry)) := by
      cases he : s.entryInFlight a with
      | none => exact List.nil_sublist _
      | some e => exact List.singleton_sublist.mpr (entryInFlight_mem (backs a ha) he).2
    have all : (((pairNumbers.filterMap s.exchange).map (·.entry) ++ s.calls.queue).map (·.tag)).Nodup :=
      (List.perm_append_comm.map _).nodup_iff.mp apart
    exact all.sublist ((sub.append List.filter_sublist).map _)

end Sys2Proof.Machine
end

section

namespace Sys2Proof.Machine

/-! ## The classes of a word that answers an order (R16) -/

theorem classify_odd {a : Nat} {w : Word} (accepts : Accepts) (h : oddParity w = true) :
    classify a accepts (some w) = .check w := by
  simp [classify, h]

theorem classify_done {a : Nat} {w : Word} (h : isReply a 1 w) :
    ∃ echo value, classify a .reply (some w) = .valid (.done echo value) := by
  obtain ⟨even, address, kind, status⟩ := h
  exact ⟨payloadAttr (wordPayload w), payloadValue (wordPayload w), by
    simp [classify, even, address, answerOf, answerOf.replyOf, kind, status]⟩

theorem classify_refused {a : Nat} {w : Word} (h : isReply a 2 w) :
    ∃ echo value, classify a .reply (some w) = .valid (.refused echo value) := by
  obtain ⟨even, address, kind, status⟩ := h
  exact ⟨payloadAttr (wordPayload w), payloadValue (wordPayload w), by
    simp [classify, even, address, answerOf, answerOf.replyOf, kind, status]⟩

theorem classify_unknownAttr {a : Nat} {w : Word} (h : isReply a 3 w) :
    classify a .reply (some w) = .valid .unknownAttr := by
  obtain ⟨even, address, kind, status⟩ := h
  simp [classify, even, address, answerOf, answerOf.replyOf, kind, status]

/-- A word of even parity that is no REPLY of the station is FOREIGN where only a REPLY is expected. -/
theorem classify_foreign {a : Nat} {w : Word} (even : oddParity w = false) (h1 : ¬ isReply a 1 w)
    (h2 : ¬ isReply a 2 w) (h3 : ¬ isReply a 3 w) : classify a .reply (some w) = .foreign w := by
  by_cases address : wordAddress w = a
  · have none : answerOf .reply w = none := by
      unfold answerOf answerOf.replyOf
      by_cases kind : wordKind w = kindReply
      · have status : ∀ n, ¬ isReply a n w → payloadHigh (wordPayload w) ≠ n :=
          fun n hn e => hn ⟨even, address, kind, e⟩
        simp [kind, status 1 h1, status 2 h2, status 3 h3]
      · simp only [kind, if_false]
    simp [classify, even, address, none]
  · simp [classify, even, address]

/-! ## Notices of a station's change of state (R47, R59, R66) -/

theorem NoticeQueue.offer_length (q : NoticeQueue) (n : Notice) :
    (q.offer n).entries.length ≤ q.entries.length + 1 := by
  unfold NoticeQueue.offer
  split
  · simp
  · exact Nat.le_succ _

theorem NoticeQueue.mem_offer {q : NoticeQueue} {n m : Notice} (h : m ∈ q.entries) : m ∈ (q.offer n).entries := by
  unfold NoticeQueue.offer
  split
  · exact List.mem_append_left _ h
  · exact h

/-- An offered marker is waiting where the queue has room (R166). -/
theorem NoticeQueue.offerMarker_marked {q : NoticeQueue} {id : Nat} (n : Notice)
    (room : q.entries.length < Config.noticeQueue) (h : id ∈ streamIds) : (q.offerMarker id n).marked id = true := by
  unfold NoticeQueue.offerMarker
  cases hm : q.marked id with
  | true => exact hm
  | false =>
    rw [if_neg (by decide), if_pos room]
    exact (NoticeQueue.marked_mark q id id true).trans (if_pos ⟨rfl, mem_streamIds.mp h⟩)

/-- No marker leaves the queue by an offer, no notice leaves it, and it grows by one at most (R166). -/
theorem NoticeQueue.offerMarker_grows (q : NoticeQueue) (id : Nat) (n : Notice) :
    (∀ j, q.marked j = true → (q.offerMarker id n).marked j = true) ∧
    (∀ m ∈ q.entries, m ∈ (q.offerMarker id n).entries) ∧
    (q.offerMarker id n).entries.length ≤ q.entries.length + 1 := by
  unfold NoticeQueue.offerMarker
  repeat' split
  · exact ⟨fun _ h => h, fun _ h => h, Nat.le_succ _⟩
  · refine ⟨fun j hj => ?_, fun m hm => List.mem_append_left _ hm, by simp⟩
    refine (NoticeQueue.marked_mark q id j true).trans ?_
    split
    · rfl
    · exact hj
  · exact ⟨fun _ h => h, fun _ h => h, Nat.le_succ _⟩

/-- What one stream's following does to the notices: nothing, or the offer of its DATA marker (R47, R59). -/
theorem State.followStream_notices (s : State) (a id : Nat) :
    (s.followStream a id).notices = s.notices ∨
    (s.followStream a id).notices = s.notices.offerMarker id (.data id) := by
  unfold State.followStream
  repeat' split
  · exact .inl rfl
  · exact .inl rfl
  · exact .inl rfl
  · exact .inr rfl
  all_goals exact .inl rfl

/-- Along the streams of a station markers and notices stay, and each stream adds one at most. -/
theorem State.followStreams_grow (a : Nat) (l : List Nat) (s : State) :
    (∀ j, s.notices.marked j = true → (l.foldl (State.followStream a) s).notices.marked j = true) ∧
    (∀ m ∈ s.notices.entries, m ∈ (l.foldl (State.followStream a) s).notices.entries) := by
  refine foldl_keeps (P := fun t : State => (∀ j, s.notices.marked j = true → t.notices.marked j = true) ∧
    ∀ m ∈ s.notices.entries, m ∈ t.notices.entries) (fun t id ⟨hj, hm⟩ => ?_) l s
    ⟨fun _ h => h, fun _ h => h⟩
  obtain h | h := State.followStream_notices t a id
  · rw [h]
    exact ⟨hj, hm⟩
  · obtain ⟨marks, keeps, -⟩ := t.notices.offerMarker_grows id (.data id)
    rw [h]
    exact ⟨fun j h => marks j (hj j h), fun m h => keeps m (hm m h)⟩

/-- A stream that stops receiving with words has its DATA marker offered (R47, R59). -/
theorem State.followStream_marked {s : State} {a id : Nat} {st : Stream} (idle : (s.station a).state ≠ .active)
    (room : s.notices.entries.length < Config.noticeQueue) (hst : s.stream id = some st) (station : st.station = a)
    (live : st.state = .live) (up : st.direction = .up) (words : st.buffer ≠ []) :
    (s.followStream a id).notices.marked id = true := by
  have due : st.restDue = true := by
    simp [Stream.restDue, up, Stream.level, Nat.one_le_iff_ne_zero, words]
  have offered : (s.followStream a id).notices = s.notices.offerMarker id (.data id) := by
    simp [State.followStream, hst, station, Stream.inActive, live, idle, due, State.offerData]
  rw [offered]
  exact NoticeQueue.offerMarker_marked _ room (State.stream_mem hst)

/-- With room for every stream's marker each stream of a station that leaves ACTIVE has its marker waiting. -/
theorem State.followStreams_marked {a id : Nat} {st : Stream} (station : st.station = a) (live : st.state = .live)
    (up : st.direction = .up) (words : st.buffer ≠ []) : ∀ (l : List Nat) {s : State},
    (s.station a).state ≠ .active → s.notices.entries.length + l.length ≤ Config.noticeQueue → id ∈ l → l.Nodup →
    s.stream id = some st → (l.foldl (State.followStream a) s).notices.marked id = true := by
  intro l
  induction l with
  | nil => exact fun _ _ h => absurd h List.not_mem_nil
  | cons i l ih =>
    intro s idle room mem nodup hst
    rw [List.length_cons] at room
    obtain ⟨fresh, nodup⟩ := List.nodup_cons.mp nodup
    rw [List.foldl_cons]
    by_cases here : i = id
    · subst here
      exact (State.followStreams_grow a l _).1 i
        (State.followStream_marked idle (by omega) hst station live up words)
    · refine ih ?_ ?_ ((List.mem_cons.mp mem).resolve_left (Ne.symm here)) nodup ?_
      · simpa [State.station] using idle
      · have grown : (s.followStream a i).notices.entries.length ≤ s.notices.entries.length + 1 := by
          obtain h | h := State.followStream_notices s a i
          · rw [h]; exact Nat.le_succ _
          · rw [h]; exact (s.notices.offerMarker_grows i (.data i)).2.2
        omega
      · rw [State.followStream_stream, if_neg here]
        exact hst

/-- The streams of a station follow it once its change is recorded and told (R67). -/
theorem State.moveStation_eq (s : State) (a : Nat) (new : StationState) (reason : Reason) :
    s.moveStation a new reason = ((s.onStation a (fun r => { r with state := new })).offer
      (.station a (s.station a).state new reason s.engine.frameNumber)).followStation a := rfl

theorem State.followStation_notice {s : State} {m : Notice} (a : Nat) (h : m ∈ s.notices.entries) :
    m ∈ (s.followStation a).notices.entries := by
  unfold State.followStation
  exact (State.followStreams_grow a streamIds s).2 m h

theorem State.followStation_freeBlocks (s : State) (a : Nat) :
    (s.followStation a).streams.freeBlocks = s.streams.freeBlocks := by
  unfold State.followStation
  refine foldl_same (p := fun t : State => t.streams.freeBlocks) (fun t id => ?_) streamIds s
  simp only [State.followStream]
  repeat' split
  all_goals simp

/-- The STATION notice of a change joins the queue where it has room, and stays (R66). -/
theorem State.moveStation_told {s : State} (a : Nat) (new : StationState) (reason : Reason)
    (room : s.notices.entries.length < Config.noticeQueue) :
    Notice.station a (s.station a).state new reason s.engine.frameNumber ∈ (s.moveStation a new reason).notices.entries := by
  rw [State.moveStation_eq]
  refine State.followStation_notice a ?_
  rw [State.offer_notices, State.onStation_notices, NoticeQueue.offer_room _ room]
  exact List.mem_append_right _ (List.mem_singleton.mpr rfl)

/-- The streams of a station that leaves ACTIVE have their markers waiting where the queue has room for all (R47, R59). -/
theorem State.moveStation_marked {s : State} {a id : Nat} {new : StationState} {st : Stream} (reason : Reason)
    (good : goodStation a = true) (idle : new ≠ .active) (room : s.notices.entries.length ≤ 7)
    (hst : s.stream id = some st) (station : st.station = a) (live : st.state = .live) (up : st.direction = .up)
    (words : st.buffer ≠ []) : (s.moveStation a new reason).notices.marked id = true := by
  have ha : 1 ≤ a ∧ a ≤ 15 := by simpa [goodStation] using good
  rw [State.moveStation_eq, State.followStation]
  refine State.followStreams_marked station live up words streamIds ?_ ?_ (State.stream_mem hst) (by decide) hst
  · simp [ha, idle]
  · have grown := s.notices.offer_length (.station a (s.station a).state new reason s.engine.frameNumber)
    have ids : streamIds.length = 24 := rfl
    simp only [State.offer_notices, State.onStation_notices, Config.noticeQueue]
    omega

@[simp] theorem State.moveStation_freeBlocks (s : State) (a : Nat) (new : StationState) (reason : Reason) :
    (s.moveStation a new reason).streams.freeBlocks = s.streams.freeBlocks := by
  rw [State.moveStation_eq, State.followStation_freeBlocks]
  rfl

/-- A change of state of station a, in the words of the statements: its streams follow, with their markers (R47). -/
theorem streamsFollow_of_move {s v t : State} {a : Nat} {new : StationState} {reason : Reason}
    (good : goodStation a = true) (streams : t.streams = (v.moveStation a new reason).streams)
    (notices : t.notices = (v.moveStation a new reason).notices) (state : (t.station a).state = new)
    (before : v.streams = s.streams) (room : v.notices.entries.length ≤ s.notices.entries.length + 2) :
    streamsFollow a s t := by
  have record : ∀ id, v.stream id = s.stream id := fun id => by simp only [State.stream, before]
  refine ⟨fun id => ?_, fun few id st hst station live idle up words => ?_⟩
  · have moved : t.stream id = (v.moveStation a new reason).stream id := by simp only [State.stream, streams]
    rw [moved, State.moveStation_stream v a id new reason good, record, state]
    congr 1
    funext st
    exact Stream.followed_eq ..
  · rw [notices]
    exact State.moveStation_marked reason good (state ▸ idle) (by omega) ((record id).trans hst) station live up words

/-- A station that stays ACTIVE leaves its streams as they are (R47). -/
theorem streamsFollow_of_stays {s t : State} {a : Nat} (follow : StreamsFollowStations s)
    (was : (s.station a).state = .active) (is : (t.station a).state = .active) (streams : t.streams = s.streams) :
    streamsFollow a s t := by
  refine ⟨fun id => ?_, fun _ _ _ _ _ _ idle => absurd is idle⟩
  have record : t.stream id = s.stream id := by simp only [State.stream, streams]
  rw [record, is]
  cases hst : s.stream id with
  | none => rfl
  | some st =>
    have stays := Stream.followed_of_follows (st := st) (active := true) a fun station staged => by
      rw [follow id (State.stream_mem hst) st hst staged, station]
      simp [was]
    rw [Stream.followed_eq] at stays
    simp [stays]

end Sys2Proof.Machine
end

section

namespace Sys2Proof.Machine

/-! ## The answer of a trim exchange (R99 to R101) -/

/-- v is u with the trim exchange of pair k with station a ended, and one fault at most reported since (R99 to R101). -/
structure TrimOver (k a : Nat) (u v : State) : Prop where
  number : v.engine.frameNumber = u.engine.frameNumber
  setup : v.engine.setup = u.engine.setup
  plans : v.plans = u.plans
  streams : v.streams = u.streams
  calls : v.calls = u.calls
  port : v.port = u.port
  account : v.account = u.account
  station : ∀ b, v.station b = if a = b then { u.station a with exchange := none } else u.station b
  held : ∀ i, v.trims.held i = if k = i then none else u.trims.held i
  room : v.notices.entries.length ≤ u.notices.entries.length + 1

/-- What every answer of the trim exchange leaves, with the streams of the station where it requires them (R69, R99). -/
structure TrimEnded (k a : Nat) (u t : State) : Prop where
  held : t.trims.held k = none
  exchange : (t.station a).exchange = none
  others : ∀ b, b ≠ a → t.station b = u.station b ∧ t.account b = u.account b
  pairs : ∀ j, j ≠ k → t.trims.held j = u.trims.held j
  plans : t.plans = u.plans
  freeBlocks : t.streams.freeBlocks = u.streams.freeBlocks
  calls : t.calls.pairs = u.calls.pairs
  streams : StreamsFollowStations u → streamsFollow a u t

theorem trimOver_freeService {u : State} {k a slot : Nat} (h1 : 1 ≤ a) (h15 : a ≤ 15) :
    TrimOver k a u ((beginSlot slot u).freeService k a) where
  number := rfl
  setup := rfl
  plans := rfl
  streams := rfl
  calls := rfl
  port := rfl
  account := by
    funext b
    rw [State.freeService_account]
    rfl
  station := fun b => by
    rw [State.freeService_station]
    simp only [h1, h15, and_self, and_true]
    rfl
  held := fun i => by
    rw [State.freeService_held]
    rfl
  room := Nat.le_succ _

namespace TrimOver

variable {k a : Nat} {u v : State} (h : TrimOver k a u v)
include h

theorem station_self : v.station a = { u.station a with exchange := none } := by rw [h.station, if_pos rfl]

theorem station_other {b : Nat} (hb : b ≠ a) : v.station b = u.station b := by rw [h.station, if_neg (Ne.symm hb)]

/-- A fault report of the word that ended the exchange (R101). -/
theorem reportFault (quiet : v.notices = u.notices) (kind : FaultKind) (slot : Nat) (raw : Option Word) :
    TrimOver k a u (v.reportFault a kind slot raw) := by
  obtain ⟨engine, plans, streams, stations, trims, calls, port, -⟩ := v.reportFault_frame a kind slot raw
  refine ⟨by rw [engine, h.number], by rw [engine, h.setup], by rw [plans, h.plans], by rw [streams, h.streams],
    by rw [calls, h.calls], by rw [port, h.port], ?_, fun b => ?_, fun i => by rw [trims, h.held], ?_⟩
  · funext b
    rw [← h.account]
    simp only [State.account, trims]
  · rw [← h.station]
    simp only [State.station, stations]
  · rw [State.reportFault_notices]
    cases (v.faultCell a).record with
    | none => exact quiet ▸ NoticeQueue.offer_length ..
    | some _ => exact h.room

/-- From the end of the exchange to t only station a and its account changed, and its streams followed it. -/
theorem ended {t : State} (others : ∀ b, b ≠ a → t.station b = v.station b ∧ t.account b = v.account b)
    (exchange : (t.station a).exchange = none) (held : t.trims.held = v.trims.held) (plans : t.plans = v.plans)
    (freeBlocks : t.streams.freeBlocks = v.streams.freeBlocks) (calls : t.calls.pairs = v.calls.pairs)
    (streams : StreamsFollowStations u → streamsFollow a u t) : TrimEnded k a u t where
  held := by rw [held, h.held, if_pos rfl]
  exchange := exchange
  others := fun b hb => ⟨by rw [(others b hb).1, h.station_other hb], by rw [(others b hb).2, h.account]⟩
  pairs := fun j hj => by rw [held, h.held, if_neg (Ne.symm hj)]
  plans := plans.trans h.plans
  freeBlocks := by rw [freeBlocks, h.streams]
  calls := by rw [calls, h.calls]
  streams := streams

end TrimOver

/-! ### DONE (R99) -/

/-- The miss count, the balance and the quiet end that a DONE writes (R99). -/
def trimAcknowledged (k a : Nat) (s : State) : State :=
  (s.reportValid a).onAccount a (fun c =>
    { c with balance := c.balance - 1,
             quietEnd := some (s.engine.frameNumber + ((s.reportValid a).station a).quiet.getD 0), ackPair := some k })

theorem trimDone_active {s : State} {k a : Nat} (h : (s.station a).state = .active) (h1 : 1 ≤ a) (h15 : a ≤ 15) :
    trimDone k a s = (trimAcknowledged k a s).moveStation a .trimming .trim := by
  have active : ((trimAcknowledged k a s).station a).state = .active := by
    simp [trimAcknowledged, State.reportValid, h1, h15, h]
  exact if_pos active

theorem trimDone_calls_port (s : State) (k a : Nat) :
    (trimDone k a s).calls = s.calls ∧ (trimDone k a s).port = s.port := by
  simp only [trimDone]
  split <;> simp

section
variable {k a : Nat} {u v : State} (h : TrimOver k a u v) (h1 : 1 ≤ a) (h15 : a ≤ 15)
include h

theorem TrimOver.active_self (active : (u.station a).state = .active) : (v.station a).state = .active := by
  rw [h.station_self]
  exact active

include h1 h15

theorem trimDone_ended (active : (u.station a).state = .active) : TrimEnded k a u (trimDone k a v) := by
  have good : goodStation a = true := by simp [goodStation, h1, h15]
  rw [trimDone_active (h.active_self active) h1 h15]
  refine h.ended (fun b hb => ⟨?_, ?_⟩) ?_ ?_ ?_ ?_ ?_ fun _ =>
    streamsFollow_of_move good rfl rfl ?_ (v := trimAcknowledged k a v) ?_ ?_
  · simp [trimAcknowledged, State.reportValid, Ne.symm hb]
  · simp [State.account, trimAcknowledged, TrimScheduler.get_set, Ne.symm hb]
  · simp [trimAcknowledged, State.reportValid, h1, h15, h.station_self]
  · rw [(State.moveStation_frame ..).2.2.1]
    exact State.onAccount_held ..
  · rw [(State.moveStation_frame ..).2.1]
    rfl
  · rw [State.moveStation_freeBlocks]
    rfl
  · rw [(State.moveStation_frame ..).2.2.2.1]
    rfl
  · simp [h1, h15]
  · exact h.streams
  · exact h.room.trans (Nat.le_succ _)

theorem trimDone_station (active : (u.station a).state = .active) :
    ((trimDone k a v).station a).state = .trimming ∧ ((trimDone k a v).station a).misses = 0 := by
  rw [trimDone_active (h.active_self active) h1 h15]
  simp [trimAcknowledged, State.reportValid, h1, h15]

theorem trimDone_account (active : (u.station a).state = .active) : (trimDone k a v).account a = { u.account a with
    balance := (u.account a).balance - 1,
    quietEnd := some (u.engine.frameNumber + (u.station a).quiet.getD 0), ackPair := some k } := by
  have moved : ∀ s : State, (s.moveStation a .trimming .trim).account a = s.account a := fun s => by
    simp only [State.account, State.moveStation_frame]
  have quiet : ((v.reportValid a).station a).quiet = (u.station a).quiet := by
    simp [State.reportValid, h1, h15, h.station_self]
  have account : (v.reportValid a).account a = u.account a := by
    rw [← h.account]
    rfl
  rw [trimDone_active (h.active_self active) h1 h15, moved, trimAcknowledged, State.onAccount_account,
    if_pos ⟨rfl, h1, h15⟩, quiet, account, h.number]

theorem trimDone_told (active : (u.station a).state = .active) (few : v.notices = u.notices) :
    stationTold a .trimming .trim u (trimDone k a v) := by
  intro room
  have told := State.moveStation_told (s := trimAcknowledged k a v) a .trimming .trim
    (by show v.notices.entries.length < 32; rw [few]; omega)
  have was : ((trimAcknowledged k a v).station a).state = (u.station a).state := by
    simp [trimAcknowledged, State.reportValid, h1, h15, h.station_self]
  have number : (trimAcknowledged k a v).engine.frameNumber = u.engine.frameNumber := h.number
  rw [trimDone_active (h.active_self active) h1 h15]
  rwa [was, number] at told

/-! ### REFUSED and UNKNOWN_ATTR (R100, R107) -/

omit h h1 h15

theorem trimRefused_frame_rest (s : State) (a : Nat) :
    (trimRefused a s).streams = s.streams ∧ (trimRefused a s).trims = s.trims ∧ (trimRefused a s).calls = s.calls ∧
    (trimRefused a s).notices = s.notices := by
  simp only [trimRefused]
  repeat' split
  all_goals simp

theorem trimRefused_others (s : State) {a b : Nat} (hb : b ≠ a) : (trimRefused a s).station b = s.station b := by
  simp only [trimRefused]
  repeat' split
  all_goals simp [State.reportValid, Ne.symm hb]

include h h1 h15

/-- Under a host TRIM the refusals rise (R107). -/
def countRefusal (a : Nat) (s : State) : State :=
  (s.reportValid a).onStation a (fun r => { r with refusals := r.refusals + 1 })

theorem trimRefused_unasked (ask : (u.station a).hostTrim = false) : trimRefused a v = v.reportValid a := by
  have flag : ((v.reportValid a).station a).hostTrim = false := by
    simp [State.reportValid, h1, h15, h.station_self, ask]
  simp [trimRefused, flag]

theorem trimRefused_asked (ask : (u.station a).hostTrim = true) : trimRefused a v =
    if 8 ≤ (u.station a).refusals + 1 then (countRefusal a v).endHostTrim a .refused .short
    else countRefusal a v := by
  have flag : ((v.reportValid a).station a).hostTrim = true := by
    simp [State.reportValid, h1, h15, h.station_self, ask]
  have count : ((countRefusal a v).station a).refusals = (u.station a).refusals + 1 := by
    simp [countRefusal, State.reportValid, h1, h15, h.station_self]
  rw [← count]
  exact if_pos flag

theorem trimRefused_self : ((trimRefused a v).station a).state = (u.station a).state ∧
    ((trimRefused a v).station a).misses = 0 ∧ ((trimRefused a v).station a).exchange = none := by
  cases ask : (u.station a).hostTrim with
  | false =>
    rw [trimRefused_unasked h h1 h15 ask]
    simp [State.reportValid, h1, h15, h.station_self]
  | true =>
    rw [trimRefused_asked h h1 h15 ask]
    split <;> simp [countRefusal, State.reportValid, h1, h15, h.station_self, ask]

omit h1 h15 in
/-- Beside the host TRIM a refusal leaves what is told and recorded (R100). -/
theorem trimRefused_quiet : (trimRefused a v).account a = u.account a ∧ (trimRefused a v).faults = v.faults ∧
    (trimRefused a v).streams = v.streams ∧ (trimRefused a v).calls = v.calls ∧
    (trimRefused a v).notices = v.notices := by
  obtain ⟨streams, trims, calls, notices⟩ := trimRefused_frame_rest v a
  refine ⟨?_, (trimRefused_frame ..).2.2.1, streams, calls, notices⟩
  rw [← h.account]
  simp only [State.account, trims]

/-- The refusals of a host TRIM rise to the eighth, which ends it; without one nothing is counted (R107). -/
theorem trimRefused_counts :
    ((u.station a).hostTrim = false →
      ((trimRefused a v).station a).refusals = (u.station a).refusals ∧ (trimRefused a v).port = u.port) ∧
    ((u.station a).hostTrim = true → (u.station a).refusals + 1 < 8 →
      ((trimRefused a v).station a).refusals = (u.station a).refusals + 1 ∧
      ((trimRefused a v).station a).hostTrim = true) ∧
    ((u.station a).hostTrim = true → 8 ≤ (u.station a).refusals + 1 →
      ((trimRefused a v).station a).refusals = 0 ∧ ((trimRefused a v).station a).hostTrim = false) := by
  refine ⟨fun ask => ?_, fun ask few => ?_, fun ask many => ?_⟩
  · rw [trimRefused_unasked h h1 h15 ask, (State.reportValid_frame ..).2.2.2.2.2.2.2.1, h.port]
    simp [State.reportValid, h1, h15, h.station_self]
  · rw [trimRefused_asked h h1 h15 ask, if_neg (by omega)]
    simp [countRefusal, State.reportValid, h1, h15, h.station_self, ask]
  · rw [trimRefused_asked h h1 h15 ask, if_pos many]
    simp [countRefusal, State.reportValid, h1, h15, h.station_self, ask]

theorem trimRefused_ended (active : (u.station a).state = .active) : TrimEnded k a u (trimRefused a v) := by
  obtain ⟨state, -, exchange⟩ := trimRefused_self h h1 h15
  obtain ⟨streams, trims, calls, -⟩ := trimRefused_frame_rest v a
  refine h.ended (fun b hb => ⟨trimRefused_others v hb, ?_⟩) exchange (by rw [trims])
    (trimRefused_frame ..).2.1 (by rw [streams]) (by rw [calls]) fun follow =>
    streamsFollow_of_stays follow active (state.trans active) (streams.trans h.streams)
  simp only [State.account, trims]

/-- The eighth refusal ends the host TRIM, answered REFUSED (R107); where none is pending none is answered. -/
theorem trimRefused_replies (differ : u.port.tagsDiffer) (eighth : 8 ≤ (u.station a).refusals + 1) :
    (trimRefused a v).port.replies = u.port.replies ++ u.hostTrimReply a .refused := by
  cases ask : (u.station a).hostTrim with
  | false =>
    rw [trimRefused_unasked h h1 h15 ask, (State.reportValid_frame ..).2.2.2.2.2.2.2.1, h.port]
    simp [State.hostTrimReply, ask]
  | true =>
    have port : (countRefusal a v).port = u.port := h.port
    have reply : (countRefusal a v).hostTrimReply a .refused = u.hostTrimReply a .refused := by
      have flag : ((countRefusal a v).station a).hostTrim = true := by
        simp [countRefusal, State.reportValid, h1, h15, h.station_self, ask]
      simp only [State.hostTrimReply, flag, ask, port]
    have answered := (State.endHostTrim_answered (s := countRefusal a v) (port ▸ differ) a .refused).replies
    rw [trimRefused_asked h h1 h15 ask, if_pos eighth, answered, reply, port]

/-! ### A miss (R70, R101) -/

/-- The state in which the limit is tested. -/
theorem TrimOver.missed_self : (v.reportMiss a).station a =
    { u.station a with exchange := none, misses := (u.station a).misses + 1 } := by
  simp [State.reportMiss, h1, h15, h.station_self]

theorem trimMiss_below (below : u.belowMissLimit a) : trimMiss a v = v.reportMiss a := by
  have limit : (v.reportMiss a).atMissLimit a = false := by
    simpa [State.atMissLimit, h.missed_self h1 h15, h.setup, State.belowMissLimit] using below
  simp [trimMiss, limit]

theorem trimMiss_at (active : (u.station a).state = .active) (reached : ¬ u.belowMissLimit a) :
    trimMiss a v = (v.reportMiss a).enterFaulted a .misses .faulted .faulted := by
  have limit : (v.reportMiss a).atMissLimit a = true := by
    simpa [State.atMissLimit, h.missed_self h1 h15, h.setup, State.belowMissLimit] using reached
  have state : ((v.reportMiss a).station a).state = .active := by
    rw [h.missed_self h1 h15]
    exact active
  simp [trimMiss, limit, State.missLimit, state]

theorem trimMiss_self (active : (u.station a).state = .active) :
    ((trimMiss a v).station a).misses = (u.station a).misses + 1 ∧ ((trimMiss a v).station a).exchange = none ∧
    ((trimMiss a v).station a).state =
      if (u.station a).misses + 1 < u.engine.setup.missLimit then .active else .faulted := by
  by_cases below : (u.station a).misses + 1 < u.engine.setup.missLimit
  · rw [trimMiss_below h h1 h15 below, h.missed_self h1 h15, if_pos below]
    exact ⟨rfl, rfl, active⟩
  · rw [trimMiss_at h h1 h15 active below, State.enterFaulted_station, if_pos ⟨rfl, h1, h15⟩, h.missed_self h1 h15,
      if_neg below]
    exact ⟨rfl, rfl, rfl⟩

theorem trimMiss_ended (active : (u.station a).state = .active) : TrimEnded k a u (trimMiss a v) := by
  have good : goodStation a = true := by simp [goodStation, h1, h15]
  obtain ⟨misses, exchange, state⟩ := trimMiss_self h h1 h15 active
  have others : ∀ b, b ≠ a → (v.reportMiss a).station b = v.station b := fun b hb => by
    simp [State.reportMiss, Ne.symm hb]
  by_cases below : (u.station a).misses + 1 < u.engine.setup.missLimit
  · rw [if_pos below] at state
    rw [trimMiss_below h h1 h15 below] at state exchange ⊢
    exact h.ended (fun b hb => ⟨others b hb, rfl⟩) exchange rfl rfl rfl rfl
      fun follow => streamsFollow_of_stays follow active state h.streams
  · rw [if_neg below] at state
    rw [trimMiss_at h h1 h15 active below] at state exchange ⊢
    obtain ⟨trims, calls⟩ := State.enterFaulted_of_idle (v.reportMiss a) a .misses .faulted .faulted
      (by rw [h.missed_self h1 h15])
    refine h.ended (fun b hb => ⟨?_, ?_⟩) exchange (by rw [trims]; rfl) (by simp) ?_ (by rw [calls]; rfl) fun _ =>
      streamsFollow_of_move (v := v.reportMiss a) good (State.enterFaulted_streams ..) (State.enterFaulted_notices ..)
        state h.streams (h.room.trans (Nat.le_succ _))
    · rw [State.enterFaulted_station, if_neg (fun e => hb e.1.symm), others b hb]
    · simp only [State.account, trims]
      rfl
    · rw [State.enterFaulted_streams, State.moveStation_freeBlocks]
      rfl

theorem trimMiss_account (active : (u.station a).state = .active) : (trimMiss a v).account a = u.account a := by
  rw [← h.account]
  by_cases below : (u.station a).misses + 1 < u.engine.setup.missLimit
  · rw [trimMiss_below h h1 h15 below]
    rfl
  · rw [trimMiss_at h h1 h15 active below]
    simp only [State.account, (State.enterFaulted_of_idle (v.reportMiss a) a .misses .faulted .faulted
      (by rw [h.missed_self h1 h15])).1]
    rfl

theorem trimMiss_told (active : (u.station a).state = .active) (reached : ¬ u.belowMissLimit a) :
    stationTold a .faulted .misses u (trimMiss a v) := by
  intro room
  have told := State.moveStation_told (s := v.reportMiss a) a .faulted .misses
    (by have := h.room; show v.notices.entries.length < 32; omega)
  rw [h.missed_self h1 h15, (State.reportMiss_frame ..).1, h.number] at told
  rw [trimMiss_at h h1 h15 active reached, State.enterFaulted_notices]
  exact told

/-- At the limit the station's work is answered FAULTED, in the order of R68. -/
theorem trimMiss_replies (active : (u.station a).state = .active) (reached : ¬ u.belowMissLimit a)
    (owns : OwnsWork u a) (held : (u.station a).exchange = some (.service k)) :
    (trimMiss a v).port.replies = u.port.replies ++ u.workReplies a .faulted .faulted := by
  have self := h.missed_self h1 h15
  have port : (v.reportMiss a).port = u.port := h.port
  have calls : (v.reportMiss a).calls = u.calls := h.calls
  have entries : (v.reportMiss a).workEntries a = u.workEntries a := by
    simp only [State.workEntries, State.entryInFlight, self, held, calls, Option.bind_none, Option.bind_some]
  have owns' : OwnsWork (v.reportMiss a) a := owns.congr port (by rw [self]) entries
  have replies : (v.reportMiss a).workReplies a .faulted .faulted = u.workReplies a .faulted .faulted := by
    simp only [State.workReplies_eq, State.operationReply, State.hostTrimReply, entries, self, port]
  rw [trimMiss_at h h1 h15 active reached, (State.enterFaulted_answered owns' .misses .faulted .faulted).replies,
    replies, port]

end

/-! ### The statement -/

/-- The up slot of a service pair that holds a trim exchange hands the class of the line to the Trim Scheduler (R18). -/
theorem exec_serviceUpSlot {s : State} {k a : Nat} (line : Option Word) (h1 : 1 ≤ k) (h4 : k ≤ 4)
    (reach : s.reachesSlot (2 * k)) (role : (passSlots (2 * k) s).roleNow (2 * k) = .serviceUp k)
    (plan : (passSlots (2 * k) s).plans.active.role (2 * k) = .serviceUp k)
    (held : (passSlots (2 * k) s).trims.held k = some a) :
    exec (.serviceUpSlot k line) s = .next (trimAnswer k (2 * k) a (classify a .reply line)
      (beginSlot (2 * k) (passSlots (2 * k) s))) := by
  have row := slotRow_comes (isRow := fun t => t.plans.active.role (2 * k) == .serviceUp k) line reach
    (beq_iff_eq.mpr plan)
  rw [slotEvent_serviceUp line role held] at row
  exact (forPair_of h1 h4 _).trans row

theorem isReply_unique {a m n : Nat} {w : Word} (h : isReply a m w) (k : isReply a n w) : m = n :=
  h.2.2.2.symm.trans k.2.2.2

/-- What a silent, garbled or foreign answer makes of the faults, before it is counted as a miss (R101, R132). -/
theorem trimAnswer_miss {u : State} {k a slot : Nat} {line : Option Word} (h1 : 1 ≤ a) (h15 : a ≤ 15)
    (no : ∀ n, 1 ≤ n → n ≤ 3 → ∀ w, line = some w → ¬ isReply a n w) :
    ∃ v, TrimOver k a u v ∧ trimAnswer k slot a (classify a .reply line) (beginSlot slot u) = trimMiss a v ∧
      (line = none → v.faults = u.faults) ∧
      (∀ w, line = some w → oddParity w = true → faultReported a .check slot (some w) u v) ∧
      ∀ w, line = some w → oddParity w = false → faultReported a .foreign slot (some w) u v := by
  have freed : TrimOver k a u ((beginSlot slot u).freeService k a) := trimOver_freeService h1 h15
  have reported : ∀ kind w, faultReported a kind slot (some w) u
      (((beginSlot slot u).freeService k a).reportFault a kind slot (some w)) := fun kind w =>
    (State.reportFault_reported _ h15 kind slot (some w)).congr rfl rfl
  cases line with
  | none => exact ⟨_, freed, rfl, fun _ => rfl, fun _ h => by simp at h, fun _ h => by simp at h⟩
  | some w =>
    cases parity : oddParity w with
    | true =>
      refine ⟨_, freed.reportFault rfl .check slot (some w), ?_, fun h => by simp at h, ?_, ?_⟩
      · rw [classify_odd .reply parity]
        rfl
      · rintro _ ⟨⟩ _
        exact reported .check w
      · rintro _ ⟨⟩ even
        simp [parity] at even
    | false =>
      refine ⟨_, freed.reportFault rfl .foreign slot (some w), ?_, fun h => by simp at h, ?_, ?_⟩
      · rw [classify_foreign parity (no 1 (by decide) (by decide) w rfl) (no 2 (by decide) (by decide) w rfl)
          (no 3 (by decide) (by decide) w rfl)]
        rfl
      · rintro _ ⟨⟩ odd
        simp [parity] at odd
      · rintro _ ⟨⟩ _
        exact reported .foreign w

theorem trimAnswer_refused {u : State} {a k slot : Nat} {w : Word} (reply : isReply a 2 w ∨ isReply a 3 w) :
    trimAnswer k slot a (classify a .reply (some w)) (beginSlot slot u) =
      trimRefused a ((beginSlot slot u).freeService k a) := by
  obtain refused | unknown := reply
  · obtain ⟨echo, value, cls⟩ := classify_refused refused
    rw [cls]
    rfl
  · rw [classify_unknownAttr unknown]
    rfl

/-- Settles O43, by the class of the line: DONE, a refusal, or a miss. -/
theorem trimAnswerIsDealtWith : Obligations.TrimAnswerIsDealtWith := by
  rintro s u k a line k1 k4 h1 h15 reach hu role plan held active answers hans
  have run := exec_serviceUpSlot line k1 k4 reach (hu ▸ role) (hu ▸ plan) (hu ▸ held)
  rw [← hu] at run
  have low : u.port.rstnLow = false := by
    rw [hu, (passSlots_wakes ..).low]
    exact reach.1
  have freed : TrimOver k a u ((beginSlot (2 * k) u).freeService k a) := trimOver_freeService h1 h15
  have unique : ∀ {m n : Nat}, answers m → answers n → m = n := by
    intro m n hm hn
    obtain ⟨w, hw, hm⟩ := hans m ▸ hm
    obtain ⟨w', hw', hn⟩ := hans n ▸ hn
    obtain rfl := Option.some.inj (hw.symm.trans hw')
    exact isReply_unique hm hn
  by_cases done : answers 1
  · obtain ⟨w, rfl, reply⟩ := hans 1 ▸ done
    obtain ⟨echo, value, cls⟩ := classify_done reply
    have not23 : ¬ (answers 2 ∨ answers 3) := fun h => by
      obtain h | h := h
      · exact absurd (unique done h) (by decide)
      · exact absurd (unique done h) (by decide)
    have ended := trimDone_ended freed h1 h15 active
    obtain ⟨state, misses⟩ := trimDone_station freed h1 h15 active
    obtain ⟨-, -, faults, -⟩ := trimDone_frame ((beginSlot (2 * k) u).freeService k a) k a
    obtain ⟨calls, port⟩ := trimDone_calls_port ((beginSlot (2 * k) u).freeService k a) k a
    rw [cls] at run
    exact ⟨_, run, ended.held, ended.exchange, ended.others, ended.pairs, ended.plans, ended.freeBlocks, ended.calls,
      ended.streams, fun _ => trimDone_told freed h1 h15 active rfl,
      fun _ _ _ => ⟨fun h => absurd h not23, fun h => absurd done h⟩,
      fun _ => ⟨state, misses, trimDone_account freed h1 h15 active, faults, calls, port⟩,
      fun h => absurd h not23, fun h => absurd done h⟩
  by_cases refused : answers 2 ∨ answers 3
  · obtain ⟨w, rfl, reply⟩ : ∃ w, line = some w ∧ (isReply a 2 w ∨ isReply a 3 w) := by
      obtain h | h := refused
      · obtain ⟨w, hw, reply⟩ := hans 2 ▸ h
        exact ⟨w, hw, .inl reply⟩
      · obtain ⟨w, hw, reply⟩ := hans 3 ▸ h
        exact ⟨w, hw, .inr reply⟩
    rw [trimAnswer_refused reply] at run
    have ended := trimRefused_ended freed h1 h15 active
    obtain ⟨state, misses, -⟩ := trimRefused_self freed h1 h15
    obtain ⟨account, faults, streams, calls, notices⟩ := trimRefused_quiet freed
    exact ⟨_, run, ended.held, ended.exchange, ended.others, ended.pairs, ended.plans, ended.freeBlocks, ended.calls,
      ended.streams, fun h => absurd h done,
      fun bounded _ _ => ⟨fun _ => trimRefused_replies freed h1 h15 bounded.2.2.2.1,
        fun _ h2 h3 => absurd refused (not_or.mpr ⟨h2, h3⟩)⟩,
      fun h => absurd h done,
      fun _ => ⟨state.trans active, misses, account, faults, streams, calls, notices, trimRefused_counts freed h1 h15⟩,
      fun _ h2 h3 => absurd refused (not_or.mpr ⟨h2, h3⟩)⟩
  · have no : ∀ n, 1 ≤ n → n ≤ 3 → ∀ w, line = some w → ¬ isReply a n w := by
      intro n n1 n3 w hw reply
      have yes : answers n := hans n ▸ ⟨w, hw, reply⟩
      obtain rfl | rfl | rfl : n = 1 ∨ n = 2 ∨ n = 3 := by omega
      · exact done yes
      · exact refused (.inl yes)
      · exact refused (.inr yes)
    obtain ⟨v, freed, answer, silent, check, foreign⟩ := trimAnswer_miss (slot := 2 * k) (k := k) (u := u) h1 h15 no
    rw [answer] at run
    have ended := trimMiss_ended freed h1 h15 active
    obtain ⟨misses, -, state⟩ := trimMiss_self freed h1 h15 active
    have faults : (trimMiss a v).faults = v.faults := (trimMiss_frame ..).2.2.1
    have account := trimMiss_account freed h1 h15 active
    refine ⟨_, run, ended.held, ended.exchange, ended.others, ended.pairs, ended.plans, ended.freeBlocks, ended.calls,
      ended.streams, fun h => absurd h done,
      fun bounded agree owned => ⟨fun h => absurd h refused, fun _ _ _ => ⟨fun below => ?_, fun reached => ⟨?_, ?_⟩⟩⟩,
      fun h => absurd h done, fun h => absurd h refused,
      fun _ _ _ => ⟨account, misses, state, fun h => faults.trans (silent h), fun w hw odd => ?_, fun w hw even => ?_⟩⟩
    · rw [trimMiss_below freed h1 h15 below]
      exact freed.port
    · exact trimMiss_told freed h1 h15 active reached
    · have owns := ownsWork_of_invariants bounded owned low (mem_addresses.mpr ⟨h1, h15⟩)
      exact trimMiss_replies freed h1 h15 active reached owns (agree.1 k (mem_pairNumbers.mpr ⟨k1, k4⟩) a held).1
    · exact (check w hw odd).after faults
    · exact (foreign w hw even).after faults

end Sys2Proof.Machine
end

section

namespace Sys2Proof.Machine

/-! ## The completed stop: the streams and the pairs (R48, R128) -/

/-- What is LIVE after a stream's stop is another stream, which was LIVE before (R48). -/
theorem stopStream_live {s : State} {i id : Nat} {st : Stream} (h : (stopStream s i).stream id = some st)
    (live : st.state = .live) : i ≠ id ∧ s.stream id = some st := by
  by_cases here : i = id
  · subst here
    cases hst : s.stream i with
    | none => simp [stopStream, hst] at h
    | some st' =>
      have hi := mem_streamIds.mp (State.stream_mem hst)
      by_cases was : st'.state = .live
      · have held : (stopStream s i).stream i = some { st' with state := .held } := by
          simp only [stopStream, hst, was, if_true]
          split <;> simp [hi]
        obtain rfl := Option.some.inj (held.symm.trans h)
        simp at live
      · have same : stopStream s i = s := by simp [stopStream, hst, was]
        rw [same, hst] at h
        obtain rfl := Option.some.inj h
        exact absurd live was
  · refine ⟨here, ?_⟩
    unfold stopStream at h
    repeat' split at h
    all_goals simpa [here] using h

theorem streamUnitStop_not_live {s : State} {id : Nat} {st : Stream} (h : (streamUnitStop s).stream id = some st) :
    st.state ≠ .live := by
  intro live
  have none : ∀ (l : List Nat) (t : State), (l.foldl stopStream t).stream id = some st →
      id ∉ l ∧ t.stream id = some st := by
    intro l
    induction l with
    | nil => exact fun t ht => ⟨List.not_mem_nil, ht⟩
    | cons i l ih =>
      intro t ht
      obtain ⟨rest, ht⟩ := ih _ ht
      obtain ⟨here, ht⟩ := stopStream_live ht live
      exact ⟨List.not_mem_cons_of_ne_of_not_mem (Ne.symm here) rest, ht⟩
  exact (none streamIds s h).1 (State.stream_mem h)

theorem stopPair_exchange (s : State) (i j : Nat) :
    (stopPair s i).exchange j = if i = j then none else s.exchange j := by
  unfold stopPair
  cases hx : s.exchange i with
  | none =>
    by_cases h : i = j
    · rw [if_pos h, ← h, hx]
    · rw [if_neg h]
  | some x =>
    simp only [State.exchange, State.failCall_frame]
    exact State.freePair_exchange ..

@[simp] theorem stopPair_queue (s : State) (i : Nat) : (stopPair s i).calls.queue = s.calls.queue := by
  unfold stopPair
  split <;> simp

theorem stopPair_state (s : State) (i a : Nat) : ((stopPair s i).station a).state = (s.station a).state := by
  unfold stopPair
  split
  · rfl
  · rw [State.failCall_station, State.freePair_station]
    split
    · next h => rw [h.1]
    · rfl

theorem stopPair_wakeQueue (s : State) (i : Nat) : (stopPair s i).stations.wakeQueue = s.stations.wakeQueue := by
  unfold stopPair
  split <;> simp

theorem callUnitStop_eq (s : State) :
    callUnitStop s = pairNumbers.foldl stopPair ((s.dequeue (fun _ => true)).failCalls s.calls.queue .aborted) := rfl

/-- No pair holds an exchange after the stop (R128). -/
theorem callUnitStop_exchange (s : State) (j : Nat) : (callUnitStop s).exchange j = none := by
  have freed : ∀ (l : List Nat) (t : State), j ∈ l ∨ t.exchange j = none → (l.foldl stopPair t).exchange j = none := by
    intro l
    induction l with
    | nil => exact fun t ht => ht.resolve_left List.not_mem_nil
    | cons i l ih =>
      intro t ht
      refine ih _ ?_
      rw [stopPair_exchange]
      by_cases here : i = j
      · exact .inr (if_pos here)
      · rw [if_neg here]
        exact ht.imp_left fun h => (List.mem_cons.mp h).resolve_left (Ne.symm here)
  rw [callUnitStop_eq]
  refine freed _ _ ?_
  cases hx : ((s.dequeue (fun _ => true)).failCalls s.calls.queue .aborted).exchange j with
  | none => exact .inr rfl
  | some x => exact .inl (State.exchange_mem hx)

theorem callUnitStop_queue (s : State) : (callUnitStop s).calls.queue = [] := by
  have pairs : ∀ (l : List Nat) (t : State), (l.foldl stopPair t).calls.queue = t.calls.queue :=
    foldl_same (p := fun t : State => t.calls.queue) fun t i => stopPair_queue t i
  rw [callUnitStop_eq, pairs, (State.failCalls_frame ..).2.2.2.2.2.1]
  simp

theorem callUnitStop_state (s : State) (a : Nat) : ((callUnitStop s).station a).state = (s.station a).state := by
  have pairs : ∀ (l : List Nat) (t : State), ((l.foldl stopPair t).station a).state = (t.station a).state :=
    foldl_same (p := fun t : State => (t.station a).state) fun t i => stopPair_state t i a
  rw [callUnitStop_eq, pairs, (State.failCalls_records ..).1]
  rfl

theorem callUnitStop_wakeQueue (s : State) : (callUnitStop s).stations.wakeQueue = s.stations.wakeQueue := by
  have pairs : ∀ (l : List Nat) (t : State), (l.foldl stopPair t).stations.wakeQueue = t.stations.wakeQueue :=
    foldl_same (p := fun t : State => t.stations.wakeQueue) stopPair_wakeQueue
  rw [callUnitStop_eq, pairs, (State.failCalls_frame ..).2.2.2.1]
  rfl

/-- With no entry queued and no exchange held the Call Unit has nothing to answer at a stop. -/
theorem callUnitStop_port {s : State} (queue : s.calls.queue = []) (idle : ∀ j, s.exchange j = none) :
    (callUnitStop s).port = s.port := by
  have pairs : ∀ (l : List Nat) (t : State), (∀ j, t.exchange j = none) → (l.foldl stopPair t) = t := by
    intro l
    induction l with
    | nil => exact fun _ _ => rfl
    | cons i l ih =>
      intro t ht
      have same : stopPair t i = t := by simp [stopPair, ht i]
      rw [List.foldl_cons, same, ih t ht]
  rw [callUnitStop_eq, queue, pairs pairNumbers ((s.dequeue fun _ => true).failCalls [] .aborted) idle]
  rfl

/-! ## The completed stop: the stations (R86) -/

/-- Of a fold of stops: the pairs are only freed, the queue only shrinks. -/
def workOnlyEnds (s t : State) : Prop := onlyFreed s t ∧ ∀ e ∈ t.calls.queue, e ∈ s.calls.queue

theorem stopStation_workOnlyEnds (s : State) (a : Nat) : workOnlyEnds s (stopStation s a) := by
  unfold stopStation
  split
  · exact ⟨.of_eq rfl rfl, fun _ h => h⟩
  · refine ⟨⟨fun j x h => ?_, fun k b h => ?_⟩, fun e h => ?_⟩
    · rw [State.enterAbsent_exchange] at h
      split at h
      · simp at h
      · exact h
    · rw [State.enterAbsent_held] at h
      split at h
      · simp at h
      · exact h
    · rw [State.enterAbsent_queue] at h
      exact List.mem_of_mem_filter h

theorem stopStations_workOnlyEnds (l : List Nat) (s : State) : workOnlyEnds s (l.foldl stopStation s) :=
  foldl_keeps (P := workOnlyEnds s)
    (fun t a ht => ⟨ht.1.trans (stopStation_workOnlyEnds t a).1, fun e he => ht.2 e ((stopStation_workOnlyEnds t a).2 e he)⟩)
    l s ⟨.of_eq rfl rfl, fun _ h => h⟩

theorem stopStation_other (s : State) {a b : Nat} (h : a ≠ b) : (stopStation s a).station b = s.station b := by
  unfold stopStation
  split
  · rfl
  · rw [State.enterAbsent_station, if_neg (fun e => h e.1)]

theorem stopStations_other {b : Nat} : ∀ (l : List Nat) (s : State), b ∉ l →
    (l.foldl stopStation s).station b = s.station b := by
  intro l
  induction l with
  | nil => exact fun _ _ => rfl
  | cons a l ih =>
    intro s hb
    rw [List.foldl_cons, ih _ (List.not_mem_of_not_mem_cons hb),
      stopStation_other s (Ne.symm (List.ne_of_not_mem_cons hb))]

/-- The stop of one station among others: it is as it was when its turn comes, and stays as its stop leaves it. -/
theorem stopStations_at {l : List Nat} {a : Nat} (h : a ∈ l) (nodup : l.Nodup) (s : State) :
    ∃ t, t.station a = s.station a ∧ workOnlyEnds s t ∧ workOnlyEnds (stopStation t a) (l.foldl stopStation s) ∧
      (l.foldl stopStation s).station a = (stopStation t a).station a := by
  obtain ⟨before, after, rfl⟩ := List.append_of_mem h
  have apart := List.nodup_append.mp nodup
  have fresh : a ∉ after := (List.nodup_cons.mp apart.2.1).1
  have unseen : a ∉ before := fun hb => apart.2.2 a hb a List.mem_cons_self rfl
  refine ⟨before.foldl stopStation s, stopStations_other before s unseen, stopStations_workOnlyEnds before s, ?_, ?_⟩
  · rw [List.foldl_append, List.foldl_cons]
    exact stopStations_workOnlyEnds after _
  · rw [List.foldl_append, List.foldl_cons, stopStations_other after _ fresh]

theorem addresses_nodup : addresses.Nodup := by decide

theorem stopStation_absent (s : State) {a : Nat} (h1 : 1 ≤ a) (h15 : a ≤ 15) :
    ((stopStation s a).station a).state = .absent := by
  unfold stopStation
  split
  · assumption
  · rw [State.enterAbsent_station, if_pos ⟨rfl, h1, h15⟩]

/-- Every station is ABSENT after the stop (R86). -/
theorem stopStations_absent (s : State) {a : Nat} (h1 : 1 ≤ a) (h15 : a ≤ 15) :
    ((addresses.foldl stopStation s).station a).state = .absent := by
  obtain ⟨t, -, -, -, same⟩ := stopStations_at (mem_addresses.mpr ⟨h1, h15⟩) addresses_nodup s
  rw [same]
  exact stopStation_absent t h1 h15

/-! ### Under the invariants the stations' stop ends all work -/

theorem State.station_of_not_mem (s : State) {a : Nat} (h : a ∉ addresses) : s.station a = {} := by
  rw [mem_addresses] at h
  unfold State.station StationManager.get
  split
  · rw [Vector.getElem?_eq_none (by omega)]
    rfl
  · rfl

/-- A station with an entry is not ABSENT (R72, R78, R81, R123). -/
theorem EntriesOwned.not_absent {s : State} (owned : EntriesOwned s) (operations : OperationsOwned s) {e : Entry}
    (h : e ∈ s.entries) : e.station ∈ addresses ∧ (s.station e.station).state ≠ .absent := by
  obtain ⟨good, -, operation, call⟩ := owned.2 e h
  have mem : e.station ∈ addresses := mem_addresses.mpr (by simpa [goodStation] using good)
  refine ⟨mem, fun absent => ?_⟩
  cases ho : e.owner with
  | call =>
    have takes := call ho
    rw [absent] at takes
    simp [StationState.takesCalls] at takes
  | enroll | drowse | wake =>
    have state := (operations.1 _ mem _ (operation _ (by rw [ho]; rfl))).2
    rw [absent] at state
    simp [Operation.states] at state

/-- An ABSENT station has no work to answer. -/
theorem workReplies_of_absent {s : State} {a : Nat} (hw : WorkOwned s) (low : s.port.rstnLow = false)
    (ha : a ∈ addresses) (absent : (s.station a).state = .absent) (o w : Status) : s.workReplies a o w = [] := by
  obtain ⟨entries, ⟨-, -, backs⟩, operations, ⟨trims, -⟩, -⟩ := hw low
  have operation : (s.station a).operation = none := by
    cases ho : (s.station a).operation with
    | none => rfl
    | some p =>
      have state := (operations.1 a ha p ho).2
      rw [absent] at state
      cases hp : p.1 <;> simp [hp, Operation.states] at state
  have trim : (s.station a).hostTrim = false := by
    cases ht : (s.station a).hostTrim with
    | false => rfl
    | true =>
      have state := (trims a ha ht).1
      simp [absent] at state
  have queue : s.calls.queue.filter (fun e => e.station == a) = [] := by
    refine List.filter_eq_nil_iff.mpr fun e he station => ?_
    have present := (entries.not_absent operations (List.mem_append_left _ he)).2
    rw [beq_iff_eq.mp station] at present
    exact present absent
  have flight : s.entryInFlight a = none := by
    cases he : s.entryInFlight a with
    | none => rfl
    | some e =>
      obtain ⟨station, member⟩ := entryInFlight_mem (backs a ha) he
      have present := (entries.not_absent operations (List.mem_append_right _ member)).2
      rw [station] at present
      exact absurd absent present
  simp [State.workReplies, State.operationReply, State.hostTrimReply, State.queueReplies, operation, trim, queue, flight]

end Sys2Proof.Machine
end

section

namespace Sys2Proof.Machine

/-! ### What the stations' stop answers (R68, R86) -/

theorem stopStation_queue (s : State) (a : Nat) : (stopStation s a).calls.queue = s.calls.queue ∨
    (stopStation s a).calls.queue = s.calls.queue.filter (fun e => e.station != a) := by
  unfold stopStation
  split
  · exact .inl rfl
  · exact .inr (State.enterAbsent_queue ..)

/-- The queued entries of another station stay, in their order. -/
theorem stopStation_queueOf (s : State) {a b : Nat} (h : a ≠ b) :
    (stopStation s a).calls.queue.filter (fun e => e.station == b) = s.calls.queue.filter (fun e => e.station == b) := by
  obtain same | filtered := stopStation_queue s a
  · rw [same]
  · rw [filtered, List.filter_filter]
    refine List.filter_congr fun e _ => ?_
    by_cases station : e.station = b
    · simp [station, Ne.symm h]
    · simp [station]

theorem stopStation_exchange_of_ne (s : State) {a j : Nat} (h : (s.station a).exchange ≠ some (.command j)) :
    (stopStation s a).exchange j = s.exchange j := by
  unfold stopStation
  split
  · rfl
  · rw [State.enterAbsent_exchange, if_neg h]

/-- The station's work is owned, if it is ABSENT it has none, and the command pair it names holds its exchange. -/
structure StopOwned (s : State) (a : Nat) : Prop where
  owns : OwnsWork s a
  idle : (s.station a).state = .absent → s.workReplies a .aborted .aborted = []
  names : ∀ j, (s.station a).exchange = some (.command j) → ∃ x, s.exchange j = some x ∧ x.entry.station = a

theorem StopOwned.answered {s : State} {a : Nat} (h : StopOwned s a) :
    Answered (fun _ t => t = some a) (s.workReplies a .aborted .aborted) s.port (stopStation s a).port := by
  unfold stopStation
  split
  · next absent =>
    rw [h.idle absent]
    exact .refl h.owns.differ
  · exact State.enterAbsent_answered h.owns ..

/-- Two stations do not name one pair. -/
theorem StopOwned.exchange_kept {s : State} {a b j : Nat} (ha : StopOwned s a) (hb : StopOwned s b) (h : a ≠ b)
    (field : (s.station b).exchange = some (.command j)) : (stopStation s a).exchange j = s.exchange j := by
  refine stopStation_exchange_of_ne s fun mine => h ?_
  obtain ⟨x, hx, rfl⟩ := ha.names j mine
  obtain ⟨y, hy, rfl⟩ := hb.names j field
  rw [Option.some.inj (hx.symm.trans hy)]

theorem StopOwned.entries_kept {s : State} {a b : Nat} (ha : StopOwned s a) (hb : StopOwned s b) (h : a ≠ b) :
    (stopStation s a).workEntries b = s.workEntries b := by
  have flight : (stopStation s a).entryInFlight b = s.entryInFlight b := by
    unfold State.entryInFlight
    rw [stopStation_other s h]
    cases field : (s.station b).exchange with
    | none => rfl
    | some p =>
      cases p with
      | service k => rfl
      | command j => simp only [Option.bind_some, ha.exchange_kept hb h field]
  rw [State.workEntries, State.workEntries, flight, stopStation_queueOf s h]

theorem StopOwned.replies_kept {s : State} {a b : Nat} (ha : StopOwned s a) (hb : StopOwned s b) (h : a ≠ b) :
    (stopStation s a).workReplies b .aborted .aborted = s.workReplies b .aborted .aborted := by
  have waits := ha.answered.waiting .trim (some b) (fun e => h (Option.some.inj e).symm)
  simp only [State.workReplies_eq, State.operationReply, State.hostTrimReply, stopStation_other s h, waits,
    ha.entries_kept hb h]

/-- One station's stop leaves another's work as it was. -/
theorem StopOwned.kept {s : State} {a b : Nat} (ha : StopOwned s a) (hb : StopOwned s b) (h : a ≠ b) :
    StopOwned (stopStation s a) b where
  owns :=
    have awaits : ∀ {tag k}, s.port.awaits tag k (some b) → (stopStation s a).port.awaits tag k (some b) :=
      ha.answered.awaits _ _ _ (fun e => h (Option.some.inj e).symm)
    { differ := ha.answered.differ
      operation := fun o ho => awaits (hb.owns.operation o (stopStation_other s h ▸ ho))
      calls := fun e he call => awaits (hb.owns.calls e (ha.entries_kept hb h ▸ he) call)
      apart := by
        rw [ha.entries_kept hb h]
        exact hb.owns.apart }
  idle := by
    rw [stopStation_other s h, ha.replies_kept hb h]
    exact hb.idle
  names := fun j field => by
    rw [stopStation_other s h] at field
    rw [ha.exchange_kept hb h field]
    exact hb.names j field

/-- The stations' stop answers the work of each, in the order of the stations. -/
theorem stopStations_answered : ∀ (l : List Nat) {s : State}, l.Nodup → s.port.tagsDiffer → (∀ a ∈ l, StopOwned s a) →
    Answered (fun _ t => ∃ a ∈ l, t = some a) (l.flatMap (fun a => s.workReplies a .aborted .aborted)) s.port
      (l.foldl stopStation s).port := by
  intro l
  induction l with
  | nil => exact fun _ differ _ => .refl differ
  | cons a l ih =>
    intro s nodup differ owned
    obtain ⟨fresh, nodup⟩ := List.nodup_cons.mp nodup
    have ha := owned a List.mem_cons_self
    have hl : ∀ b ∈ l, a ≠ b ∧ StopOwned s b := fun b hb =>
      ⟨fun e => fresh (e ▸ hb), owned b (List.mem_cons_of_mem a hb)⟩
    have rest := ih nodup ha.answered.differ fun b hb => ha.kept (hl b hb).2 (hl b hb).1
    have replies : l.flatMap (fun b => (stopStation s a).workReplies b .aborted .aborted) =
        l.flatMap (fun b => s.workReplies b .aborted .aborted) :=
      List.flatMap_congr fun b hb => ha.replies_kept (hl b hb).2 (hl b hb).1
    rw [replies] at rest
    exact (ha.answered.mono fun _ _ e => ⟨a, List.mem_cons_self, e⟩).trans
      (rest.mono fun _ _ ⟨b, hb, e⟩ => ⟨b, List.mem_cons_of_mem a hb, e⟩)

theorem stopOwned_of_invariants {s : State} {a : Nat} (hp : PortBounded s) (hw : WorkOwned s)
    (low : s.port.rstnLow = false) (ha : a ∈ addresses) : StopOwned s a where
  owns := ownsWork_of_invariants hp hw low ha
  idle := fun absent => workReplies_of_absent hw low ha absent _ _
  names := fun j field => by
    obtain ⟨-, ⟨-, -, backs⟩, -⟩ := hw low
    have back := backs a ha _ field
    cases hx : s.exchange j with
    | none => simp [State.backs, hx] at back
    | some x => exact ⟨x, rfl, by simpa [State.backs, hx] using back⟩

/-! ### What the stations' stop leaves in the queue and the pairs: nothing -/

/-- The stop of a station that is not ABSENT removes its entries and frees the pair it names. -/
theorem stopStation_ends {s : State} {a : Nat} (present : (s.station a).state ≠ .absent) :
    (∀ e ∈ (stopStation s a).calls.queue, e.station ≠ a) ∧
    (∀ j, (s.station a).exchange = some (.command j) → (stopStation s a).exchange j = none) ∧
    ∀ k, (s.station a).exchange = some (.service k) → (stopStation s a).trims.held k = none := by
  have enters : stopStation s a = s.enterAbsent a .stopped .aborted .aborted := if_neg present
  rw [enters]
  refine ⟨fun e he => ?_, fun j field => ?_, fun k field => ?_⟩
  · rw [State.enterAbsent_queue] at he
    simpa using (List.mem_filter.mp he).2
  · rw [State.enterAbsent_exchange, if_pos field]
  · rw [State.enterAbsent_held, if_pos field]

/-- Among the stops of all stations, that of a station not ABSENT has removed what was the station's. -/
theorem stopStations_ends {s : State} {a : Nat} (ha : a ∈ addresses) (present : (s.station a).state ≠ .absent) :
    (∀ e ∈ (addresses.foldl stopStation s).calls.queue, e.station ≠ a) ∧
    (∀ j, (s.station a).exchange = some (.command j) → (addresses.foldl stopStation s).exchange j = none) ∧
    ∀ k, (s.station a).exchange = some (.service k) → (addresses.foldl stopStation s).trims.held k = none := by
  obtain ⟨t, same, -, ⟨⟨exchanges, helds⟩, queue⟩, -⟩ := stopStations_at ha addresses_nodup s
  obtain ⟨noEntry, noExchange, noTrim⟩ := stopStation_ends (s := t) (a := a) (by rwa [same])
  rw [same] at noExchange noTrim
  refine ⟨fun e he => noEntry e (queue e he), fun j field => ?_, fun k field => ?_⟩
  · exact Option.eq_none_iff_forall_ne_some.mpr fun x hx => by
      simpa [noExchange j field] using exchanges j x hx
  · exact Option.eq_none_iff_forall_ne_some.mpr fun b hb => by
      simpa [noTrim k field] using helds k b hb

/-- Under the invariants all entries, exchanges and trim exchanges end with their stations' stop (R86, R128). -/
theorem stopStations_idle {s : State} (hx : ExchangesAgree s) (hw : WorkOwned s) (low : s.port.rstnLow = false) :
    (addresses.foldl stopStation s).calls.queue = [] ∧ (∀ j, (addresses.foldl stopStation s).exchange j = none) ∧
    ∀ k, (addresses.foldl stopStation s).trims.held k = none := by
  obtain ⟨trims, commands, -⟩ := hx
  obtain ⟨entries, ⟨-, active, -⟩, operations, -⟩ := hw low
  obtain ⟨⟨exchanges, helds⟩, queue⟩ := stopStations_workOnlyEnds addresses s
  refine ⟨List.eq_nil_iff_forall_not_mem.mpr fun e he => ?_, fun j => ?_, fun k => ?_⟩
  · obtain ⟨ha, present⟩ := entries.not_absent operations (List.mem_append_left _ (queue e he))
    exact (stopStations_ends ha present).1 e he rfl
  · cases hf : (addresses.foldl stopStation s).exchange j with
    | none => rfl
    | some x =>
      have was := exchanges j x hf
      have pair := State.exchange_mem was
      have member : x.entry ∈ s.entries :=
        List.mem_append_right _ (List.mem_map.mpr ⟨x, List.mem_filterMap.mpr ⟨j, pair, was⟩, rfl⟩)
      obtain ⟨ha, present⟩ := entries.not_absent operations member
      rw [(stopStations_ends ha present).2.1 j (commands j pair x was)] at hf
      exact hf.symm
  · cases hf : (addresses.foldl stopStation s).trims.held k with
    | none => rfl
    | some a =>
      have was := helds k a hf
      have pair := mem_pairNumbers.mpr (TrimScheduler.held_mem was)
      have field := (trims k pair a was).1
      have present : (s.station a).state ≠ .absent := by
        rw [active k pair a was]
        decide
      have ha : a ∈ addresses := by
        by_contra outside
        simp [State.station_of_not_mem s outside] at field
      rw [(stopStations_ends ha present).2.2 k field] at hf
      exact hf.symm

/-! ### The completed stop -/

/-- Beside the stations' stops the wake queue is emptied (R86). -/
theorem stationManagerStop_parts (s : State) :
    (stationManagerStop s).station = (addresses.foldl stopStation s).station ∧
    (stationManagerStop s).calls = (addresses.foldl stopStation s).calls ∧
    (stationManagerStop s).trims = (addresses.foldl stopStation s).trims ∧
    (stationManagerStop s).port = (addresses.foldl stopStation s).port ∧
    (stationManagerStop s).stations.wakeQueue = [] := by
  unfold stationManagerStop
  generalize addresses.foldl stopStation s = t
  exact ⟨rfl, rfl, rfl, rfl, rfl⟩

/-- What a completed stop leaves of the stations, the queue, the pairs and the streams (R11, R48, R86, R128). -/
theorem trunkStops_clears (s : State) :
    (∀ a, 1 ≤ a → a ≤ 15 → ((trunkStops s).station a).state = .absent) ∧ (trunkStops s).stations.wakeQueue = [] ∧
    (trunkStops s).calls.queue = [] ∧ (∀ j, (trunkStops s).exchange j = none) ∧
    ∀ id st, (trunkStops s).stream id = some st → st.state ≠ .live := by
  have stations : (trunkStops s).stations = (callUnitStop (stationManagerStop s.halted)).stations := by
    simp only [trunkStops_eq, State.answerKind_frame, streamUnitStop_frame]
  have calls : (trunkStops s).calls = (callUnitStop (stationManagerStop s.halted)).calls := by
    simp only [trunkStops_eq, State.answerKind_frame, streamUnitStop_frame]
  have streams : (trunkStops s).streams = (streamUnitStop (callUnitStop (stationManagerStop s.halted))).streams := by
    simp only [trunkStops_eq, State.answerKind_frame]
  refine ⟨fun a h1 h15 => ?_, ?_, ?_, fun j => ?_, fun id st h => ?_⟩
  · rw [State.station, stations]
    refine (callUnitStop_state (stationManagerStop s.halted) a).trans ?_
    rw [(stationManagerStop_parts s.halted).1]
    exact stopStations_absent s.halted h1 h15
  · rw [stations, callUnitStop_wakeQueue, (stationManagerStop_parts s.halted).2.2.2.2]
  · rw [calls, callUnitStop_queue]
  · rw [State.exchange, calls]
    exact callUnitStop_exchange _ j
  · rw [State.stream, streams] at h
    exact streamUnitStop_not_live h

/-- Under the invariants of the port and of its work a completed stop answers the stations' work, then TRUNK START and
TRUNK STOP, and no trim exchange is left (R11, R68, R86). -/
theorem trunkStops_answers {s : State} (low : s.port.rstnLow = false) (hp : PortBounded s) (hx : ExchangesAgree s)
    (hw : WorkOwned s) :
    (∀ k, (trunkStops s).trims.held k = none) ∧
    (trunkStops s).port.replies = s.port.replies ++ addresses.flatMap (fun a => s.workReplies a .aborted .aborted) ++
      (s.port.waiting .trunkStart none).toList.map (fun tag => deferredReply .trunkStart tag .aborted .short) ++
      (s.port.waiting .trunkStop none).toList.map (fun tag => deferredReply .trunkStop tag .ok .short) := by
  obtain ⟨queue, exchanges, helds⟩ := stopStations_idle (s := s.halted) hx hw low
  have work := stopStations_answered addresses (s := s.halted) addresses_nodup hp.2.2.2.1
    fun a ha => stopOwned_of_invariants (s := s.halted) hp hw low ha
  obtain ⟨-, calls, trims, port, -⟩ := stationManagerStop_parts s.halted
  have port : (streamUnitStop (callUnitStop (stationManagerStop s.halted))).port =
      (addresses.foldl stopStation s.halted).port := by
    rw [(streamUnitStop_frame _).2.2.2.2.2.2.1, callUnitStop_port (by rw [calls, queue]), port]
    intro j
    rw [State.exchange, calls]
    exact exchanges j
  have trims : (trunkStops s).trims = (addresses.foldl stopStation s.halted).trims := by
    simp only [trunkStops_eq, State.answerKind_frame, streamUnitStop_frame, callUnitStop_frame, trims]
  refine ⟨fun k => by rw [trims, helds], ?_⟩
  rw [trunkStops_eq]
  generalize streamUnitStop (callUnitStop (stationManagerStop s.halted)) = v at port
  rw [← port] at work
  have started := State.answerKind_answered (s := v) work.differ .trunkStart none .aborted .short
  have stopped := State.answerKind_answered (s := v.answerKind .trunkStart none .aborted .short) started.differ
    .trunkStop none .ok .short
  rw [started.waiting .trunkStop none (by simp), work.waiting .trunkStop none (by simp)] at stopped
  rw [work.waiting .trunkStart none (by simp)] at started
  have listed := stopped.replies
  rw [started.replies, work.replies] at listed
  exact listed

/-- Where the trunk's state and the frame number complete a stop, the frame end is that of the stop (R3, R11). -/
theorem settleTrunk_stops {s : State} (h : s.engine.trunk = .stopping ∨
    (s.engine.frameNumber = Config.lastFrame ∧ (s.engine.trunk = .starting ∨ s.engine.trunk = .running))) :
    settleTrunk s = trunkStops s := by
  obtain h | ⟨last, h | h⟩ := h
  · simp only [settleTrunk, h]
  · simp only [settleTrunk, h, last, if_true]
  · simp only [settleTrunk, h, last, if_true]

/-- Settles O39: the frame end is the completed stop of the closed frame, and each owner's part of it is read off. -/
theorem trunkStopClearsStationsAndCalls : Obligations.TrunkStopClearsStationsAndCalls := by
  intro s c low frame ends
  have stops : s.engine.trunk = .stopping ∨
      (s.engine.frameNumber = Config.lastFrame ∧ (s.engine.trunk = .starting ∨ s.engine.trunk = .running)) :=
    ends.imp And.right And.right
  have run : exec c s = .next (frameEnd s) := by
    obtain ⟨rfl, trunk⟩ | ⟨rfl, last, trunk⟩ := ends
    · show execTrunkStopComplete s = _
      simp only [execTrunkStopComplete, whileReleased, low, frame, trunk, and_self, if_true, Bool.false_eq_true,
        if_false]
    · show execFrameNumberExhausted s = _
      have number : s.engine.frameNumber = Config.lastFrame := last
      simp only [execFrameNumberExhausted, whileReleased, low, frame, number, trunk, and_self, if_true,
        Bool.false_eq_true, if_false]
  have engine : (frameEnd s).engine = { s.engine with trunk := .stopped, countdown := 0, frame := none, line := none } := by
    rw [frameEnd_engine, FrameEngine.ended_stops stops]
    rfl
  have settles : frameEnd s = trunkStops (closeFrame s) :=
    settleTrunk_stops (by rw [closeFrame_engine]; exact stops)
  have released : (closeFrame s).port.rstnLow = false := (closeFrame_wakes s).low.trans low
  obtain ⟨stations, wakes, queue, exchanges, streams⟩ := trunkStops_clears (closeFrame s)
  rw [← settles] at stations wakes queue exchanges streams
  refine ⟨frameEnd s, run, exec_frameEnd low frame, engine, (frameEnd_frame s).1, stations, wakes, queue, exchanges,
    streams, fun u hu hp hx hw => ?_⟩
  rw [settles]
  rw [← hu] at released ⊢
  exact trunkStops_answers released hp hx hw

end Sys2Proof.Machine
end

section

namespace Sys2Proof.Machine

/-! ## Slot tables and stream sets (R20, R24, R26, R28) -/

/-- The role of a slot after some slots of the frame take a role. -/
theorem setRoles_role (which : List Nat) (r : Role) : ∀ (slots : Vector Role 32) (k : Nat),
    ((setRoles slots which r)[k]?).getD .free = if k ∈ which ∧ k < 32 then r else (slots[k]?).getD .free := by
  unfold setRoles
  induction which with
  | nil => simp
  | cons i which ih =>
    intro slots k
    rw [List.foldl_cons, ih, vector_getD_set]
    by_cases here : i = k
    · subst here
      by_cases hk : i < 32 <;> simp [hk]
    · simp [here, Ne.symm here]

theorem Plan.addStream_role (p : Plan) (id : Nat) (slotList : List Nat) (k : Nat) :
    (p.addStream id slotList).role k = if k ∈ slotList ∧ k < 32 then .stream id else p.role k :=
  setRoles_role ..

theorem Plan.dropStream_role (p : Plan) (id : Nat) (slotList : List Nat) (k : Nat) :
    (p.dropStream id slotList).role k = if k ∈ slotList ∧ k < 32 then .free else p.role k :=
  setRoles_role ..

theorem Plan.mem_freeSlots {p : Plan} {k : Nat} : k ∈ p.freeSlots ↔ k < 32 ∧ p.role k = .free := by
  simp [Plan.freeSlots]

theorem mem_insertId {id i : Nat} {ids : List Nat} : i ∈ insertId id ids ↔ i = id ∨ i ∈ ids := by
  simp only [insertId, List.mem_append, List.mem_filter, List.mem_cons, decide_eq_true_eq]
  grind

/-- An id that joins an ascending stream set leaves it ascending (R20, R26). -/
theorem insertId_sorted {id : Nat} {ids : List Nat} (h : ids.Pairwise (· < ·)) :
    (insertId id ids).Pairwise (· < ·) := by
  refine List.pairwise_append.mpr ⟨h.filter _, List.pairwise_cons.mpr ⟨fun i hi => ?_, h.filter _⟩, fun i hi j hj => ?_⟩
  · simpa using (List.mem_filter.mp hi).2
  · have below : i < id := by simpa using (List.mem_filter.mp hi).2
    obtain rfl | above := List.mem_cons.mp hj
    · exact below
    · have above : id < j := by simpa using (List.mem_filter.mp above).2
      exact below.trans above

/-! ## The requests of the plans: OPEN STREAM, CLOSE STREAM, COMMIT (R24 to R32) -/

theorem openInRange_iff (a d n cap wm : Nat) : openInRange a d n cap wm = true ↔
    1 ≤ a ∧ a ≤ 15 ∧ d ≤ 1 ∧ 1 ≤ n ∧ n ≤ 8 ∧ 16 ≤ cap ∧ cap ≤ 256 ∧ cap % 16 = 0 ∧ 1 ≤ wm ∧ wm ≤ cap := by
  simp only [openInRange, Bool.and_eq_true, decide_eq_true_eq, beq_iff_eq, and_assoc]

theorem State.freeId_eq_none {s : State} (h : ∀ id, 1 ≤ id → id ≤ 24 → s.stream id ≠ none) : s.freeId = none := by
  refine List.find?_eq_none.mpr fun id hid => ?_
  obtain ⟨h1, h24⟩ := mem_streamIds.mp hid
  simpa using h id h1 h24

/-- The id of a new stream is the lowest that no stream holds (R25). -/
theorem State.freeId_eq_some {s : State} {id : Nat} (h1 : 1 ≤ id) (h24 : id ≤ 24) (free : s.stream id = none)
    (lowest : ∀ i, 1 ≤ i → i < id → s.stream i ≠ none) : s.freeId = some id := by
  have found : (List.range 24).find? ((fun i => (s.stream i).isNone) ∘ (· + 1)) = some (id - 1) := by
    refine List.find?_range_eq_some.mpr ⟨?_, List.mem_range.mpr (by omega), fun j hj => ?_⟩
    · simp [Nat.sub_add_cancel h1, free]
    · simpa [Option.isSome_iff_ne_none] using lowest (j + 1) (by omega) (by omega)
  rw [State.freeId, streamIds, List.find?_map, found, Option.map_some, Nat.sub_add_cancel h1]

theorem deleteStream_stream {s : State} {id : Nat} (st : Stream) (h : id ∈ streamIds) (i : Nat) :
    (deleteStream id st s).stream i = if id = i then none else s.stream i := by
  refine (StreamUnit.get_set s.streams id i none).trans ?_
  simp [mem_streamIds.mp h, State.stream]

theorem placeStream_stream {s : State} {id : Nat} (st : Stream) (h : id ∈ streamIds) (i : Nat) :
    (placeStream id st s).stream i = if id = i then some st else s.stream i := by
  refine (StreamUnit.get_set s.streams id i (some st)).trans ?_
  simp [mem_streamIds.mp h, State.stream]

/-- A stream of the active plan that is marked closing keeps the rest of its record (R29, R45). -/
theorem markClosing_streams (s : State) (id : Nat) (st : Stream) :
    (markClosing id st s).streams = s.streams.set id (some { st with closing := true }) := by
  simp only [markClosing]
  split <;> rfl

theorem markClosing_stream {s : State} {id : Nat} (st : Stream) (h : id ∈ streamIds) (i : Nat) :
    (markClosing id st s).stream i = if id = i then some { st with closing := true } else s.stream i := by
  rw [State.stream, markClosing_streams, StreamUnit.get_set]
  simp only [mem_streamIds.mp h, and_self, and_true, State.stream]

/-- Its DATA marker is offered where it is an UP stream with words (R59). -/
theorem markClosing_notices (s : State) (id : Nat) (st : Stream) : (markClosing id st s).notices =
    if st.direction = .up ∧ 1 ≤ st.buffer.length then s.notices.offerMarker id (.data id) else s.notices := by
  have due : st.restDue = true ↔ st.direction = .up ∧ 1 ≤ st.buffer.length := by
    rw [Stream.restDue, Bool.and_eq_true, beq_iff_eq, decide_eq_true_eq, Stream.level]
  simp only [markClosing, due]
  split <;> rfl

theorem markClosing_plans (s : State) (id : Nat) (st : Stream) : (markClosing id st s).plans =
    { s.plans with staged := s.plans.staged.dropStream id st.slotList } := by
  simp only [markClosing]
  split <;> rfl

/-- Settles O24: the tests of R31 are those of the statement. -/
theorem commitRecordsTarget : Obligations.CommitRecordsTarget := by
  rintro f s F taken rfl
  have run : exec .commit s = .next (serveCommit f s.popIntake) := takesRequest_served serveCommit taken
  have target : commitTarget f s.engine.frameNumber =
      if f.payload = [] then s.engine.frameNumber + 1 else number f.payload := by
    simp only [commitTarget, List.isEmpty_iff]
  rw [run, ← target]
  simp only [serveCommit, State.popIntake_engine, State.popIntake_plans, Option.isSome_iff_ne_none,
    State.popIntake_refuse]
  have late : ∀ F n : Nat, (F ≤ n ∨ Config.lastFrame < F) ↔ ¬ (n + 1 ≤ F ∧ F ≤ 0xFFFFFFFFFFFF) := fun F n => by
    simp only [Config.lastFrame]
    omega
  have far : ∀ F n : Nat, n + Config.commitLead < F ↔ ¬ F ≤ n + 1048576 := fun F n => by
    simp only [Config.commitLead]
    omega
  simp only [late, far]
  repeat' split
  all_goals rfl

/-- Settles O21: the tests of R24 one after another, then the place of the new stream read off `placeStream`. -/
theorem openStreamPlacesStream : Obligations.OpenStreamPlacesStream := by
  rintro f s a d n cap wm taken rfl rfl rfl rfl rfl ok free hok hfree
  have run : exec .openStream s = .next (serveOpenStream f s.popIntake) := takesRequest_served serveOpenStream taken
  rw [← openInRange_iff] at hok
  replace hfree : free = s.plans.staged.freeSlots := hfree
  subst hok hfree
  refine ⟨fun bad => ?_, fun good commit => ?_, fun good commit => ⟨fun held => ?_, fun id h1 h24 none lowest => ?_⟩⟩
  · simp [run, serveOpenStream, bad, State.popIntake_refuse]
  · simp [run, serveOpenStream, good, Option.isSome_iff_ne_none.mpr commit, State.popIntake_refuse]
  · have noId : s.popIntake.freeId = none := State.freeId_eq_none held
    simp [run, serveOpenStream, good, commit, noId, State.popIntake_refuse]
  · have newId : s.popIntake.freeId = some id := State.freeId_eq_some h1 h24 none lowest
    refine ⟨fun few => ?_, fun room poor => ?_, fun room rich => ?_⟩
    · simp [run, serveOpenStream, good, commit, newId, few, State.popIntake_refuse]
    · have poor : s.streams.freeBlocks < f.param16 3 / Config.blockWords := poor
      simp [run, serveOpenStream, good, commit, newId, Nat.not_lt.mpr room, poor, State.popIntake_refuse]
    · have rich : ¬ s.streams.freeBlocks < f.param16 3 / Config.blockWords := Nat.not_lt.mpr rich
      have accepted : serveOpenStream f s.popIntake =
          (placeStream id (newStream (f.param 0) (if f.param 1 = 0 then .down else .up)
            (s.plans.staged.freeSlots.take (f.param 2)) (f.param16 3) (f.param16 5)) s.popIntake).accept .openStream f
            (.openStream id (s.plans.staged.freeSlots.take (f.param 2))) := by
        simp [serveOpenStream, good, commit, newId, Nat.not_lt.mpr room, rich]
      have mem : id ∈ streamIds := mem_streamIds.mpr ⟨h1, h24⟩
      rw [run, accepted]
      refine ⟨_, rfl, rfl, ?_, fun i other => ?_, rfl, rfl, commit, rfl, fun i => mem_insertId, fun k => ?_⟩
      · exact (placeStream_stream _ mem id).trans (if_pos rfl)
      · exact (placeStream_stream _ mem i).trans (if_neg (Ne.symm other))
      · have inFrame : k ∈ s.plans.staged.freeSlots.take (f.param 2) → k < 32 := fun hk =>
          (Plan.mem_freeSlots.mp (List.mem_of_mem_take hk)).1
        refine (Plan.addStream_role ..).trans ?_
        simp only [newStream, and_iff_left_of_imp inFrame]
        rfl

/-- Settles O22: the tests of R27, then the removal of a STAGED stream (R28) or the mark of another (R29). -/
theorem closeStreamRemovesOrMarks : Obligations.CloseStreamRemovesOrMarks := by
  rintro f s id taken rfl
  have run : exec .closeStream s = .next (serveCloseStream f s.popIntake) := takesRequest_served serveCloseStream taken
  refine ⟨fun commit => ?_, fun commit none => ?_, fun st commit hst => ⟨fun closing => ?_, fun opened => ?_⟩⟩
  · simp [run, serveCloseStream, Option.isSome_iff_ne_none.mpr commit, State.popIntake_refuse]
  · simp [run, serveCloseStream, commit, none, State.popIntake_refuse]
  · simp [run, serveCloseStream, commit, hst, closing, State.popIntake_refuse]
  · have mem : f.param 0 ∈ streamIds := State.stream_mem hst
    by_cases staged : st.state = .staged
    · have removed : serveCloseStream f s.popIntake =
          (deleteStream (f.param 0) st (unstage (f.param 0) st s.popIntake)).accept .closeStream f
            (.closeStream (f.param 0) .removed st.level) := by
        simp [serveCloseStream, commit, hst, opened, staged]
      rw [run, removed]
      refine ⟨_, rfl, rfl, commit, rfl, fun k => Plan.dropStream_role .., fun i other => ?_, rfl, rfl, rfl, rfl, rfl,
        fun _ => ⟨?_, rfl, rfl, rfl⟩, fun active => absurd staged active⟩
      · exact (deleteStream_stream st mem i).trans (if_neg (Ne.symm other))
      · exact (deleteStream_stream st mem _).trans (if_pos rfl)
    · have marked : serveCloseStream f s.popIntake = (markClosing (f.param 0) st s.popIntake).accept .closeStream f
          (.closeStream (f.param 0) .closing 0) := by
        simp [serveCloseStream, commit, hst, opened, staged]
      rw [run, marked]
      have plans := markClosing_plans s.popIntake (f.param 0) st
      have others := markClosing_frame s.popIntake (f.param 0) st
      obtain ⟨engine, stations, trims, calls, faults, port, -⟩ := others
      have blocks : (markClosing (f.param 0) st s.popIntake).streams.freeBlocks = s.streams.freeBlocks := by
        rw [markClosing_streams, StreamUnit.set_freeBlocks, State.popIntake_streams]
      refine ⟨_, rfl, (congrArg PlanStore.active plans :), (congrArg PlanStore.commit plans :).trans commit,
        (congrArg (·.staged.streams) plans :), fun k => ?_, fun i other => ?_, engine, stations, trims, calls, faults,
        fun h => absurd h staged, fun _ => ⟨?_, blocks, markClosing_notices .., ?_⟩⟩
      · exact (congrArg (·.staged.role k) plans :).trans (Plan.dropStream_role ..)
      · exact (markClosing_stream st mem i).trans (if_neg (Ne.symm other))
      · exact (markClosing_stream st mem _).trans (if_pos rfl)
      · rw [State.accept_port, port]
        rfl

/-! ## Folds over streams, and DISCARD (R30, R33, R46) -/

/-- A fold that treats each named stream's record alike, and a record treated once stays; `m` holds the stations. -/
theorem foldl_records {f : State → Nat → State} {g : Option Stream → Option Stream} {m : StationManager}
    (stations : ∀ s i, (f s i).stations = s.stations)
    (one : ∀ s i j, s.stations = m → (f s i).stream j = if i = j then g (s.stream i) else s.stream j)
    (again : ∀ o, g (g o) = g o) : ∀ (l : List Nat) (s : State), s.stations = m → ∀ j,
    (l.foldl f s).stream j = if j ∈ l then g (s.stream j) else s.stream j := by
  intro l
  induction l with
  | nil => intro s _ j; simp
  | cons i l ih =>
    intro s hs j
    rw [List.foldl_cons, ih _ ((stations s i).trans hs), one s i j hs]
    by_cases here : i = j
    · subst here
      simp [again]
    · simp [here, Ne.symm here]

/-- What a DISCARD makes of a stream's record (R44, R45). -/
def Stream.discarded (st : Stream) : Option Stream :=
  if st.state = .staged then none else some { st with closing := false }

theorem discardStream_stream (s : State) (i j : Nat) :
    (discardStream s i).stream j = if i = j then (s.stream i).bind Stream.discarded else s.stream j := by
  have kept : s.stream j = if i = j then s.stream i else s.stream j := by
    split
    · next here => rw [here]
    · rfl
  cases hst : s.stream i with
  | none => simpa only [discardStream, hst, Option.bind_none] using kept
  | some st =>
    have mem := State.stream_mem hst
    by_cases staged : st.state = .staged
    · simp only [discardStream, hst, Option.bind_some, Stream.discarded, staged, if_true]
      exact deleteStream_stream st mem j
    · cases closing : st.closing with
      | true =>
        simp only [discardStream, hst, Option.bind_some, Stream.discarded, staged, closing, if_true, if_false,
          State.setStream_stream, mem_streamIds.mp mem, and_true]
      | false =>
        have same : { st with closing := false } = st := by rw [← closing]
        simpa only [discardStream, hst, Option.bind_some, Stream.discarded, staged, closing, Bool.false_eq_true,
          if_false, same] using kept

/-- A DISCARD removes the STAGED streams and clears the closing flag of the others (R30). -/
theorem discardStreams_stream (s : State) (id : Nat) :
    (streamIds.foldl discardStream s).stream id = (s.stream id).bind Stream.discarded := by
  have again : ∀ o : Option Stream, (o.bind Stream.discarded).bind Stream.discarded = o.bind Stream.discarded := by
    rintro (_ | st)
    · rfl
    · by_cases staged : st.state = .staged <;> simp [Stream.discarded, staged]
  rw [foldl_records (g := (·.bind Stream.discarded)) (fun t i => (discardStream_frame t i).2.2.1)
    (fun t i j _ => discardStream_stream t i j) again streamIds s rfl]
  split
  · rfl
  · next outside =>
    cases hst : s.stream id with
    | none => rfl
    | some st => exact absurd (State.stream_mem hst) outside

/-- Of the state it changes the streams alone (R30). -/
theorem discardStreams_eq (s : State) :
    streamIds.foldl discardStream s = { s with streams := (streamIds.foldl discardStream s).streams } := by
  refine foldl_keeps (P := fun t : State => t = { s with streams := t.streams }) (fun t id ht => ?_) streamIds s rfl
  have one : discardStream t id = { t with streams := (discardStream t id).streams } := by
    unfold discardStream
    repeat' split
    all_goals rfl
  rw [one, ht]

theorem State.countStreams_eq (s : State) (test : Stream → Bool) :
    s.countStreams test = (streamIds.filter (fun id => (s.stream id).any test)).length := by
  rw [State.countStreams, List.countP_eq_length_filter]
  congr 2
  funext id
  cases s.stream id <;> rfl

/-- Settles O23: the fold over the streams changes their records alone, each by `Stream.discarded`. -/
theorem discardRestoresStagedPlan : Obligations.DiscardRestoresStagedPlan := by
  intro f s taken
  have run : exec .discard s = .next (serveDiscard f s.popIntake) := takesRequest_served serveDiscard taken
  refine ⟨fun commit => ?_, fun commit => ?_⟩
  · simp [run, serveDiscard, Option.isSome_iff_ne_none.mpr commit, State.popIntake_refuse]
  · have records := discardStreams_stream s.popIntake
    have others := discardStreams_eq s.popIntake
    have waiting : ¬ s.popIntake.plans.commit.isSome = true := by simp [commit]
    rw [run]
    simp only [serveDiscard, waiting, Bool.false_eq_true, if_false]
    generalize streamIds.foldl discardStream s.popIntake = u at records others
    refine ⟨_, _, _, rfl, s.popIntake.countStreams_eq _, s.popIntake.countStreams_eq _, ?_, records⟩
    rw [others]
    rfl

end Sys2Proof.Machine
end

section

namespace Sys2Proof.Machine

/-! ## What the blocks can do to the streams and the notices

Between the requests of the Plan Store, the plan swap and the resets, every operation of the blocks is made of a few
edits: a station changes its state and its streams follow, a stream's words and counts change, a notice is offered, or
something aside from all this changes. Each operation is shown once to be made of them; what an edit keeps, all of them
keep. -/

/-- Between s and t the plans, the streams, the notices and the state of every station stay, and replies are only
queued. -/
structure Aside (s t : State) : Prop where
  setup : t.engine.setup = s.engine.setup
  active : t.plans.active = s.plans.active
  staged : t.plans.staged = s.plans.staged
  streams : t.streams = s.streams
  states : ∀ a, (t.station a).state = (s.station a).state
  notices : t.notices = s.notices
  replies : s.port.replies <+: t.port.replies

/-- Two records of a stream differ in its words and its counts alone. -/
structure Stream.SameTerms (st st' : Stream) : Prop where
  station : st'.station = st.station
  direction : st'.direction = st.direction
  slotList : st'.slotList = st.slotList
  capacity : st'.capacity = st.capacity
  blocks : st'.blocks = st.blocks
  state : st'.state = st.state
  closing : st'.closing = st.closing

/-- From s the edits lead to t. -/
inductive Edits : State → State → Prop
  | aside {s t : State} (h : Aside s t) : Edits s t
  /-- R66, R67 -/
  | moved (s : State) (a : Nat) (new : StationState) (reason : Reason) : Edits s (s.moveStation a new reason)
  /-- R52 to R58, R60 -/
  | worked {s : State} {id : Nat} {st st' : Stream} (h : s.stream id = some st)
      (terms : st.SameTerms st' := by exact ⟨rfl, rfl, rfl, rfl, rfl, rfl, rfl⟩) : Edits s (s.setStream id (some st'))
  /-- R48 -/
  | held {s : State} {id : Nat} {st : Stream} (h : s.stream id = some st) (live : st.state = .live)
      (idle : (s.station st.station).state ≠ .active) : Edits s (s.setStream id (some { st with state := .held }))
  /-- R165 -/
  | noticed (s : State) {n : Notice} (full : n.marker = none := by rfl) : Edits s (s.offer n)
  /-- R166 -/
  | data {s : State} {id : Nat} (h : s.stream id ≠ none) : Edits s (s.offerData id)
  /-- R166 -/
  | space {s : State} {id : Nat} (h : s.stream id ≠ none) : Edits s (s.offerSpace id)
  | trans {s t u : State} (h : Edits s t) (k : Edits t u) : Edits s u

theorem Aside.of_port {s t : State} (h : t = { s with port := t.port }) (replies : s.port.replies <+: t.port.replies) :
    Aside s t := by
  rw [h]
  exact ⟨rfl, rfl, rfl, rfl, fun _ => rfl, rfl, replies⟩

/-- What is written aside is read off by computation. -/
theorem Edits.same {s t : State}
    (h : Aside s t := by exact ⟨rfl, rfl, rfl, rfl, fun _ => rfl, rfl, List.prefix_rfl⟩) : Edits s t := .aside h

theorem Edits.refl (s : State) : Edits s s := .aside (.of_port rfl List.prefix_rfl)

theorem Edits.foldl {α : Type} {f : State → α → State} (h : ∀ s x, Edits s (f s x)) (l : List α) (s : State) :
    Edits s (l.foldl f s) :=
  foldl_keeps (P := Edits s) (fun b x hb => hb.trans (h b x)) l s (.refl s)

section
variable (s : State)

/-! ### Records, replies and the command queue -/

theorem State.onStation_edits (a : Nat) {f : Station → Station}
    (h : ∀ r, (f r).state = r.state := by exact fun _ => rfl) : Edits s (s.onStation a f) := by
  refine .aside ⟨rfl, rfl, rfl, rfl, fun b => ?_, rfl, List.prefix_rfl⟩
  rw [State.onStation_station]
  split
  · next here => rw [h, here.1]
  · rfl

theorem State.setAccount_edits (a : Nat) (r : TrimAccount) : Edits s (s.setAccount a r) :=
  .same

theorem State.onAccount_edits (a : Nat) (f : TrimAccount → TrimAccount) : Edits s (s.onAccount a f) :=
  s.setAccount_edits ..

theorem State.holdTrim_edits (k : Nat) (a : Option Nat) : Edits s (s.holdTrim k a) :=
  .same

theorem State.setExchange_edits (j : Nat) (x : Option Exchange) : Edits s (s.setExchange j x) :=
  .same

theorem State.dequeue_edits (leaves : Entry → Bool) : Edits s (s.dequeue leaves) :=
  .same

theorem State.enqueue_edits (e : Entry) : Edits s (s.enqueue e) := by
  unfold State.enqueue
  split
  · exact .refl s
  · exact .same

theorem State.setPhase_edits (tag : Byte) (ph : Phase) : Edits s (s.setPhase tag ph) :=
  .aside (.of_port rfl List.prefix_rfl)

theorem State.enter_edits (e : Outstanding) : Edits s (s.enter e) := .aside (.of_port rfl List.prefix_rfl)

theorem State.popIntake_edits : Edits s s.popIntake := .aside (.of_port rfl List.prefix_rfl)

theorem State.replyNow_edits (k tag : Byte) (st : Status) (b : ReplyBody) : Edits s (s.replyNow k tag st b) :=
  .aside (.of_port rfl (List.prefix_append ..))

theorem State.accept_edits (k : ReqKind) (f : ReqFrame) (b : ReplyBody) : Edits s (s.accept k f b) :=
  s.replyNow_edits ..

theorem State.refuse_edits (k : ReqKind) (f : ReqFrame) (st : Status) : Edits s (s.refuse k f st) :=
  s.replyNow_edits ..

/-- An answer only queues a reply (R153). -/
theorem HostPort.answer_replies_prefix (p : HostPort) (tag : Byte) (st : Status) (b : ReplyBody) :
    p.replies <+: (p.answer tag st b).replies := by
  unfold HostPort.answer
  split
  · exact List.prefix_rfl
  · exact List.prefix_append ..

theorem State.answer_edits (tag : Byte) (st : Status) (b : ReplyBody) : Edits s (s.answer tag st b) :=
  .aside (.of_port rfl (HostPort.answer_replies_prefix ..))

theorem State.answerKind_edits (k : ReqKind) (t : Option Nat) (st : Status) (b : ReplyBody) :
    Edits s (s.answerKind k t st b) := by
  unfold State.answerKind
  split
  · exact .refl s
  · exact s.answer_edits ..

theorem State.failCall_edits (e : Entry) (st : Status) : Edits s (s.failCall e st) := by
  unfold State.failCall
  split
  · exact s.answer_edits ..
  · exact .refl s

theorem State.freePair_edits (j a : Nat) : Edits s (s.freePair j a) :=
  (s.setExchange_edits j none).trans (State.onStation_edits _ a)

theorem State.freeService_edits (k a : Nat) : Edits s (s.freeService k a) :=
  (s.holdTrim_edits k none).trans (State.onStation_edits _ a)

theorem State.setFault_edits (a : Nat) (c : FaultCell) : Edits s (s.setFault a c) :=
  .same

theorem State.reportFault_edits (a : Nat) (kind : FaultKind) (slot : Nat) (raw : Option Word) :
    Edits s (s.reportFault a kind slot raw) := by
  simp only [State.reportFault]
  split
  · exact s.setFault_edits ..
  · exact (s.setFault_edits ..).trans (.noticed _)

/-! ### A station's change of state and its work (R66 to R70) -/

theorem State.endOperation_edits (a : Nat) (st : Status) (b : ReplyBody) : Edits s (s.endOperation a st b) := by
  unfold State.endOperation
  split
  · exact .refl s
  · exact (s.onStation_edits a).trans (State.answer_edits ..)

theorem State.endHostTrim_edits (a : Nat) (st : Status) (b : ReplyBody) : Edits s (s.endHostTrim a st b) := by
  unfold State.endHostTrim
  split
  · exact (s.onStation_edits a).trans (State.answerKind_edits ..)
  · exact .refl s

theorem State.abandon_edits (a : Nat) (st : Status) : Edits s (s.abandon a st) := by
  unfold State.abandon
  repeat' split
  · exact .refl s
  · exact s.freeService_edits ..
  · exact s.freePair_edits ..
  · exact (s.freePair_edits ..).trans (State.failCall_edits ..)

theorem State.removeEntries_edits (a : Nat) (st : Status) : Edits s (s.removeEntries a st) :=
  (s.dequeue_edits _).trans (.foldl (fun t e => t.failCall_edits e st) _ _)

theorem State.disposeWork_edits (a : Nat) (st : Status) : Edits s (s.disposeWork a st) :=
  ((s.endHostTrim_edits ..).trans (State.abandon_edits ..)).trans (State.removeEntries_edits ..)

theorem State.endQuiet_edits (a : Nat) : Edits s (s.endQuiet a) := s.onAccount_edits ..

/-- The wake queue is no one's state. -/
theorem State.wakeQueue_edits (l : List Nat) : Edits s { s with stations := { s.stations with wakeQueue := l } } :=
  .same

theorem State.enterAbsent_edits (a : Nat) (reason : Reason) (o w : Status) : Edits s (s.enterAbsent a reason o w) :=
  (((((Edits.moved s a .absent reason).trans (State.endOperation_edits _ a o .short)).trans
    (State.onStation_edits _ a)).trans (State.wakeQueue_edits ..)).trans (State.endQuiet_edits ..)).trans
    (State.disposeWork_edits ..)

theorem State.enterFaulted_edits (a : Nat) (reason : Reason) (o w : Status) : Edits s (s.enterFaulted a reason o w) :=
  ((Edits.moved s a .faulted reason).trans (State.endOperation_edits ..)).trans (State.disposeWork_edits ..)

theorem State.missLimit_edits (a : Nat) (origin : StationState) : Edits s (s.missLimit a origin) := by
  unfold State.missLimit
  split
  · split
    · exact s.enterAbsent_edits ..
    · exact s.enterFaulted_edits ..
    · exact s.enterFaulted_edits ..
    all_goals exact .refl s
  · exact .refl s

theorem State.reportMiss_edits (a : Nat) : Edits s (s.reportMiss a) := s.onStation_edits a
theorem State.reportValid_edits (a : Nat) : Edits s (s.reportValid a) := s.onStation_edits a

/-! ### The exchanges of the command pairs (chapter 6) -/

theorem callEnds_edits (e : Entry) (r : Ending) : Edits s (callEnds e r s) := by
  unfold callEnds
  repeat' split
  all_goals exact s.answer_edits ..

theorem enrollFails_edits (a : Nat) (st : Status) : Edits s (enrollFails a st s) := by
  unfold enrollFails
  split
  · exact s.enterAbsent_edits ..
  · exact .refl s

theorem enrollNext_edits (e : Entry) (step : EnrollStep) (n : Nat) : Edits s (enrollNext e step n s) :=
  ((s.onStation_edits _).trans (State.enqueue_edits ..)).trans (State.setPhase_edits ..)

theorem enrollCompletes_edits (a : Nat) : Edits s (enrollCompletes a s) := by
  simp only [enrollCompletes]
  exact (((Edits.moved s a .active .enrolled).trans (State.endOperation_edits ..)).trans
    (State.onStation_edits _ a)).trans (State.onAccount_edits ..)

theorem enrollDone_edits (e : Entry) (m n : Nat) : Edits s (enrollDone e m n s) := by
  simp only [enrollDone]
  split
  case h_1 => exact .refl s
  case h_2 => exact enrollNext_edits ..
  all_goals split
  case h_6.isTrue => exact (s.onStation_edits _).trans (enrollCompletes_edits ..)
  case h_3.isTrue | h_4.isTrue | h_5.isTrue => exact (s.onStation_edits _).trans (enrollNext_edits ..)
  all_goals exact enrollFails_edits ..

theorem enrollEnds_edits (e : Entry) (r : Ending) : Edits s (enrollEnds e r s) := by
  unfold enrollEnds
  split
  · split
    · exact enrollDone_edits ..
    all_goals exact enrollFails_edits ..
  · exact .refl s

theorem drowseEnds_edits (e : Entry) (r : Ending) : Edits s (drowseEnds e r s) := by
  simp only [drowseEnds]
  split
  · split
    · exact ((Edits.moved ..).trans (State.endOperation_edits ..)).trans (State.endHostTrim_edits ..)
    · exact .refl s
  all_goals exact s.endOperation_edits ..

theorem probeEnds_edits (e : Entry) (r : Ending) : Edits s (probeEnds e r s) := by
  simp only [probeEnds]
  split
  · split
    · split
      · exact (Edits.moved ..).trans (State.endOperation_edits ..)
      · exact s.enterFaulted_edits ..
    all_goals exact s.enterFaulted_edits ..
  · exact .refl s

theorem handOff_edits (e : Entry) (r : Ending) : Edits s (handOff e r s) := by
  unfold handOff
  split
  · exact callEnds_edits ..
  · exact enrollEnds_edits ..
  · exact drowseEnds_edits ..
  · exact probeEnds_edits ..

theorem attemptMiss_edits (j slot : Nat) (x : Exchange) : Edits s (attemptMiss j slot x s) := by
  have attempt : ∀ t : State, Edits t
      (if x.attempt < Config.attempts then
        t.setExchange j (some { x with attempt := x.attempt + 1, framesLeft := t.engine.setup.window, sendDue := true })
      else
        handOff x.entry .noReply ((t.reportFault x.entry.station .noReply slot none).freePair j x.entry.station)) := by
    intro t
    split
    · exact t.setExchange_edits ..
    · exact ((t.reportFault_edits ..).trans (State.freePair_edits ..)).trans (handOff_edits ..)
  have limit : ∀ (t : State) (reached : Bool) (origin : StationState),
      Edits t (if reached then t.missLimit x.entry.station origin else t) := by
    intro t reached origin
    cases reached
    · exact .refl t
    · exact t.missLimit_edits ..
  exact ((s.reportMiss_edits x.entry.station).trans (attempt _)).trans (limit ..)

theorem exchangeReply_edits (j : Nat) (x : Exchange) (r : Ending) : Edits s (exchangeReply j x r s) :=
  ((s.reportValid_edits ..).trans (State.freePair_edits ..)).trans (handOff_edits ..)

theorem exchangeWait_edits (j : Nat) (x : Exchange) : Edits s (exchangeWait j x s) := by
  refine (s.reportValid_edits x.entry.station).trans ?_
  simp only [exchangeWait]
  split
  · exact State.setExchange_edits ..
  · exact (State.freePair_edits ..).trans (handOff_edits ..)

theorem exchangeSilent_edits (j slot : Nat) (x : Exchange) : Edits s (exchangeSilent j slot x s) := by
  simp only [exchangeSilent]
  split
  · exact s.setExchange_edits ..
  · exact attemptMiss_edits ..

theorem commandAnswer_edits (j slot : Nat) (x : Exchange) (c : UpClass) : Edits s (commandAnswer j slot x c s) := by
  unfold commandAnswer
  split
  · exact exchangeSilent_edits ..
  · exact (s.reportFault_edits ..).trans (attemptMiss_edits ..)
  · exact (s.reportFault_edits ..).trans (attemptMiss_edits ..)
  · exact exchangeReply_edits ..
  · exact exchangeReply_edits ..
  · exact exchangeReply_edits ..
  · exact exchangeWait_edits ..
  · exact .refl s

theorem grantPair_edits (j : Nat) : Edits s (grantPair s j) := by
  have queue : ∀ q, Edits s { s with calls := { s.calls with queue := q } } := fun _ =>
    .same
  simp only [grantPair]
  repeat' split
  · exact .refl s
  · exact (((queue _).trans (State.setExchange_edits ..)).trans (State.onStation_edits _ _)).trans
      (State.setPhase_edits ..)
  · exact .refl s

theorem grantCommands_edits : Edits s (grantCommands s) := .foldl grantPair_edits _ _

theorem stopPair_edits (j : Nat) : Edits s (stopPair s j) := by
  unfold stopPair
  split
  · exact .refl s
  · exact (s.freePair_edits ..).trans (State.failCall_edits ..)

theorem callUnitStop_edits : Edits s (callUnitStop s) :=
  ((s.dequeue_edits _).trans (.foldl (fun t e => t.failCall_edits e .aborted) _ _)).trans (.foldl stopPair_edits _ _)

/-! ### The trims (chapter 5) -/

theorem quietSpanEnds_edits (a : Nat) : Edits s (quietSpanEnds a s) :=
  ((Edits.moved s a .active .trimEnd).trans (State.endHostTrim_edits ..)).trans (State.endQuiet_edits ..)

theorem endQuietSpans_edits : Edits s (endQuietSpans s) := by
  refine .foldl (fun t a => ?_) _ _
  split
  · exact quietSpanEnds_edits ..
  · exact .refl t

theorem breach_edits (a : Nat) : Edits s (breach a s) := by
  unfold breach
  split
  · exact s.enterFaulted_edits ..
  · exact .refl s

theorem trimFallsDue_edits (a : Nat) : Edits s (trimFallsDue a s) := by
  refine (s.onAccount_edits a fun c => { c with countdown := (s.station a).interval.getD 0 * 16 }).trans ?_
  simp only [trimFallsDue]
  split
  · exact State.onAccount_edits ..
  · exact breach_edits ..

theorem accrueStation_edits (a : Nat) : Edits s (accrueStation s a) := by
  unfold accrueStation
  repeat' split
  · exact trimFallsDue_edits ..
  · exact s.onAccount_edits ..
  · exact .refl s

theorem accrue_edits : Edits s (accrue s) := .foldl accrueStation_edits _ _

theorem grantService_edits (g : Nat × Nat) : Edits s (grantService s g) :=
  (s.holdTrim_edits ..).trans (State.onStation_edits _ _)

theorem grantServices_edits : Edits s (grantServices s) := .foldl grantService_edits _ _

theorem trimDone_edits (k a : Nat) : Edits s (trimDone k a s) := by
  simp only [trimDone]
  split
  · exact ((s.reportValid_edits a).trans (State.onAccount_edits ..)).trans (.moved ..)
  · exact ((s.reportValid_edits a).trans (State.onAccount_edits ..)).trans (State.endQuiet_edits ..)

theorem trimRefused_edits (a : Nat) : Edits s (trimRefused a s) := by
  simp only [trimRefused]
  repeat' split
  · exact ((s.reportValid_edits a).trans (State.onStation_edits _ a)).trans (State.endHostTrim_edits ..)
  · exact (s.reportValid_edits a).trans (State.onStation_edits _ a)
  · exact s.reportValid_edits a

theorem trimMiss_edits (a : Nat) : Edits s (trimMiss a s) := by
  refine (s.reportMiss_edits a).trans ?_
  simp only [trimMiss]
  split
  · exact State.missLimit_edits ..
  · exact .refl _

theorem trimAnswer_edits (k slot a : Nat) (c : UpClass) : Edits s (trimAnswer k slot a c s) := by
  refine (s.freeService_edits k a).trans ?_
  simp only [trimAnswer]
  split
  · exact trimMiss_edits ..
  · exact (State.reportFault_edits ..).trans (trimMiss_edits ..)
  · exact (State.reportFault_edits ..).trans (trimMiss_edits ..)
  · exact trimDone_edits ..
  · exact trimRefused_edits ..
  · exact trimRefused_edits ..
  all_goals exact .refl _

end

/-! ### The streams (chapter 3) -/

/-- A stream that has a record has one still after a write to it. -/
theorem State.setStream_present {s : State} {id : Nat} {st : Stream} (h : s.stream id = some st) (st' : Stream) :
    (s.setStream id (some st')).stream id = some st' := by
  simp [mem_streamIds.mp (State.stream_mem h)]

section
variable {s : State} {id : Nat} {st : Stream} (h : s.stream id = some st)
include h

/-- A stream's words and counts change, and beside it a notice of its fault is offered or none. -/
theorem Edits.worked_noticed {st' : Stream} {quiet : Bool} {n : Notice}
    (terms : st.SameTerms st' := by exact ⟨rfl, rfl, rfl, rfl, rfl, rfl, rfl⟩) (full : n.marker = none := by rfl) :
    Edits s (if quiet then s.setStream id (some st') else (s.setStream id (some st')).offer n) := by
  cases quiet
  · exact (Edits.worked h terms).trans (.noticed _ full)
  · exact .worked h terms

/-- A stream that has a record has its DATA marker offered or not. -/
theorem Edits.data_if (due : Bool) : Edits s (if due then s.offerData id else s) := by
  cases due
  · exact .refl s
  · exact .data (by simp [h])

theorem supplyDown_edits (slot : Nat) : Edits s (supplyDown id slot st s) := by
  unfold supplyDown
  split
  · exact .worked h
  · exact .worked_noticed h

theorem takeSample_edits (slot : Nat) (w : Sample) : Edits s (takeSample id slot w st s) := by
  simp only [takeSample]
  split
  · exact (Edits.worked h).trans (.data_if (State.setStream_present h _) _)
  · have present : ∀ (quiet : Bool) (st' : Stream) (n : Notice),
        (if quiet then s.setStream id (some st') else (s.setStream id (some st')).offer n).stream id = some st' := by
      intro quiet st' n
      cases quiet <;> exact State.setStream_present h st'
    exact (Edits.worked_noticed h).trans (.data_if (present ..) _)

theorem takeGap_edits (slot : Nat) : Edits s (takeGap id slot st s) :=
  .worked_noticed h

theorem streamAnswer_edits (slot : Nat) (c : UpClass) : Edits s (streamAnswer id slot st c s) := by
  unfold streamAnswer
  split
  · exact takeSample_edits h ..
  · exact takeGap_edits h ..
  · exact (takeGap_edits h ..).trans (State.reportFault_edits ..)
  · exact (takeGap_edits h ..).trans (State.reportFault_edits ..)
  all_goals exact .refl s

end

section
variable (s : State)

theorem spaceTest_edits (id : Nat) : Edits s (spaceTest id s) := by
  unfold spaceTest
  split
  · next st h =>
    split
    · exact .space (by simp [h])
    · exact .refl s
  · exact .refl s

/-! ### The slots (1.8 to 1.11) -/

theorem drive_edits (slot : Nat) (w : Word) (line : Option Word) : Edits s (drive slot w line s) := by
  have driven : Edits s { s with engine := { s.engine with line := some w } } :=
    .same
  simp only [drive]
  repeat' split
  · exact driven
  · exact driven
  · exact driven.trans (State.reportFault_edits ..)

theorem unexpected_edits (slot : Nat) (line : Option Word) : Edits s (unexpected slot line s) := by
  unfold unexpected
  split
  · exact .refl s
  · exact s.reportFault_edits ..

theorem clearSendDue_edits (j : Nat) : Edits s (clearSendDue j s) := by
  unfold clearSendDue
  split
  · exact s.setExchange_edits ..
  · exact .refl s

theorem streamDown_edits {s : State} {id : Nat} {st : Stream} (h : s.stream id = some st) (slot : Nat)
    (line : Option Word) : Edits s (streamDown id slot st line s) := by
  unfold streamDown
  split
  · exact ((supplyDown_edits h slot).trans (drive_edits ..)).trans (spaceTest_edits ..)
  · exact drive_edits ..

theorem serveSlot_edits (r : Role) (slot : Nat) (line : Option Word) : Edits s (serveSlot r slot line s) := by
  unfold serveSlot
  split
  case h_1 => exact unexpected_edits ..
  case h_2 => exact drive_edits ..
  case h_3 => exact drive_edits ..
  case h_5 => exact (clearSendDue_edits ..).trans (drive_edits ..)
  case h_4 =>
    split
    · exact trimAnswer_edits ..
    · exact unexpected_edits ..
  case h_6 =>
    split
    · exact commandAnswer_edits ..
    · exact unexpected_edits ..
  case h_7 =>
    split
    · exact unexpected_edits ..
    · next st h =>
      split
      · exact streamDown_edits h ..
      · split
        · exact streamAnswer_edits h ..
        · exact unexpected_edits ..

theorem slotEvent_edits (slot : Nat) (line : Option Word) : Edits s (slotEvent slot line s) :=
  have begun : Edits s (beginSlot slot s) := .same
  begun.trans (serveSlot_edits ..)

theorem passFrom_edits (n : Nat) : ∀ (slot : Nat) (s : State), Edits s (passFrom slot n s) := by
  induction n with
  | zero => exact fun _ s => .refl s
  | succ n ih => exact fun slot s => (slotEvent_edits s slot none).trans (ih ..)

theorem passSlots_edits (slot : Nat) : Edits s (passSlots slot s) := by
  unfold passSlots
  split
  · exact .refl s
  · exact passFrom_edits ..

/-! ### Frame starts and frame ends (R4) -/

theorem assignFrame_edits : Edits s (assignFrame s) :=
  .same

theorem nameWake_edits : Edits s (nameWake s) := by
  unfold nameWake
  split
  · exact .refl s
  · next a rest _ =>
    have named : Edits s { s with
        stations := { s.stations with wakeQueue := rest }
        engine := { s.engine with frame := s.engine.frame.map (fun fr => { fr with wakeAddress := a }) } } :=
      .same
    exact named.trans (State.onStation_edits _ a)

/-- Behind the plan swap a frame start is made of edits (R4). -/
theorem frameStart_edits : Edits (planSwap (assignFrame s)) (frameStart s) := by
  have accrued : Edits (planSwap (assignFrame s)) s.beforeGrants :=
    (endQuietSpans_edits _).trans (accrue_edits _)
  rw [frameStart_eq]
  split
  · exact ((accrued.trans (grantServices_edits _)).trans (grantCommands_edits _)).trans (nameWake_edits _)
  · exact accrued

theorem queueProbe_edits (a : Nat) : Edits s (queueProbe a s) := by
  simp only [queueProbe]
  split
  · exact .refl s
  · exact (s.enqueue_edits _).trans (State.setPhase_edits ..)

theorem wakeTick_edits (a : Nat) : Edits s (wakeTick s a) := by
  unfold wakeTick
  repeat' split
  · exact .refl s
  · exact (s.onStation_edits a).trans (queueProbe_edits ..)
  · exact s.onStation_edits a

theorem stopStation_edits (a : Nat) : Edits s (stopStation s a) := by
  unfold stopStation
  split
  · exact .refl s
  · exact s.enterAbsent_edits ..

theorem stationManagerStop_edits : Edits s (stationManagerStop s) :=
  (Edits.foldl stopStation_edits addresses s).trans (State.wakeQueue_edits ..)

/-- A stream that is still LIVE while no station is ACTIVE becomes HELD (R48). -/
theorem stopStream_edits (idle : ∀ a, (s.station a).state ≠ .active) (id : Nat) : Edits s (stopStream s id) := by
  unfold stopStream
  split
  · exact .refl s
  · next st h =>
    simp only
    split
    · next live => exact (Edits.held h live (idle _)).trans (.data_if (State.setStream_present h _) _)
    · exact .refl s

theorem streamUnitStop_edits (idle : ∀ a, (s.station a).state ≠ .active) : Edits s (streamUnitStop s) := by
  have kept : Edits s (streamUnitStop s) ∧ ∀ a, ((streamUnitStop s).station a).state ≠ .active := by
    refine foldl_keeps (P := fun t => Edits s t ∧ ∀ a, (t.station a).state ≠ .active) (fun t id ⟨edits, idle⟩ => ?_)
      streamIds s ⟨.refl s, idle⟩
    exact ⟨edits.trans (stopStream_edits t idle id), fun a => by
      simpa only [State.station, stopStream_frame] using idle a⟩
  exact kept.1

/-- A completed stop leaves no station ACTIVE before the streams stop (R86). -/
theorem stationsStopped_idle (a : Nat) : ((callUnitStop (stationManagerStop s)).station a).state ≠ .active := by
  rw [callUnitStop_state, (stationManagerStop_parts s).1]
  by_cases h : a ∈ addresses
  · obtain ⟨h1, h15⟩ := mem_addresses.mp h
    rw [stopStations_absent s h1 h15]
    decide
  · rw [State.station_of_not_mem _ h]
    decide

theorem trunkStops_edits : Edits s (trunkStops s) := by
  have halted : Edits s s.halted := .same
  rw [trunkStops_eq]
  exact ((((halted.trans (stationManagerStop_edits _)).trans (callUnitStop_edits _)).trans
    (streamUnitStop_edits _ (stationsStopped_idle _))).trans (State.answerKind_edits ..)).trans
    (State.answerKind_edits ..)

theorem startingTick_edits : Edits s (startingTick s) := by
  have ticks : ∀ e : FrameEngine, e.setup = s.engine.setup → Edits s { s with engine := e } := fun _ h =>
    .aside ⟨h, rfl, rfl, rfl, fun _ => rfl, rfl, List.prefix_rfl⟩
  simp only [startingTick]
  split
  · refine .trans (ticks _ ?_) (State.answerKind_edits ..)
    rfl
  · exact ticks _ rfl

theorem closeFrame_edits : Edits s (closeFrame s) :=
  ((passSlots_edits s _).trans .same).trans
    (.foldl wakeTick_edits _ _)

theorem settleTrunk_edits : Edits s (settleTrunk s) := by
  unfold settleTrunk
  split
  · exact .refl s
  · exact trunkStops_edits s
  · split
    · exact trunkStops_edits s
    · exact startingTick_edits s
  · split
    · exact trunkStops_edits s
    · exact .refl s

theorem frameEnd_edits : Edits s (frameEnd s) := (closeFrame_edits s).trans (settleTrunk_edits _)

end

end Sys2Proof.Machine
end

section

namespace Sys2Proof.Machine

/-! ## The plan swap, record by record (R33, R34, R46) -/

/-- A stream that enters the active plan is LIVE where its station is ACTIVE, else HELD (R46). -/
def Stream.entered (active : Bool) (st : Stream) : Stream :=
  if st.state = .staged then if active then st.enliven else { st with state := .held } else st

@[simp] theorem Stream.entered_entered (active : Bool) (st : Stream) :
    (st.entered active).entered active = st.entered active := by
  cases active <;> by_cases staged : st.state = .staged <;> simp [Stream.entered, staged, Stream.enliven]

@[simp] theorem Stream.entered_terms (active : Bool) (st : Stream) :
    (st.entered active).station = st.station ∧ (st.entered active).slotList = st.slotList ∧
    (st.entered active).closing = st.closing ∧ (st.entered active).inActive = true := by
  cases active <;> by_cases staged : st.state = .staged <;>
    simp [Stream.entered, staged, Stream.enliven, Stream.inActive]

theorem Stream.entered_live {active : Bool} {st : Stream} (h : st.state = .staged) :
    (st.entered active).state = .live ↔ active = true := by
  cases active <;> simp [Stream.entered, h, Stream.enliven]

/-- The record of a stream that enters, by the station it has in m (R46). -/
def StationManager.enter (m : StationManager) (st : Stream) : Stream := st.entered ((m.get st.station).state == .active)

theorem enterActive_stream (s : State) (i j : Nat) :
    (enterActive s i).stream j = if i = j then (s.stream i).map s.stations.enter else s.stream j := by
  have kept : s.stream j = if i = j then s.stream i else s.stream j := by
    split
    · next here => rw [here]
    · rfl
  cases hst : s.stream i with
  | none => simpa only [enterActive, hst, Option.map_none] using kept
  | some st =>
    have mem := mem_streamIds.mp (State.stream_mem hst)
    by_cases staged : st.state = .staged
    · by_cases active : (s.station st.station).state = .active
      all_goals
        have active' := active
        rw [State.station] at active'
        simp [enterActive, hst, staged, active, active', StationManager.enter, Stream.entered, mem]
    · simpa [enterActive, hst, staged, StationManager.enter, Stream.entered] using kept

/-- The records after the swap: the closing streams have none, those of the staged plan have entered (R33, R34). -/
theorem swapPlans_stream (c : PendingCommit) (s : State) (id : Nat) : (swapPlans c s).stream id =
    if id ∈ s.plans.staged.streams then (s.stream id).map s.stations.enter
    else if id ∈ s.plans.active.streams then none else s.stream id := by
  have removed := foldl_records (g := fun _ => none) (fun t i => (removeClosing_frame t i).2.2.1)
    (fun t i j _ => removeClosing_stream t i j) (fun _ => rfl) s.plans.closingIds s rfl
  have again : ∀ o : Option Stream, (o.map s.stations.enter).map s.stations.enter = o.map s.stations.enter := by
    rintro (_ | st) <;> simp [StationManager.enter]
  have entered := fun t ht => foldl_records (f := enterActive) (fun t i => (enterActive_frame t i).2.2.1)
    (fun t i j ht => by rw [enterActive_stream, ht]) again s.plans.staged.streams t ht
  have stations : (s.plans.closingIds.foldl removeClosing s).stations = s.stations :=
    foldl_same (p := State.stations) (fun t i => (removeClosing_frame t i).2.2.1) _ _
  have plans : (s.plans.closingIds.foldl removeClosing s).plans = s.plans :=
    foldl_same (p := State.plans) (fun t i => (removeClosing_frame t i).2.1) _ _
  have closing : id ∈ s.plans.closingIds ↔ id ∈ s.plans.active.streams ∧ id ∉ s.plans.staged.streams := by
    simp [PlanStore.closingIds]
  replace removed := removed id
  simp only [closing] at removed
  simp only [swapPlans, State.answer_stream]
  generalize s.plans.closingIds.foldl removeClosing s = t at removed stations plans
  rw [plans]
  refine (entered { t with plans := s.plans.swap } stations id).trans ?_
  have same : ({ t with plans := s.plans.swap } : State).stream id = t.stream id := rfl
  rw [same, removed]
  by_cases staged : id ∈ s.plans.staged.streams
  · simp [staged]
  · simp [staged]

/-- The plans after the swap (R34). -/
theorem swapPlans_plans (c : PendingCommit) (s : State) : (swapPlans c s).plans = s.plans.swap := by
  have removed : (s.plans.closingIds.foldl removeClosing s).plans = s.plans :=
    foldl_same (p := State.plans) (fun t i => (removeClosing_frame t i).2.1) _ _
  simp only [swapPlans, State.answer_plans]
  refine (foldl_same (p := State.plans) (fun t i => (enterActive_frame t i).2.1) _ _).trans ?_
  exact congrArg PlanStore.swap removed

/-! ## The two plans and the streams (R20, R23) -/

/-- A stream that meets a test, with its slots. -/
def State.placed (s : State) (has : Stream → Bool) (id : Nat) (slotList : List Nat) : Prop :=
  ∃ st, s.stream id = some st ∧ has st = true ∧ st.slotList = slotList

/-- A plan carries streams at their slots, beside the roles of R1 (R20). -/
structure Plan.Carries (p : Plan) (v : Setup) (streams : Nat → List Nat → Prop) : Prop where
  sorted : p.streams.Pairwise (· < ·)
  ids : ∀ id, id ∈ p.streams ↔ ∃ l, streams id l
  owned : ∀ k, k < 32 → ∀ id, p.role k = .stream id ↔ ∃ l, streams id l ∧ k ∈ l
  pairs : ∀ k, k < 32 → p.role k = pairRole v.service v.command k ∨ ∃ id, p.role k = .stream id

theorem pairRole_ne_stream (S C k id : Nat) : pairRole S C k ≠ .stream id := by
  unfold pairRole
  repeat' split
  all_goals simp

theorem lt_of_pairRole_free {S C k : Nat} (h : pairRole S C k = .free) : 2 * S + 2 * C < k := by
  by_contra within
  unfold pairRole at h
  split at h
  · simp at h
  · split at h
    · split at h <;> simp at h
    · split at h
      · split at h <;> simp at h
      · omega

theorem Plan.holds_iff {p : Plan} {s : State} {v : Setup} {has : Stream → Bool} :
    p.holds s.streams v has ↔ p.Carries v (s.placed has) := by
  have reads : ∀ (id : Nat) (test : Stream → Bool),
      ((s.streams.get id).map test).getD false = true ↔ ∃ st, s.stream id = some st ∧ test st = true := by
    intro id test
    show ((s.stream id).map test).getD false = true ↔ _
    cases s.stream id <;> simp
  have named : ∀ id, (∃ st, s.stream id = some st ∧ has st = true) ↔ ∃ l, s.placed has id l := fun id =>
    ⟨fun ⟨st, hst, h⟩ => ⟨_, st, hst, h, rfl⟩, fun ⟨_, st, hst, h, _⟩ => ⟨st, hst, h⟩⟩
  have owner : ∀ id k, (∃ st, s.stream id = some st ∧ (has st && st.slotList.contains k) = true) ↔
      ∃ l, s.placed has id l ∧ k ∈ l := fun id k =>
    ⟨fun ⟨st, hst, h⟩ => by
      rw [Bool.and_eq_true, List.contains_iff_mem] at h
      exact ⟨_, ⟨st, hst, h.1, rfl⟩, h.2⟩,
     fun ⟨_, ⟨st, hst, h, hl⟩, hk⟩ => ⟨st, hst, by
      rw [Bool.and_eq_true, List.contains_iff_mem, hl]
      exact ⟨h, hk⟩⟩⟩
  have known : ∀ {id l}, s.placed has id l → id ∈ streamIds := fun ⟨_, hst, _⟩ => State.stream_mem hst
  simp only [Plan.holds, reads, named, owner, List.mem_range]
  constructor
  · rintro ⟨sorted, inRange, ids, roles⟩
    refine ⟨sorted, fun id => ?_, fun k hk id => ?_, fun k hk => ?_⟩
    · by_cases h : id ∈ streamIds
      · exact ids id h
      · exact ⟨fun hp => absurd (inRange id hp) h, fun ⟨l, hl⟩ => absurd (known hl) h⟩
    · by_cases h : id ∈ streamIds
      · exact (roles k hk).1 id h
      · refine ⟨fun hr => ?_, fun ⟨l, hl, _⟩ => absurd (known hl) h⟩
        obtain pair | ⟨i, hi, hr'⟩ := (roles k hk).2
        · exact absurd (pair.symm.trans hr) (pairRole_ne_stream _ _ _ _)
        · exact absurd (Role.stream.inj (hr.symm.trans hr') ▸ hi) h
    · exact (roles k hk).2.imp_right fun ⟨id, _, hr⟩ => ⟨id, hr⟩
  · intro h
    refine ⟨h.sorted, fun id hid => ?_, fun id _ => h.ids id, fun k hk => ⟨fun id _ => h.owned k hk id, ?_⟩⟩
    · obtain ⟨l, hl⟩ := (h.ids id).mp hid
      exact known hl
    · refine (h.pairs k hk).imp_right fun ⟨id, hr⟩ => ?_
      obtain ⟨l, hl, _⟩ := (h.owned k hk id).mp hr
      exact ⟨id, known hl, hr⟩

namespace Plan.Carries

variable {p : Plan} {v : Setup} {streams streams' : Nat → List Nat → Prop}

theorem congr (h : p.Carries v streams) (same : ∀ id l, streams' id l ↔ streams id l) : p.Carries v streams' := by
  have eq : streams' = streams := funext fun id => funext fun l => propext (same id l)
  exact eq ▸ h

/-- A plan's generation is no part of what it carries (R23). -/
theorem ofGeneration (h : p.Carries v streams) (g : BitVec 16) :
    ({ p with generation := g } : Plan).Carries v streams :=
  ⟨h.sorted, h.ids, h.owned, h.pairs⟩

/-- A table without streams carries none (R7, R21). -/
theorem empty (slots : p.slots = emptySlots v.service v.command) (ids : p.streams = [])
    (none : ∀ id l, ¬ streams id l) : p.Carries v streams := by
  have role : ∀ k, k < 32 → p.role k = pairRole v.service v.command k := fun k hk => by
    rw [Plan.role, slots, emptySlots_role, if_pos hk]
  refine ⟨by simp [ids], fun id => ?_, fun k hk id => ?_, fun k hk => .inl (role k hk)⟩
  · simp [ids, none]
  · rw [role k hk]
    exact ⟨fun h => absurd h (pairRole_ne_stream _ _ _ _), fun ⟨l, hl, _⟩ => absurd hl (none id l)⟩

/-- A new stream enters at FREE slots (R26). -/
theorem add (h : p.Carries v streams) {id : Nat} {slotList : List Nat} (fresh : ∀ l, ¬ streams id l)
    (free : ∀ k ∈ slotList, k < 32 ∧ p.role k = .free) :
    (p.addStream id slotList).Carries v (fun i l => (i = id ∧ l = slotList) ∨ streams i l) where
  sorted := insertId_sorted h.sorted
  ids := fun i => by
    refine mem_insertId.trans ?_
    rw [h.ids]
    exact ⟨fun hi => hi.elim (fun e => ⟨_, .inl ⟨e, rfl⟩⟩) fun ⟨l, hl⟩ => ⟨l, .inr hl⟩,
      fun ⟨l, hl⟩ => hl.imp And.left fun hl => ⟨l, hl⟩⟩
  owned := fun k hk i => by
    rw [Plan.addStream_role]
    by_cases mem : k ∈ slotList
    · rw [if_pos ⟨mem, hk⟩]
      refine ⟨fun e => ⟨_, .inl ⟨(Role.stream.inj e).symm, rfl⟩, mem⟩, fun ⟨l, hl, hkl⟩ => ?_⟩
      obtain ⟨rfl, -⟩ | hl := hl
      · rfl
      · have owner := (h.owned k hk i).mpr ⟨l, hl, hkl⟩
        rw [(free k mem).2] at owner
        exact absurd owner (by simp)
    · rw [if_neg (fun e => mem e.1), h.owned k hk]
      refine ⟨fun ⟨l, hl, hkl⟩ => ⟨l, .inr hl, hkl⟩, fun ⟨l, hl, hkl⟩ => ?_⟩
      obtain ⟨-, rfl⟩ | hl := hl
      · exact absurd hkl mem
      · exact ⟨l, hl, hkl⟩
  pairs := fun k hk => by
    rw [Plan.addStream_role]
    split
    · exact .inr ⟨id, rfl⟩
    · exact h.pairs k hk

/-- A stream leaves; its slots, after the pairs, become FREE (R28, R29). -/
theorem drop (h : p.Carries v streams) {id : Nat} {slotList : List Nat} (was : ∀ l, streams id l ↔ l = slotList)
    (beyond : ∀ k ∈ slotList, 2 * v.service + 2 * v.command < k) :
    (p.dropStream id slotList).Carries v (fun i l => i ≠ id ∧ streams i l) where
  sorted := h.sorted.filter _
  ids := fun i => by
    refine List.mem_filter.trans ?_
    rw [h.ids, bne_iff_ne]
    exact ⟨fun ⟨⟨l, hl⟩, hi⟩ => ⟨l, hi, hl⟩, fun ⟨l, hi, hl⟩ => ⟨⟨l, hl⟩, hi⟩⟩
  owned := fun k hk i => by
    have mine : k ∈ slotList ↔ p.role k = .stream id := by
      rw [h.owned k hk]
      exact ⟨fun mem => ⟨_, (was _).mpr rfl, mem⟩, fun ⟨l, hl, mem⟩ => (was l).mp hl ▸ mem⟩
    rw [Plan.dropStream_role]
    by_cases mem : k ∈ slotList
    · rw [if_pos ⟨mem, hk⟩]
      refine ⟨fun e => by simp at e, fun ⟨l, ⟨hi, hl⟩, hkl⟩ => ?_⟩
      have owner := (h.owned k hk i).mpr ⟨l, hl, hkl⟩
      exact absurd (Role.stream.inj (owner.symm.trans (mine.mp mem))) hi
    · rw [if_neg (fun e => mem e.1), h.owned k hk]
      refine ⟨fun ⟨l, hl, hkl⟩ => ⟨l, ⟨?_, hl⟩, hkl⟩, fun ⟨l, ⟨_, hl⟩, hkl⟩ => ⟨l, hl, hkl⟩⟩
      rintro rfl
      exact mem ((was l).mp hl ▸ hkl)
  pairs := fun k hk => by
    rw [Plan.dropStream_role]
    split
    · next mem => exact .inl (pairRole_free (beyond k mem.1)).symm
    · exact h.pairs k hk

/-- A FREE slot of the plan lies after the pairs (R1, R20). -/
theorem free_beyond (h : p.Carries v streams) {k : Nat} (hk : k < 32) (free : p.role k = .free) :
    2 * v.service + 2 * v.command < k := by
  obtain pair | ⟨id, hr⟩ := h.pairs k hk
  · exact lt_of_pairRole_free (pair.symm.trans free)
  · simp [free] at hr

end Plan.Carries

/-- A closing stream is in the active plan, and a stream's slots lie in the frame after the pairs (R1, R29). -/
structure Stream.Lies (v : Setup) (st : Stream) : Prop where
  closing : st.closing = true → st.state ≠ .staged
  slots : ∀ k ∈ st.slotList, 2 * v.service + 2 * v.command < k ∧ k < 32

/-- The relation of the two plans and the streams, part by part (R20, R23). -/
structure PlansLinked (s : State) : Prop where
  active : s.plans.active.Carries s.engine.setup (s.placed Stream.inActive)
  staged : s.plans.staged.Carries s.engine.setup (s.placed (fun st => !st.closing))
  generation : s.plans.active.generation = s.plans.staged.generation
  streams : ∀ id st, s.stream id = some st → st.Lies s.engine.setup

theorem plansAgree_iff {s : State} : PlansAgree s ↔ PlansLinked s := by
  unfold PlansAgree
  rw [Plan.holds_iff, Plan.holds_iff]
  constructor
  · rintro ⟨active, staged, generation, streams⟩
    exact ⟨active, staged, generation, fun id st hst =>
      ⟨(streams id (State.stream_mem hst) st hst).1, (streams id (State.stream_mem hst) st hst).2⟩⟩
  · rintro ⟨active, staged, generation, streams⟩
    exact ⟨active, staged, generation, fun id _ st hst => ⟨(streams id st hst).closing, (streams id st hst).slots⟩⟩

end Sys2Proof.Machine
end

section

namespace Sys2Proof.Machine

/-! ## Which steps keep the relations of the plans, the streams and the stations (R20, R23, R47) -/

/-- From s to t both relations are kept. -/
structure RelationsKept (s t : State) : Prop where
  agree : PlansAgree s → PlansAgree t
  follow : StreamsFollowStations s → StreamsFollowStations t

theorem RelationsKept.refl (s : State) : RelationsKept s s := ⟨id, id⟩

theorem RelationsKept.trans {s t u : State} (h : RelationsKept s t) (k : RelationsKept t u) : RelationsKept s u :=
  ⟨k.agree ∘ h.agree, k.follow ∘ h.follow⟩

/-! ### The plans under an edit -/

theorem Stream.inActive_iff {st : Stream} : st.inActive = true ↔ st.state ≠ .staged := by
  simp [Stream.inActive]

theorem Stream.inActive_congr {st st' : Stream} (h : st'.state = .staged ↔ st.state = .staged) :
    st'.inActive = st.inActive := by
  rw [Bool.eq_iff_iff, Stream.inActive_iff, Stream.inActive_iff]
  exact not_congr h

theorem State.placed_congr {s t : State} {i : Nat} (h : t.stream i = s.stream i) (has : Stream → Bool) (l : List Nat) :
    t.placed has i l ↔ s.placed has i l := by
  unfold State.placed
  rw [h]

theorem State.placed_of_some {s : State} {id : Nat} {st : Stream} (h : s.stream id = some st) (has : Stream → Bool)
    (l : List Nat) : s.placed has id l ↔ has st = true ∧ l = st.slotList := by
  refine ⟨fun ⟨st', hst', hs, hl⟩ => ?_, fun ⟨hs, hl⟩ => ⟨st, h, hs, hl.symm⟩⟩
  obtain rfl := Option.some.inj (hst'.symm.trans h)
  exact ⟨hs, hl.symm⟩

theorem State.not_placed {s : State} {id : Nat} (h : s.stream id = none) (has : Stream → Bool) (l : List Nat) :
    ¬ s.placed has id l := fun ⟨st, hst, _⟩ => by simp [h] at hst

/-- What the plans hold of a stream: its slots, whether it is closing, whether it is of the active plan (R20). -/
def Stream.place (st : Stream) : List Nat × Bool × Bool := (st.slotList, st.closing, st.inActive)

theorem Stream.place_congr {st st' : Stream} (slotList : st'.slotList = st.slotList)
    (closing : st'.closing = st.closing) (staged : st'.state = .staged ↔ st.state = .staged) :
    st'.place = st.place := by
  rw [Stream.place, Stream.place, slotList, closing, Stream.inActive_congr staged]

/-- Between s and t the plans, the pair counts and the place of every stream stay. -/
structure PlacesKept (s t : State) : Prop where
  setup : t.engine.setup = s.engine.setup
  active : t.plans.active = s.plans.active
  staged : t.plans.staged = s.plans.staged
  places : ∀ id, (t.stream id).map Stream.place = (s.stream id).map Stream.place

theorem PlacesKept.placed {s t : State} (h : PlacesKept s t) {has : Stream → Bool}
    (same : ∀ st st' : Stream, st'.place = st.place → has st' = has st) (id : Nat) (l : List Nat) :
    t.placed has id l ↔ s.placed has id l := by
  have one : ∀ {u v : State}, (v.stream id).map Stream.place = (u.stream id).map Stream.place →
      u.placed has id l → v.placed has id l := by
    rintro u v places ⟨st, hst, hs, rfl⟩
    rw [hst] at places
    obtain ⟨st', hst', place⟩ := Option.map_eq_some_iff.mp places
    exact ⟨st', hst', (same st st' place).trans hs, congrArg Prod.fst place⟩
  exact ⟨one (h.places id).symm, one (h.places id)⟩

/-- Where the places stay the plans go on agreeing. -/
theorem PlacesKept.agree {s t : State} (h : PlacesKept s t) (agree : PlansAgree s) : PlansAgree t := by
  rw [plansAgree_iff] at agree ⊢
  refine ⟨?_, ?_, ?_, fun id st' hst' => ?_⟩
  · rw [h.active, h.setup]
    exact agree.active.congr (h.placed fun _ _ place => congrArg (·.2.2) place)
  · rw [h.staged, h.setup]
    exact agree.staged.congr (h.placed fun _ _ place => congrArg (fun x => !x.2.1) place)
  · rw [h.active, h.staged, agree.generation]
  · have places := h.places id
    rw [hst'] at places
    obtain ⟨st, hst, place⟩ := Option.map_eq_some_iff.mp places.symm
    obtain ⟨closing, slots⟩ := agree.streams id st hst
    have slotList : st.slotList = st'.slotList := congrArg Prod.fst place
    have flag : st.closing = st'.closing := congrArg (·.2.1) place
    have inActive : st.inActive = st'.inActive := congrArg (·.2.2) place
    refine ⟨fun isClosing => ?_, by rw [h.setup, ← slotList]; exact slots⟩
    exact Stream.inActive_iff.mp (inActive ▸ Stream.inActive_iff.mpr (closing (flag.trans isClosing)))

theorem PlacesKept.trans {s t u : State} (h : PlacesKept s t) (k : PlacesKept t u) : PlacesKept s u :=
  ⟨k.setup.trans h.setup, k.active.trans h.active, k.staged.trans h.staged, fun id => (k.places id).trans (h.places id)⟩

/-- A write to a stream that keeps its place. -/
theorem PlacesKept.of_setStream {s : State} {id : Nat} {st st' : Stream} (h : s.stream id = some st)
    (place : st'.place = st.place) : PlacesKept s (s.setStream id (some st')) := by
  refine ⟨rfl, rfl, rfl, fun i => ?_⟩
  rw [State.setStream_stream]
  split
  · next here => rw [← here.1, h, Option.map_some, Option.map_some, place]
  · rfl

theorem Stream.followed_place (a : Nat) (active : Bool) (st : Stream) : (st.followed a active).place = st.place := by
  have terms : (st.follow active).slotList = st.slotList ∧ (st.follow active).closing = st.closing := by
    unfold Stream.follow
    repeat' split
    all_goals exact ⟨rfl, rfl⟩
  rw [Stream.followed_eq]
  split
  · exact Stream.place_congr terms.1 terms.2 (Stream.follow_staged active st)
  · rfl

/-- A station that changes its state leaves every stream at its place (R47). -/
theorem State.moveStation_places (s : State) (a : Nat) (new : StationState) (reason : Reason) :
    PlacesKept s (s.moveStation a new reason) := by
  have frame := s.moveStation_frame a new reason
  refine ⟨by rw [frame.1], by rw [frame.2.1], by rw [frame.2.1], fun id => ?_⟩
  rw [State.moveStation_eq, State.followStation_stream, Option.map_map]
  show ((s.stream id).map _) = _
  congr 1
  funext st
  exact Stream.followed_place ..

/-- No edit moves a stream. -/
theorem Edits.places {s t : State} (h : Edits s t) : PlacesKept s t := by
  induction h with
  | aside h => exact ⟨h.setup, h.active, h.staged, fun id => by simp only [State.stream, h.streams]⟩
  | moved s a new reason => exact s.moveStation_places a new reason
  | worked h terms =>
    exact .of_setStream h (Stream.place_congr terms.slotList terms.closing (by rw [terms.state]))
  | held h live idle =>
    refine .of_setStream h (Stream.place_congr rfl rfl ?_)
    simp [live]
  | noticed s full => exact ⟨rfl, rfl, rfl, fun _ => rfl⟩
  | data h => exact ⟨rfl, rfl, rfl, fun _ => rfl⟩
  | space h => exact ⟨rfl, rfl, rfl, fun _ => rfl⟩
  | trans _ _ h k => exact h.trans k

/-! ### The streams and their stations under an edit -/

/-- A stream of the active plan is LIVE exactly while its station is ACTIVE (R47). -/
def Stream.Follows (m : StationManager) (st : Stream) : Prop :=
  st.state ≠ .staged → (st.state = .live ↔ (m.get st.station).state = .active)

theorem streamsFollowStations_iff {s : State} :
    StreamsFollowStations s ↔ ∀ id st, s.stream id = some st → st.Follows s.stations :=
  ⟨fun h id st hst => h id (State.stream_mem hst) st hst, fun h id _ st hst => h id st hst⟩

/-- Where every stream is as before or follows, they follow as before. -/
theorem StreamsFollowStations.of_records {s t : State} (h : StreamsFollowStations s)
    (states : ∀ a, (t.station a).state = (s.station a).state)
    (records : ∀ id st, t.stream id = some st → s.stream id = some st ∨ st.Follows t.stations) :
    StreamsFollowStations t := by
  rw [streamsFollowStations_iff] at h ⊢
  intro id st hst
  obtain same | follows := records id st hst
  · have follows := h id st same
    unfold Stream.Follows at follows ⊢
    have state : (t.stations.get st.station).state = (s.stations.get st.station).state := states st.station
    rwa [state]
  · exact follows

theorem StreamsFollowStations.of_setStream {s : State} {id : Nat} {st : Stream} (h : StreamsFollowStations s)
    (follows : st.Follows s.stations) : StreamsFollowStations (s.setStream id (some st)) := by
  refine h.of_records (fun _ => rfl) fun i st' hst' => ?_
  rw [State.setStream_stream] at hst'
  split at hst'
  · exact .inr (Option.some.inj hst' ▸ follows)
  · exact .inl hst'

/-- A station's streams follow it, whatever it was before; the others have to follow theirs (R47). -/
theorem State.followStation_follows {s : State} (a : Nat)
    (others : ∀ id st, s.stream id = some st → st.station ≠ a → st.Follows s.stations) :
    StreamsFollowStations (s.followStation a) := by
  rw [streamsFollowStations_iff]
  intro id st' hst'
  rw [State.followStation_stream] at hst'
  obtain ⟨st, hst, rfl⟩ := Option.map_eq_some_iff.mp hst'
  rw [(s.followStation_frame a).2.2.1, Stream.followed_eq]
  by_cases mine : st.station = a
  · rw [if_pos mine]
    intro staged
    rw [ne_eq, Stream.follow_staged] at staged
    rw [Stream.follow_live staged, Stream.follow_station, mine, beq_iff_eq]
    rfl
  · rw [if_neg mine]
    exact others id st hst mine

theorem State.moveStation_follows (s : State) (a : Nat) (new : StationState) (reason : Reason)
    (h : StreamsFollowStations s) : StreamsFollowStations (s.moveStation a new reason) := by
  rw [State.moveStation_eq]
  refine State.followStation_follows a fun id st hst other => ?_
  have follows := streamsFollowStations_iff.mp h id st hst
  have station : ((s.onStation a fun r => { r with state := new }).station st.station) = s.station st.station := by
    rw [State.onStation_station, if_neg (fun e => other e.1.symm)]
  have state : ((s.onStation a fun r => { r with state := new }).stations.get st.station).state =
      (s.stations.get st.station).state := congrArg Station.state station
  intro staged
  rw [follows staged, ← state]
  rfl

/-- No edit parts a stream from its station. -/
theorem Edits.follow {s t : State} (h : Edits s t) : StreamsFollowStations s → StreamsFollowStations t := by
  induction h with
  | aside h =>
    refine fun follow => follow.of_records h.states fun id st hst => .inl ?_
    simpa only [State.stream, h.streams] using hst
  | moved s a new reason => exact s.moveStation_follows a new reason
  | worked h terms =>
    intro follow
    have follows := streamsFollowStations_iff.mp follow _ _ h
    refine follow.of_setStream ?_
    unfold Stream.Follows at follows ⊢
    rwa [terms.state, terms.station]
  | held h live idle => exact fun follow => follow.of_setStream fun _ =>
      ⟨fun e => by simp at e, fun active => absurd active idle⟩
  | noticed s full => exact fun follow => follow.of_records (fun _ => rfl) fun _ _ => .inl
  | data h => exact fun follow => follow.of_records (fun _ => rfl) fun _ _ => .inl
  | space h => exact fun follow => follow.of_records (fun _ => rfl) fun _ _ => .inl
  | trans _ _ h k => exact k ∘ h

theorem Edits.related {s t : State} (h : Edits s t) : RelationsKept s t := ⟨h.places.agree, h.follow⟩

/-- What changes neither the setup, nor the plans, nor a stream, nor a station. -/
theorem RelationsKept.of_eq {s t : State} (setup : t.engine.setup = s.engine.setup) (plans : t.plans = s.plans)
    (streams : t.streams = s.streams) (stations : t.stations = s.stations) : RelationsKept s t where
  agree := PlacesKept.agree ⟨setup, by rw [plans], by rw [plans], fun id => by simp only [State.stream, streams]⟩
  follow := fun h => h.of_records (fun a => by simp only [State.station, stations]) fun id st hst =>
    .inl (by simpa only [State.stream, streams] using hst)

/-- A part without streams keeps both relations if its plans are empty (R7, R21). -/
theorem RelationsKept.of_empty {s t : State}
    (active : t.plans.active.slots = emptySlots t.engine.setup.service t.engine.setup.command ∧
      t.plans.active.streams = [])
    (staged : t.plans.staged.slots = emptySlots t.engine.setup.service t.engine.setup.command ∧
      t.plans.staged.streams = [])
    (generation : t.plans.active.generation = t.plans.staged.generation) (none : ∀ id, t.stream id = none) :
    RelationsKept s t := by
  have unplaced : ∀ has id l, ¬ t.placed has id l := fun has id l ⟨st, hst, _⟩ => by simp [none id] at hst
  refine ⟨fun _ => plansAgree_iff.mpr ⟨.empty active.1 active.2 (unplaced _), .empty staged.1 staged.2 (unplaced _),
    generation, fun id st hst => ?_⟩, fun _ => streamsFollowStations_iff.mpr fun id st hst => ?_⟩
  · simp [none id] at hst
  · simp [none id] at hst

/-! ### The requests of the Plan Store and TRUNK SETUP -/

section
variable {s : State}

/-- A STAGED stream is not yet of the active plan. -/
theorem Stream.not_inActive {st : Stream} (h : st.state = .staged) : ¬ st.inActive = true :=
  fun active => Stream.inActive_iff.mp active h

/-- A stream that no plan holds yet is placed in the staged plan, at FREE slots (R26). -/
theorem placeStream_related {id : Nat} {st : Stream} (mem : id ∈ streamIds) (fresh : s.stream id = none)
    (free : ∀ k ∈ st.slotList, k ∈ s.plans.staged.freeSlots) (staged : st.state = .staged)
    (opened : st.closing = false) : RelationsKept s (placeStream id st s) := by
  have records := placeStream_stream (s := s) st mem
  have new : (placeStream id st s).stream id = some st := (records id).trans (if_pos rfl)
  have other : ∀ i, id ≠ i → (placeStream id st s).stream i = s.stream i := fun i h => (records i).trans (if_neg h)
  refine ⟨fun agree => ?_, fun follow => follow.of_records (fun _ => rfl) fun i st' hst' => ?_⟩
  · rw [plansAgree_iff] at agree ⊢
    have slots : ∀ k ∈ st.slotList, k < 32 ∧ s.plans.staged.role k = .free := fun k hk =>
      Plan.mem_freeSlots.mp (free k hk)
    refine ⟨agree.active.congr fun i l => ?_, ?_, agree.generation, fun i st' hst' => ?_⟩
    · by_cases here : id = i
      · subst here
        rw [State.placed_of_some new, iff_false_right (State.not_placed fresh _ _)]
        exact fun active => Stream.not_inActive staged active.1
      · exact State.placed_congr (other i here) _ _
    · refine (agree.staged.add (id := id) (State.not_placed fresh _) slots).congr fun i l => ?_
      by_cases here : id = i
      · subst here
        rw [State.placed_of_some new, or_iff_left (State.not_placed fresh _ _)]
        simp [opened]
      · rw [State.placed_congr (other i here), or_iff_right (fun e => here e.1.symm)]
    · rw [records] at hst'
      split at hst'
      · obtain rfl := Option.some.inj hst'
        refine ⟨fun closing => by simp [opened] at closing, fun k hk => ?_⟩
        obtain ⟨inFrame, role⟩ := slots k hk
        exact ⟨agree.staged.free_beyond inFrame role, inFrame⟩
      · exact agree.streams i st' hst'
  · rw [records] at hst'
    split at hst'
    · obtain rfl := Option.some.inj hst'
      exact .inr fun active => absurd staged active
    · exact .inl hst'

/-- The slots of a stream that is not closing are its slots of the staged plan (R20). -/
theorem State.placed_opened {id : Nat} {st : Stream} (hst : s.stream id = some st)
    (opened : st.closing = false) (l : List Nat) : s.placed (fun st => !st.closing) id l ↔ l = st.slotList := by
  rw [State.placed_of_some hst]
  simp [opened]

/-- The staged plan without a stream that was not closing (R28, R29). -/
theorem PlansLinked.unstaged (h : PlansLinked s) {id : Nat} {st : Stream} (hst : s.stream id = some st)
    (opened : st.closing = false) : (s.plans.staged.dropStream id st.slotList).Carries s.engine.setup
      (fun i l => i ≠ id ∧ s.placed (fun st => !st.closing) i l) :=
  h.staged.drop (State.placed_opened hst opened) fun k hk => ((h.streams id st hst).slots k hk).1

/-- A STAGED stream is removed (R28, R44). -/
theorem removeStaged_related {id : Nat} {st : Stream} (hst : s.stream id = some st) (staged : st.state = .staged)
    (opened : st.closing = false) : RelationsKept s (deleteStream id st (unstage id st s)) := by
  have records : ∀ i, (deleteStream id st (unstage id st s)).stream i = if id = i then none else s.stream i :=
    deleteStream_stream st (State.stream_mem hst)
  have gone : (deleteStream id st (unstage id st s)).stream id = none := (records id).trans (if_pos rfl)
  have other : ∀ i, id ≠ i → (deleteStream id st (unstage id st s)).stream i = s.stream i := fun i h =>
    (records i).trans (if_neg h)
  refine ⟨fun agree => ?_, fun follow => follow.of_records (fun _ => rfl) fun i st' hst' => ?_⟩
  · rw [plansAgree_iff] at agree ⊢
    refine ⟨agree.active.congr fun i l => ?_, (agree.unstaged hst opened).congr fun i l => ?_, agree.generation,
      fun i st' hst' => ?_⟩
    · by_cases here : id = i
      · subst here
        rw [iff_false_left (State.not_placed gone _ _), State.placed_of_some hst]
        exact fun active => Stream.not_inActive staged active.1
      · exact State.placed_congr (other i here) _ _
    · by_cases here : id = i
      · subst here
        rw [iff_false_left (State.not_placed gone _ _)]
        exact fun e => e.1 rfl
      · rw [State.placed_congr (other i here), and_iff_right (Ne.symm here)]
    · rw [records] at hst'
      split at hst'
      · simp at hst'
      · exact agree.streams i st' hst'
  · rw [records] at hst'
    split at hst'
    · simp at hst'
    · exact .inl hst'

/-- A stream of the active plan is marked closing (R29, R45). -/
theorem markClosing_related {id : Nat} {st : Stream} (hst : s.stream id = some st) (active : st.state ≠ .staged)
    (opened : st.closing = false) : RelationsKept s (markClosing id st s) := by
  have records := markClosing_stream (s := s) st (State.stream_mem hst)
  have frame := markClosing_frame s id st
  have marked : (markClosing id st s).stream id = some { st with closing := true } := (records id).trans (if_pos rfl)
  have other : ∀ i, id ≠ i → (markClosing id st s).stream i = s.stream i := fun i h => (records i).trans (if_neg h)
  refine ⟨fun agree => ?_, fun follow => follow.of_records ?_ fun i st' hst' => ?_⟩
  · rw [plansAgree_iff] at agree ⊢
    refine ⟨?_, ?_, ?_, fun i st' hst' => ?_⟩
    · rw [markClosing_plans, frame.1]
      refine agree.active.congr fun i l => ?_
      by_cases here : id = i
      · subst here
        rw [State.placed_of_some marked, State.placed_of_some hst]
        rfl
      · exact State.placed_congr (other i here) _ _
    · rw [markClosing_plans, frame.1]
      refine (agree.unstaged hst opened).congr fun i l => ?_
      by_cases here : id = i
      · subst here
        rw [State.placed_of_some marked]
        simp
      · rw [State.placed_congr (other i here), and_iff_right (Ne.symm here)]
    · rw [markClosing_plans]
      exact agree.generation
    · rw [records] at hst'
      rw [frame.1]
      split at hst'
      · obtain rfl := Option.some.inj hst'
        exact ⟨fun _ => active, (agree.streams id st hst).slots⟩
      · exact agree.streams i st' hst'
  · intro a
    simp only [State.station, frame.2.1]
  · rw [records] at hst'
    split at hst'
    · obtain rfl := Option.some.inj hst'
      have follows := streamsFollowStations_iff.mp follow id st hst
      exact .inr (by rw [frame.2.1]; exact follows)
    · exact .inl hst'

/-- A DISCARD leaves the streams of the active plan, none of them closing (R30). -/
theorem discard_related {u : State} (records : ∀ id, u.stream id = (s.stream id).bind Stream.discarded)
    (others : u = { s with streams := u.streams }) :
    RelationsKept s { u with plans := { u.plans with staged := u.plans.active } } := by
  rw [others]
  have kept : ∀ id st', u.stream id = some st' ↔
      ∃ st, s.stream id = some st ∧ st.state ≠ .staged ∧ st' = { st with closing := false } := by
    intro id st'
    rw [records]
    constructor
    · intro h
      obtain ⟨st, hst, h⟩ := Option.bind_eq_some_iff.mp h
      unfold Stream.discarded at h
      split at h
      · simp at h
      · next active => exact ⟨st, hst, active, (Option.some.inj h).symm⟩
    · rintro ⟨st, hst, active, rfl⟩
      simp [hst, Stream.discarded, active]
  refine ⟨fun agree => ?_, fun follow => follow.of_records (fun _ => rfl) fun i st' hst' => ?_⟩
  · rw [plansAgree_iff] at agree ⊢
    have placed : ∀ has : Stream → Bool,
        (∀ st : Stream, st.state ≠ .staged → has { st with closing := false } = true) → ∀ id l,
        (∃ st', u.stream id = some st' ∧ has st' = true ∧ st'.slotList = l) ↔ s.placed Stream.inActive id l := by
      intro has hhas id l
      constructor
      · rintro ⟨st', hst', -, rfl⟩
        obtain ⟨st, hst, active, rfl⟩ := (kept id st').mp hst'
        exact ⟨st, hst, Stream.inActive_iff.mpr active, rfl⟩
      · rintro ⟨st, hst, active, rfl⟩
        have active := Stream.inActive_iff.mp active
        exact ⟨_, (kept id _).mpr ⟨st, hst, active, rfl⟩, hhas st active, rfl⟩
    refine ⟨agree.active.congr (placed _ fun st active => Stream.inActive_iff.mpr active),
      agree.active.congr (placed _ fun _ _ => rfl), rfl, fun i st' hst' => ?_⟩
    obtain ⟨st, hst, -, rfl⟩ := (kept i st').mp hst'
    exact ⟨fun closing => by simp at closing, (agree.streams i st hst).slots⟩
  · obtain ⟨st, hst, -, rfl⟩ := (kept i st').mp hst'
    exact .inr (streamsFollowStations_iff.mp follow i st hst)

/-- Plans without streams hold none, so there are none (R20). -/
theorem PlansLinked.no_stream (h : PlansLinked s) (active : s.plans.active.streams = [])
    (staged : s.plans.staged.streams = []) (id : Nat) : s.stream id = none := by
  cases hst : s.stream id with
  | none => rfl
  | some st =>
    cases closing : st.closing with
    | true =>
      have inActive : st.inActive = true :=
        Stream.inActive_iff.mpr ((h.streams id st hst).closing closing)
      have mem := (h.active.ids id).mpr ⟨_, st, hst, inActive, rfl⟩
      simp [active] at mem
    | false =>
      have mem := (h.staged.ids id).mpr ⟨_, st, hst, by simp [closing], rfl⟩
      simp [staged] at mem

/-- TRUNK SETUP rewrites plans that hold no stream (R7). -/
theorem applySetup_related (u : Setup) (active : s.plans.active.streams = []) (staged : s.plans.staged.streams = []) :
    RelationsKept s (applySetup u s) where
  agree := fun agree => by
    have linked := plansAgree_iff.mp agree
    exact (RelationsKept.of_empty (s := s) (t := applySetup u s) ⟨rfl, active⟩ ⟨rfl, staged⟩ linked.generation
      (linked.no_stream active staged)).agree agree
  follow := fun follow => follow.of_records (fun _ => rfl) fun _ _ => .inl

/-! ### The plan swap (R33, R34) -/

/-- After a swap the streams are those that were not closing, and each is of the active plan (R33, R46). -/
theorem PlansLinked.swapped (h : PlansLinked s) (c : PendingCommit) (id : Nat) (st' : Stream) :
    (swapPlans c s).stream id = some st' ↔
      ∃ st, s.stream id = some st ∧ st.closing = false ∧ st' = s.stations.enter st := by
  have staged : id ∈ s.plans.staged.streams ↔ ∃ st, s.stream id = some st ∧ st.closing = false := by
    rw [h.staged.ids]
    exact ⟨fun ⟨_, st, hst, hs, _⟩ => ⟨st, hst, by simpa using hs⟩,
      fun ⟨st, hst, hs⟩ => ⟨_, st, hst, by simp [hs], rfl⟩⟩
  have active : ∀ st, s.stream id = some st → st.closing = true → id ∈ s.plans.active.streams := fun st hst closing =>
    (h.active.ids id).mpr ⟨_, st, hst, Stream.inActive_iff.mpr ((h.streams id st hst).closing closing), rfl⟩
  rw [swapPlans_stream]
  by_cases mem : id ∈ s.plans.staged.streams
  · obtain ⟨st, hst, opened⟩ := staged.mp mem
    rw [if_pos mem, hst, Option.map_some, Option.some.injEq]
    exact ⟨fun e => ⟨st, rfl, opened, e.symm⟩, fun ⟨_, same, _, e⟩ => by rw [e, Option.some.inj same]⟩
  · have gone : ∀ st, s.stream id = some st → ¬ st.closing = false := fun st hst opened =>
      mem (staged.mpr ⟨st, hst, opened⟩)
    rw [if_neg mem]
    refine ⟨fun hst' => ?_, fun ⟨st, hst, opened, _⟩ => absurd opened (gone st hst)⟩
    split at hst'
    · simp at hst'
    · next left => exact absurd (active st' hst' (by simpa using gone st' hst')) left

theorem swapPlans_related (c : PendingCommit) : RelationsKept s (swapPlans c s) := by
  have frame := swapPlans_frame s c
  refine ⟨fun agree => ?_, fun follow => follow.of_records ?_ fun id st' hst' => ?_⟩
  · rw [plansAgree_iff] at agree ⊢
    have swapped := agree.swapped c
    have placed : ∀ has : Stream → Bool, (∀ st, st.closing = false → has (s.stations.enter st) = true) → ∀ id l,
        (swapPlans c s).placed has id l ↔ s.placed (fun st => !st.closing) id l := by
      intro has hhas id l
      constructor
      · rintro ⟨st', hst', -, rfl⟩
        obtain ⟨st, hst, opened, rfl⟩ := (swapped id st').mp hst'
        exact ⟨st, hst, by simp [opened], (Stream.entered_terms ..).2.1.symm⟩
      · rintro ⟨st, hst, opened, rfl⟩
        have opened : st.closing = false := by simpa using opened
        exact ⟨_, (swapped id _).mpr ⟨st, hst, opened, rfl⟩, hhas st opened, (Stream.entered_terms ..).2.1⟩
    refine ⟨?_, ?_, ?_, fun id st' hst' => ?_⟩
    · rw [swapPlans_plans, frame.1]
      exact (agree.staged.ofGeneration _).congr (placed _ fun st _ => (Stream.entered_terms ..).2.2.2)
    · rw [swapPlans_plans, frame.1]
      refine (agree.staged.ofGeneration _).congr (placed _ fun st opened => ?_)
      rw [StationManager.enter, (Stream.entered_terms ..).2.2.1, opened]
      rfl
    · rw [swapPlans_plans]
      rfl
    · obtain ⟨st, hst, opened, rfl⟩ := (swapped id st').mp hst'
      have terms := Stream.entered_terms ((s.stations.get st.station).state == .active) st
      refine ⟨fun closing => ?_, fun k hk => ?_⟩
      · rw [StationManager.enter, terms.2.2.1, opened] at closing
        simp at closing
      · rw [StationManager.enter, terms.2.1] at hk
        rw [frame.1]
        exact (agree.streams id st hst).slots k hk
  · intro a
    simp only [State.station, frame.2.1]
  · rw [swapPlans_stream] at hst'
    rw [frame.2.1]
    split at hst'
    · obtain ⟨st, hst, rfl⟩ := Option.map_eq_some_iff.mp hst'
      refine .inr fun _ => ?_
      rw [StationManager.enter, (Stream.entered_terms ..).1]
      by_cases staged : st.state = .staged
      · rw [Stream.entered_live staged, beq_iff_eq]
      · rw [Stream.entered, if_neg staged]
        exact streamsFollowStations_iff.mp follow id st hst staged
    · split at hst'
      · simp at hst'
      · exact .inl hst'

end

end Sys2Proof.Machine
end

section

namespace Sys2Proof.Machine

/-! ## The requests as edits -/

section
variable (f : ReqFrame) (s : State)

/-- A withdrawal by the owner of the request is made of edits (R158). -/
theorem cancelEntry_edits {e : Outstanding} {s t : State} (h : cancelEntry e s = some t) : Edits s t := by
  unfold cancelEntry at h
  split at h
  · unfold cancelCommit at h
    repeat' split at h
    · obtain rfl := Option.some.inj h
      exact .trans .same (State.answer_edits ..)
    all_goals simp at h
  · unfold cancelEnroll at h
    split at h
    · obtain rfl := Option.some.inj h
      exact (s.dequeue_edits _).trans (State.enterAbsent_edits ..)
    · simp at h
  · unfold cancelDrowse at h
    split at h
    · obtain rfl := Option.some.inj h
      exact (s.dequeue_edits _).trans (State.endOperation_edits ..)
    · simp at h
  · unfold cancelWake at h
    split at h
    · obtain rfl := Option.some.inj h
      exact ((s.wakeQueue_edits _).trans (.moved ..)).trans (State.endOperation_edits ..)
    · simp at h
  · unfold cancelTrim at h
    split at h
    · obtain rfl := Option.some.inj h
      exact s.endHostTrim_edits ..
    · simp at h
  · unfold cancelCall at h
    split at h
    · obtain rfl := Option.some.inj h
      exact (s.dequeue_edits _).trans (State.failCall_edits ..)
    · simp at h
  all_goals simp at h

theorem serveCancel_edits : Edits s (serveCancel f s) := by
  simp only [serveCancel]
  split
  · exact s.replyNow_edits ..
  · split
    · exact s.replyNow_edits ..
    · split
      · next h => exact (cancelEntry_edits h).trans (State.replyNow_edits ..)
      · exact s.replyNow_edits ..

theorem giveUp_edits (tag : Byte) : Edits s (giveUp tag s) := by
  have exchange : ∀ t j, Edits t (giveUpExchange tag t j) := fun t j => by
    unfold giveUpExchange
    repeat' split
    · exact t.freePair_edits ..
    all_goals exact .refl t
  have operation : ∀ t a, Edits t (giveUpOperation tag t a) := fun t a => by
    unfold giveUpOperation
    repeat' split
    · exact t.onStation_edits a
    all_goals exact .refl t
  have work : Edits s (s.workGivenUp tag) :=
    ((s.dequeue_edits _).trans (.foldl exchange _ _)).trans (.foldl operation _ _)
  obtain h | h := giveUp_cases s tag
  · rwa [h]
  · rw [h]
    generalize s.workGivenUp tag = t at work ⊢
    exact work.trans .same

theorem serveRestart_edits : Edits s (serveRestart f s) := by
  have one : ∀ (t : State) (e : Outstanding), Edits t (abortOne t e) := fun t e => by
    unfold abortOne
    split
    · exact .refl t
    · exact (giveUp_edits t e.tag).trans (State.answer_edits ..)
  have closed : Edits s { s with port := { s.port with restarting := true } } := .same
  exact (closed.trans (.foldl one _ _)).trans (State.accept_edits ..)

theorem serveTrunkStart_edits : Edits s (serveTrunkStart f s) := by
  unfold serveTrunkStart
  split
  · exact .trans .same (State.enter_edits ..)
  · exact s.refuse_edits ..

theorem serveEnroll_edits : Edits s (serveEnroll f s) := by
  simp only [serveEnroll]
  repeat' split
  · exact s.refuse_edits ..
  · simp only [beginEnroll]
    exact ((((Edits.moved ..).trans (State.onStation_edits ..)).trans (State.setAccount_edits ..)).trans
      (State.enqueue_edits ..)).trans (State.enter_edits ..)
  · exact s.refuse_edits ..

theorem serveDrop_edits : Edits s (serveDrop f s) := by
  simp only [serveDrop]
  repeat' split
  · exact s.refuse_edits ..
  · exact s.refuse_edits ..
  · exact (s.enterAbsent_edits ..).trans (State.accept_edits ..)

theorem serveDrowse_edits : Edits s (serveDrowse f s) := by
  simp only [serveDrowse]
  repeat' split
  iterate 3 exact s.refuse_edits ..
  simp only [beginDrowse]
  exact ((s.onStation_edits ..).trans (State.enqueue_edits ..)).trans (State.enter_edits ..)

theorem serveWake_edits : Edits s (serveWake f s) := by
  simp only [serveWake]
  repeat' split
  iterate 2 exact s.refuse_edits ..
  simp only [beginWake]
  exact (((Edits.moved ..).trans (State.onStation_edits ..)).trans (State.wakeQueue_edits ..)).trans
    (State.enter_edits ..)

theorem serveTrim_edits : Edits s (serveTrim f s) := by
  simp only [serveTrim]
  repeat' split
  iterate 4 exact s.refuse_edits ..
  exact (s.onStation_edits ..).trans (State.enter_edits ..)

theorem servePolicy_edits : Edits s (servePolicy f s) := by
  simp only [servePolicy]
  repeat' split
  iterate 2 exact s.refuse_edits ..
  exact (s.onStation_edits ..).trans (State.accept_edits ..)

theorem serveCall_edits : Edits s (serveCall f s) := by
  simp only [serveCall]
  repeat' split
  iterate 5 exact s.refuse_edits ..
  simp only [beginCall]
  exact (s.enqueue_edits ..).trans (State.enter_edits ..)

theorem serveClearFault_edits : Edits s (serveClearFault f s) := by
  simp only [serveClearFault]
  split
  · exact s.refuse_edits ..
  · exact (s.setFault_edits ..).trans (State.accept_edits ..)

theorem serveStationInfo_edits : Edits s (serveStationInfo f s) := by
  simp only [serveStationInfo]
  split
  · exact s.refuse_edits ..
  · exact s.accept_edits ..

theorem serveCommit_edits : Edits s (serveCommit f s) := by
  simp only [serveCommit]
  repeat' split
  iterate 3 exact s.refuse_edits ..
  exact .trans .same (State.enter_edits ..)

theorem serveWrite_edits : Edits s (serveWrite f s) := by
  simp only [serveWrite]
  split
  · exact s.refuse_edits ..
  · next st h =>
    split
    · exact s.refuse_edits ..
    · exact (Edits.worked h).trans (State.accept_edits ..)

theorem serveStreamInfo_edits : Edits s (serveStreamInfo f s) := by
  simp only [serveStreamInfo]
  split
  · exact s.refuse_edits ..
  · next st h =>
    split
    · exact s.accept_edits ..
    · exact (Edits.worked h).trans (State.accept_edits ..)

/-! ## The requests that edit the plans -/

theorem serveGrant_related : RelationsKept s (serveGrant f s) := by
  simp only [serveGrant]
  split
  · exact .of_eq rfl rfl rfl rfl
  · exact (s.refuse_edits ..).related

theorem serveTrunkSetup_related : RelationsKept s (serveTrunkSetup f s) := by
  unfold serveTrunkSetup
  repeat' split
  iterate 3 exact (s.refuse_edits ..).related
  next _ _ streams =>
  obtain ⟨active, staged⟩ := not_or.mp streams
  exact (applySetup_related f.setup (not_not.mp active) (not_not.mp staged)).trans (State.accept_edits ..).related

theorem serveOpenStream_related : RelationsKept s (serveOpenStream f s) := by
  simp only [serveOpenStream]
  split
  · exact (s.refuse_edits ..).related
  · split
    · exact (s.refuse_edits ..).related
    · split
      · exact (s.refuse_edits ..).related
      · next id found =>
        split
        · exact (s.refuse_edits ..).related
        · split
          · exact (s.refuse_edits ..).related
          · have fresh : s.stream id = none := by simpa using List.find?_some found
            exact (placeStream_related (List.mem_of_find?_eq_some found) fresh (fun k hk => List.mem_of_mem_take hk) rfl
              rfl).trans (State.accept_edits ..).related

theorem serveCloseStream_related : RelationsKept s (serveCloseStream f s) := by
  simp only [serveCloseStream]
  split
  · exact (s.refuse_edits ..).related
  · split
    · exact (s.refuse_edits ..).related
    · next st hst =>
      split
      · exact (s.refuse_edits ..).related
      · next opened =>
        have opened : st.closing = false := by simpa using opened
        split
        · next staged => exact (removeStaged_related hst staged opened).trans (State.accept_edits ..).related
        · next active => exact (markClosing_related hst active opened).trans (State.accept_edits ..).related

theorem serveDiscard_related : RelationsKept s (serveDiscard f s) := by
  simp only [serveDiscard]
  split
  · exact (s.refuse_edits ..).related
  · have records := discardStreams_stream s
    have others := discardStreams_eq s
    generalize streamIds.foldl discardStream s = u at records others
    exact (discard_related records others).trans (State.accept_edits ..).related

/-! ## Frame starts, frame ends and the port -/

theorem planSwap_related : RelationsKept s (planSwap s) := by
  unfold planSwap
  split
  · split
    · exact swapPlans_related _
    · exact .refl s
  · exact .refl s

theorem frameStart_related : RelationsKept s (frameStart s) :=
  ((assignFrame_edits s).related.trans (planSwap_related _)).trans (frameStart_edits s).related

theorem serveTrunkStop_related : RelationsKept s (serveTrunkStop f s) := by
  have stops : ∀ t : State, RelationsKept t ((beginStop t).enter (outstanding .trunkStop f none .awaitingFrame)) :=
    fun t => .of_eq rfl rfl rfl rfl
  unfold serveTrunkStop
  split
  · refine .trans ?_ (stops _)
    split
    · exact frameStart_related s
    · exact .refl s
  · exact (s.refuse_edits ..).related

theorem atPowerOn_related (reason : StartReason) (baud : BitVec 2) (pending : List Instr) :
    RelationsKept s (State.atPowerOn reason baud pending) :=
  .of_empty ⟨rfl, rfl⟩ ⟨rfl, rfl⟩ rfl StreamUnit.reset_get

end

/-! ## Every command keeps both relations -/

/-- A meaning in the shell that keeps both relations. -/
theorem RelationsKept.of_released {s t : State} {f : State → State} (hf : RelationsKept s (f s))
    (h : whileReleased s f = .next t) : RelationsKept s t := by
  obtain rfl | ⟨-, rfl⟩ := whileReleased_cases h
  · exact .refl _
  · exact hf

theorem RelationsKept.of_guarded {s t : State} {p : State → Prop} {_ : DecidablePred p} {f : State → State}
    (hf : RelationsKept s (f s)) (h : whileReleased s (fun s => if p s then f s else s) = .next t) :
    RelationsKept s t := by
  obtain rfl | ⟨-, rfl⟩ := guarded_cases h
  · exact .refl _
  · exact hf

theorem RelationsKept.of_take {k : ReqKind} {serve : ReqFrame → State → State} {s t : State}
    (hs : ∀ f s, RelationsKept s (serve f s)) (h : takeRequest k serve s = .next t) : RelationsKept s t := by
  obtain rfl | ⟨f, -, ⟨st, rfl⟩ | rfl⟩ := takeRequest_cases h
  · exact .refl _
  · exact (s.popIntake_edits.trans (State.refuse_edits ..)).related
  · exact s.popIntake_edits.related.trans (hs ..)

theorem RelationsKept.of_slotRow {s t : State} {slot : Nat} {isRow : State → Bool} {line : Option Word}
    (h : slotRow slot isRow line s = .next t) : RelationsKept s t := by
  obtain rfl | ⟨-, rfl⟩ := whileReleased_cases h
  · exact .refl _
  · split
    · exact .refl _
    · split
      · exact ((passSlots_edits s slot).trans (slotEvent_edits ..)).related
      · exact .refl _

theorem RelationsKept.of_noticeStart {s t : State} (h : execNoticeStart s = .next t) : RelationsKept s t := by
  refine .of_released ?_ h
  split
  · next n rest _ =>
    split
    · have begun : ∀ q p, RelationsKept s { s with notices := q, port := p } := fun _ _ => .of_eq rfl rfl rfl rfl
      have taken : ∀ (t : State) id, Edits t (takeData id t) := fun t id => by
        unfold takeData
        split
        · exact .refl t
        · next st h => exact (Edits.worked h).trans (.data_if (State.setStream_present h _) _)
      unfold startNotice
      split
      · exact (begun _ _).trans (taken _ _).related
      all_goals exact begun _ _
    · exact .refl s
  · exact .refl s

theorem exec_related {c : Instr} {s t : State} (h : exec c s = .next t) : RelationsKept s t := by
  have port : ∀ g : State → HostPort, whileReleased s (fun s => { s with port := g s }) = .next t → RelationsKept s t :=
    fun g => .of_released (f := fun s => { s with port := g s }) (.of_eq rfl rfl rfl rfl)
  have take : ∀ {k serve}, (∀ f s, Edits s (serve f s)) → takeRequest k serve s = .next t → RelationsKept s t :=
    fun hs => .of_take fun f s => (hs f s).related
  cases c with
  | powerOn bds1 bds0 =>
    obtain rfl := Host.Outcome.next.inj h
    exact atPowerOn_related ..
  | rstnLow =>
    obtain rfl := Host.Outcome.next.inj h
    exact .of_eq rfl rfl rfl rfl
  | resetPoint => exact .of_guarded (atPowerOn_related ..) (show execResetPoint s = _ from h)
  | receiveFrame bytes => exact port (·.port.receive false bytes) h
  | gapLimitExpiry => exact port (·.port.gapLimit) h
  | syncByteReceived => exact port (·.port.receive false [Config.syncByte]) h
  | badLengthByte b => exact port (·.port.receive false [b]) h
  | framingErrorByte b => exact port (·.port.receive true [b]) h
  | badKindFrame =>
    refine .of_released ?_ (show execBadKindFrame s = _ from h)
    repeat' split
    · exact .refl s
    · exact (s.popIntake_edits.trans (State.replyNow_edits ..)).related
    · exact .refl s
  | replyStart =>
    refine .of_released ?_ (show execReplyStart s = _ from h)
    split
    · exact .of_eq rfl rfl rfl rfl
    all_goals exact .refl s
  | noticeStart => exact .of_noticeStart h
  | messageEnd =>
    refine .of_released ?_ (show execMessageEnd s = _ from h)
    split
    · exact .refl s
    all_goals exact .of_eq rfl rfl rfl rfl
  | hello => exact take (fun f s => s.accept_edits _ f _) h
  | status => exact take (fun f s => s.accept_edits _ f _) h
  | grant => exact .of_take serveGrant_related h
  | cancel => exact take serveCancel_edits h
  | restart => exact take serveRestart_edits h
  | trunkSetup => exact .of_take serveTrunkSetup_related h
  | trunkStart => exact take serveTrunkStart_edits h
  | trunkStop => exact .of_take serveTrunkStop_related h
  | enroll => exact take serveEnroll_edits h
  | drop => exact take serveDrop_edits h
  | drowse => exact take serveDrowse_edits h
  | wake => exact take serveWake_edits h
  | trim => exact take serveTrim_edits h
  | policy => exact take servePolicy_edits h
  | call => exact take serveCall_edits h
  | clearFault => exact take serveClearFault_edits h
  | stationInfo => exact take serveStationInfo_edits h
  | openStream => exact .of_take serveOpenStream_related h
  | closeStream => exact .of_take serveCloseStream_related h
  | commit => exact take serveCommit_edits h
  | discard => exact .of_take serveDiscard_related h
  | planInfo => exact take (fun f s => s.accept_edits _ f _) h
  | write => exact take serveWrite_edits h
  | streamInfo => exact take serveStreamInfo_edits h
  | frameStart => exact .of_guarded (frameStart_related s) (show execFrameStart s = _ from h)
  | planSwap => exact .of_guarded (frameStart_related s) (show execPlanSwap s = _ from h)
  | trimDue a => exact .of_guarded (frameStart_related s) (forStation_next h)
  | quietSpanEnd a => exact .of_guarded (frameStart_related s) (forStation_next h)
  | frameEnd => exact .of_guarded (frameEnd_edits s).related (show execFrameEnd s = _ from h)
  | startingEnd => exact .of_guarded (frameEnd_edits s).related (show execStartingEnd s = _ from h)
  | trunkStopComplete => exact .of_guarded (frameEnd_edits s).related (show execTrunkStopComplete s = _ from h)
  | frameNumberExhausted => exact .of_guarded (frameEnd_edits s).related (show execFrameNumberExhausted s = _ from h)
  | wakeLatencyEnd a => exact .of_guarded (frameEnd_edits s).related (forStation_next h)
  | beaconSlot line => exact .of_slotRow (show execBeaconSlot line s = _ from h)
  | serviceDownSlot k line => exact .of_slotRow (forPair_next h).2
  | serviceUpSlot k line => exact .of_slotRow (forPair_next h).2
  | commandDownSlot j line => exact .of_slotRow (forPair_next h).2
  | commandUpSlot j line => exact .of_slotRow (forPair_next h).2
  | responseWindowExpiry j => exact .of_slotRow (forPair_next h).2
  | streamDownSlot k line => exact .of_slotRow (forSlot_next h).2
  | streamUpSlot k line => exact .of_slotRow (forSlot_next h).2
  | unexpectedWordSlot k w => exact .of_slotRow (forSlot_next h).2

theorem step_related {s t : State} (h : step s = .next t) : RelationsKept s t := by
  cases hp : s.pending with
  | nil =>
    rw [step_nil hp] at h
    exact Host.Outcome.next.inj h ▸ .refl s
  | cons c rest =>
    rw [step_cons hp] at h
    have waiting : RelationsKept s { s with pending := rest } := .of_eq rfl rfl rfl rfl
    exact waiting.trans (exec_related h)

/-- Settles O58: every step keeps both relations. -/
theorem plansStayRelated : Obligations.PlansStayRelated :=
  ⟨fun _ _ agree h => (step_related h).agree agree, fun _ _ follow h => (step_related h).follow follow⟩

end Sys2Proof.Machine
end

section

namespace Sys2Proof.Machine

/-! ## What grows while edits come: notices and replies, but no stream and no block (R49, R165, R166) -/

theorem Notice.isMarkerOf_iff {id : Nat} {n : Notice} : n.isMarkerOf id = true ↔ n.marker = some id := by
  cases n <;> simp [Notice.isMarkerOf, Notice.marker]

/-- From s to t notices and replies were only added, and none is the marker of a stream without a record; such a stream
has none in t, and the free blocks stay. -/
structure Grows (s t : State) : Prop where
  gone : ∀ id, s.stream id = none → t.stream id = none
  marks : ∀ id, s.stream id = none → t.notices.marked id = s.notices.marked id
  blocks : t.streams.freeBlocks = s.streams.freeBlocks
  credits : t.notices.credits = s.notices.credits
  sequence : t.notices.nextSequence = s.notices.nextSequence
  entries : ∃ more, t.notices.entries = s.notices.entries ++ more ∧
    ∀ n ∈ more, ∀ id, n.isMarkerOf id = true → s.stream id ≠ none
  replies : s.port.replies <+: t.port.replies

/-- What leaves the notices, the streams and the replies. -/
theorem Grows.of_eq {s t : State} (gone : ∀ id, s.stream id = none → t.stream id = none)
    (blocks : t.streams.freeBlocks = s.streams.freeBlocks) (notices : t.notices = s.notices)
    (replies : s.port.replies <+: t.port.replies) : Grows s t :=
  ⟨gone, fun _ _ => by rw [notices], blocks, by rw [notices], by rw [notices], ⟨[], by simp [notices]⟩, replies⟩

theorem Grows.trans {s t u : State} (h : Grows s t) (k : Grows t u) : Grows s u where
  gone := fun id hs => k.gone id (h.gone id hs)
  marks := fun id hs => (k.marks id (h.gone id hs)).trans (h.marks id hs)
  blocks := k.blocks.trans h.blocks
  credits := k.credits.trans h.credits
  sequence := k.sequence.trans h.sequence
  entries := by
    obtain ⟨more, hmore, markers⟩ := h.entries
    obtain ⟨more', hmore', markers'⟩ := k.entries
    refine ⟨more ++ more', by rw [hmore', hmore, List.append_assoc], fun n hn id hid => ?_⟩
    obtain hn | hn := List.mem_append.mp hn
    · exact markers n hn id hid
    · exact fun absent => markers' n hn id hid (h.gone id absent)
  replies := h.replies.trans k.replies

/-- A full record joins the queue or is dropped (R165). -/
theorem NoticeQueue.offer_entries (q : NoticeQueue) (n : Notice) :
    ∃ more, (q.offer n).entries = q.entries ++ more ∧ ∀ m ∈ more, m = n := by
  unfold NoticeQueue.offer
  split
  · exact ⟨[n], rfl, fun m => List.mem_singleton.mp⟩
  · exact ⟨[], by simp [NoticeQueue.drop]⟩

/-- A marker is coalesced, joins the queue or is dropped (R166). -/
theorem NoticeQueue.offerMarker_entries (q : NoticeQueue) (id : Nat) (n : Notice) :
    ∃ more, (q.offerMarker id n).entries = q.entries ++ more ∧ ∀ m ∈ more, m = n := by
  unfold NoticeQueue.offerMarker
  repeat' split
  · exact ⟨[], by simp⟩
  · exact ⟨[n], rfl, fun m => List.mem_singleton.mp⟩
  · exact ⟨[], by simp [NoticeQueue.drop]⟩

/-- The offer of a stream's marker leaves the marker index of the others. -/
theorem NoticeQueue.offerMarker_marked_of_ne {q : NoticeQueue} {i j : Nat} (h : i ≠ j) (n : Notice) :
    (q.offerMarker i n).marked j = q.marked j := by
  unfold NoticeQueue.offerMarker
  repeat' split
  · rfl
  · exact (NoticeQueue.marked_mark q i j true).trans (if_neg fun e => h e.1)
  · rfl

theorem Grows.of_offer {s : State} {n : Notice} (full : n.marker = none) : Grows s (s.offer n) := by
  obtain ⟨more, entries, only⟩ := s.notices.offer_entries n
  obtain ⟨credits, sequence, -⟩ := s.notices.offer_frame n
  refine ⟨fun _ => id, fun id _ => NoticeQueue.offer_marked .., rfl, credits, sequence, ⟨more, entries, ?_⟩,
    List.prefix_rfl⟩
  intro m hm id marker
  rw [Notice.isMarkerOf_iff, only m hm, full] at marker
  simp at marker

/-- The marker of a stream that has a record is offered, and nothing else changes but the streams' states. -/
theorem Grows.of_offerMarker {s t : State} {i : Nat} {n : Notice} (marker : n.marker = some i)
    (present : s.stream i ≠ none) (notices : t.notices = s.notices.offerMarker i n)
    (gone : ∀ id, s.stream id = none → t.stream id = none)
    (blocks : t.streams.freeBlocks = s.streams.freeBlocks) (replies : s.port.replies <+: t.port.replies) :
    Grows s t := by
  obtain ⟨more, entries, only⟩ := s.notices.offerMarker_entries i n
  obtain ⟨credits, sequence⟩ := s.notices.offerMarker_frame i n
  refine ⟨gone, fun id absent => ?_, blocks, by rw [notices, credits], by rw [notices, sequence],
    ⟨more, by rw [notices, entries], fun m hm id isMarker => ?_⟩, replies⟩
  · rw [notices]
    refine NoticeQueue.offerMarker_marked_of_ne ?_ n
    rintro rfl
    exact present absent
  · rw [Notice.isMarkerOf_iff, only m hm, marker] at isMarker
    exact Option.some.inj isMarker ▸ present

theorem State.setStream_gone {s : State} {id : Nat} {st : Stream} (h : s.stream id = some st) (st' : Stream) (i : Nat)
    (absent : s.stream i = none) : (s.setStream id (some st')).stream i = none := by
  rw [State.setStream_stream, if_neg, absent]
  rintro ⟨rfl, -⟩
  simp [absent] at h

theorem State.followStream_grows (s : State) (a id : Nat) : Grows s (s.followStream a id) := by
  have gone : ∀ i, s.stream i = none → (s.followStream a id).stream i = none := fun i absent => by
    rw [State.followStream_stream, absent]
    split <;> rfl
  have blocks : (s.followStream a id).streams.freeBlocks = s.streams.freeBlocks := by
    simp only [State.followStream]
    repeat' split
    all_goals simp
  have replies : s.port.replies <+: (s.followStream a id).port.replies := by
    rw [(s.followStream_frame a id).2.2.2.2.2.2.1]
  obtain same | offered := State.followStream_notices s a id
  · exact .of_eq gone blocks same replies
  · cases hst : s.stream id with
    | none => exact .of_eq gone blocks (by simp [State.followStream, hst]) replies
    | some st => exact .of_offerMarker rfl (by simp [hst]) offered gone blocks replies

theorem State.moveStation_grows (s : State) (a : Nat) (new : StationState) (reason : Reason) :
    Grows s (s.moveStation a new reason) := by
  have follows : ∀ t : State, Grows t (t.followStation a) := fun t =>
    foldl_keeps (P := Grows t) (fun u id h => h.trans (u.followStream_grows a id)) streamIds t
      (.of_eq (fun _ => id) rfl rfl List.prefix_rfl)
  have recorded : Grows s (s.onStation a fun r => { r with state := new }) :=
    .of_eq (fun _ => id) rfl rfl List.prefix_rfl
  rw [State.moveStation_eq]
  exact (recorded.trans (.of_offer rfl)).trans (follows _)

theorem Edits.grows {s t : State} (h : Edits s t) : Grows s t := by
  induction h with
  | aside h =>
    exact .of_eq (fun id absent => by simpa only [State.stream, h.streams] using absent) (by rw [h.streams]) h.notices
      h.replies
  | moved s a new reason => exact s.moveStation_grows a new reason
  | worked h terms => exact .of_eq (State.setStream_gone h _) (by simp) rfl List.prefix_rfl
  | held h live idle => exact .of_eq (State.setStream_gone h _) (by simp) rfl List.prefix_rfl
  | noticed s full => exact .of_offer full
  | data h => exact .of_offerMarker rfl h rfl (fun _ => id) rfl List.prefix_rfl
  | space h => exact .of_offerMarker rfl h rfl (fun _ => id) rfl List.prefix_rfl
  | trans _ _ h k => exact h.trans k

/-! ## The blocks of the closing streams (R42, R49) -/

/-- The blocks a stream holds, 0 where it has no record (R42). -/
def State.blocksOf (s : State) (id : Nat) : Nat := ((s.stream id).map (·.blocks)).getD 0

theorem State.total_eq (s : State) : s.streams.total = s.streams.freeBlocks + (streamIds.map s.blocksOf).sum := rfl

theorem streamIds_nodup : streamIds.Nodup := by decide

/-- A removed stream's blocks become free, so the pool and the streams hold together what they held (R42). -/
theorem deleteStream_total {s : State} {id : Nat} {st : Stream} (h : s.stream id = some st) :
    (deleteStream id st s).streams.total = s.streams.total := by
  have mem := State.stream_mem h
  have blocks : ∀ i, (deleteStream id st s).blocksOf i = if id = i then 0 else s.blocksOf i := fun i => by
    rw [State.blocksOf, deleteStream_stream st mem]
    split <;> rfl
  have others : (streamIds.erase id).map (deleteStream id st s).blocksOf = (streamIds.erase id).map s.blocksOf :=
    List.map_congr_left fun i hi => by
      rw [blocks, if_neg]
      rintro rfl
      exact (List.Nodup.not_mem_erase streamIds_nodup) hi
  have mine : s.blocksOf id = st.blocks := by simp [State.blocksOf, h]
  have free : (deleteStream id st s).streams.freeBlocks = s.streams.freeBlocks + st.blocks := rfl
  rw [State.total_eq, State.total_eq, free, ← List.sum_map_erase _ mem, ← List.sum_map_erase s.blocksOf mem, others,
    blocks, if_pos rfl, mine]
  omega

theorem removeClosing_total (s : State) (id : Nat) : (removeClosing s id).streams.total = s.streams.total := by
  unfold removeClosing
  cases h : s.stream id with
  | none => rfl
  | some st => exact deleteStream_total h

/-- The closing streams one after another (R33). -/
def State.withoutClosing (l : List Nat) (s : State) : State := l.foldl removeClosing s

theorem State.withoutClosing_stream (l : List Nat) (s : State) (id : Nat) :
    (s.withoutClosing l).stream id = if id ∈ l then none else s.stream id :=
  foldl_records (g := fun _ => none) (fun t i => (removeClosing_frame t i).2.2.1)
    (fun t i j _ => removeClosing_stream t i j) (fun _ => rfl) l s rfl id

/-- The blocks of the closing streams are free again (R49). -/
theorem State.withoutClosing_freeBlocks (l : List Nat) (s : State) :
    (s.withoutClosing l).streams.freeBlocks =
      s.streams.freeBlocks + (streamIds.map (fun id => if id ∈ l then s.blocksOf id else 0)).sum := by
  have total : (s.withoutClosing l).streams.total = s.streams.total :=
    foldl_same (p := fun t : State => t.streams.total) removeClosing_total l s
  have split : streamIds.map s.blocksOf = streamIds.map (fun id =>
      (if id ∈ l then s.blocksOf id else 0) + (s.withoutClosing l).blocksOf id) :=
    List.map_congr_left fun id _ => by
      rw [State.blocksOf, State.blocksOf, State.withoutClosing_stream]
      split <;> simp
  rw [State.total_eq, State.total_eq, split, List.sum_map_add] at total
  omega

/-! ## The notices of the closing streams (R49, R167) -/

/-- The queue has its bound, and the marker index tells of each stream whether the queue holds its marker (R163). -/
structure NoticeQueue.Indexed (q : NoticeQueue) : Prop where
  bound : q.entries.length ≤ Config.noticeQueue
  counts : ∀ id ∈ streamIds, q.entries.countP (Notice.isMarkerOf id) = if q.marked id then 1 else 0

theorem NoticeQueue.Indexed.of_markersIndexed {s : State} (h : MarkersIndexed s) : s.notices.Indexed :=
  ⟨h.1, h.2.2.2.1⟩

theorem NoticeQueue.Indexed.unmarked {q : NoticeQueue} (h : q.Indexed) {id : Nat} (mem : id ∈ streamIds)
    (clear : q.marked id = false) : ∀ n ∈ q.entries, n.isMarkerOf id = false := by
  have count := h.counts id mem
  rw [clear, if_neg (by decide), List.countP_eq_zero] at count
  exact fun n hn => by simpa using count n hn

/-- With a true index the removal of a marker is its removal from the queue (R167). -/
theorem NoticeQueue.Indexed.removeMarker_entries {q : NoticeQueue} (h : q.Indexed) {id : Nat} (mem : id ∈ streamIds) :
    (q.removeMarker id).entries = q.entries.filter (fun n => !n.isMarkerOf id) := by
  unfold NoticeQueue.removeMarker
  cases clear : q.marked id with
  | true => rfl
  | false =>
    refine (List.filter_eq_self.mpr fun n hn => ?_).symm
    simp [h.unmarked mem clear n hn]

/-- The queue after one closing stream's removal (R49). -/
def NoticeQueue.closed (id : Nat) (n : Notice) (q : NoticeQueue) : NoticeQueue := (q.removeMarker id).offer n

theorem NoticeQueue.closed_marked (q : NoticeQueue) (i j : Nat) (n : Notice) :
    (q.closed i n).marked j = if i = j then false else q.marked j := by
  rw [NoticeQueue.closed, NoticeQueue.offer_marked, NoticeQueue.removeMarker_marked]

section
variable {q : NoticeQueue} (h : q.Indexed) {id : Nat} (mem : id ∈ streamIds) {n : Notice} (full : n.marker = none)
include h mem

/-- Where there is room the notice stands behind what is left of the queue. -/
theorem NoticeQueue.Indexed.closed_entries
    (room : (q.entries.filter (fun m => !m.isMarkerOf id)).length < Config.noticeQueue) :
    (q.closed id n).entries = q.entries.filter (fun m => !m.isMarkerOf id) ++ [n] := by
  rw [NoticeQueue.closed, NoticeQueue.offer_room n (by rwa [h.removeMarker_entries mem]), h.removeMarker_entries mem]

/-- The place of the stream's marker is the room of its notice (R49, R167). -/
theorem NoticeQueue.Indexed.room_of_marked (marked : q.marked id = true) :
    (q.entries.filter (fun m => !m.isMarkerOf id)).length < Config.noticeQueue := by
  have count := h.counts id mem
  have parts := List.length_eq_countP_add_countP (Notice.isMarkerOf id) (l := q.entries)
  rw [marked, if_pos rfl] at count
  have bound := h.bound
  simp only [← List.countP_eq_length_filter, decide_not, Bool.decide_eq_true] at parts ⊢
  omega

include full

theorem NoticeQueue.Indexed.closed : (q.closed id n).Indexed := by
  have notMarker : ∀ j, n.isMarkerOf j = false := fun j => by
    rw [← Bool.not_eq_true, Notice.isMarkerOf_iff, full]
    simp
  have left := h.removeMarker_entries mem
  have fewer : (q.removeMarker id).entries.length ≤ Config.noticeQueue := by
    rw [left]
    exact (List.length_filter_le ..).trans h.bound
  obtain ⟨more, entries, only⟩ := (q.removeMarker id).offer_entries n
  refine ⟨?_, fun j hj => ?_⟩
  · rw [NoticeQueue.closed]
    by_cases room : (q.removeMarker id).entries.length < Config.noticeQueue
    · rw [NoticeQueue.offer_room n room, List.length_append, List.length_singleton]
      exact room
    · rw [NoticeQueue.offer_full n room]
      exact fewer
  · have added : more.countP (Notice.isMarkerOf j) = 0 :=
      List.countP_eq_zero.mpr fun m hm => by simp [only m hm, notMarker]
    rw [NoticeQueue.closed_marked, NoticeQueue.closed, entries, List.countP_append, added, left, List.countP_filter]
    by_cases here : id = j
    · subst here
      simp
    · rw [if_neg here, ← h.counts j hj, Nat.add_zero]
      refine List.countP_congr fun m _ => ?_
      simp only [Bool.and_eq_true, Bool.not_eq_true', and_iff_left_iff_imp, Notice.isMarkerOf_iff]
      intro marker
      rw [← Bool.not_eq_true, Notice.isMarkerOf_iff, marker]
      exact fun e => here (Option.some.inj e).symm

end

end Sys2Proof.Machine
end

section

namespace Sys2Proof.Machine

/-! ## The closing streams one after another (R33, R49, R167) -/

theorem removeClosing_notices {s : State} {id : Nat} {st : Stream} (h : s.stream id = some st) :
    (removeClosing s id).notices = s.notices.closed id (st.closedNotice id s.engine.frameNumber) := by
  simp only [removeClosing, h]
  rfl

theorem removeClosing_counters (s : State) (id : Nat) : (removeClosing s id).notices.credits = s.notices.credits ∧
    (removeClosing s id).notices.nextSequence = s.notices.nextSequence := by
  cases hst : s.stream id with
  | none => simp only [removeClosing, hst, and_self]
  | some st =>
    rw [removeClosing_notices hst, NoticeQueue.closed, (NoticeQueue.offer_frame ..).1, (NoticeQueue.offer_frame ..).2.1]
    unfold NoticeQueue.removeMarker
    split <;> simp

/-- A place of the marker index that is clear stays so, and that of a stream with a record is cleared (R49). -/
theorem State.withoutClosing_marked {id : Nat} : ∀ (l : List Nat) {s : State},
    s.notices.marked id = false ∨ (id ∈ l ∧ s.stream id ≠ none) → (s.withoutClosing l).notices.marked id = false := by
  intro l
  induction l with
  | nil => exact fun h => h.resolve_right fun h => List.not_mem_nil h.1
  | cons i l ih =>
    intro s h
    refine ih ?_
    rw [removeClosing_marked, removeClosing_stream]
    obtain clear | ⟨mem, present⟩ := h
    · exact .inl (by simp [clear])
    · by_cases here : i = id
      · subst here
        exact .inl (if_pos ⟨rfl, present⟩)
      · exact .inr ⟨(List.mem_cons.mp mem).resolve_left (Ne.symm here), by rwa [if_neg here]⟩

/-- Only markers leave the queue at the removal of a closing stream (R167). -/
theorem removeClosing_keeps {s : State} {n : Notice} (id : Nat) (full : n.marker = none) (h : n ∈ s.notices.entries) :
    n ∈ (removeClosing s id).notices.entries := by
  cases hst : s.stream id with
  | none => simpa only [removeClosing, hst] using h
  | some st =>
    rw [removeClosing_notices hst, NoticeQueue.closed]
    refine NoticeQueue.mem_offer ?_
    unfold NoticeQueue.removeMarker
    split
    · refine List.mem_filter.mpr ⟨h, ?_⟩
      rw [Bool.not_eq_true', ← Bool.not_eq_true, Notice.isMarkerOf_iff, full]
      simp
    · exact h

theorem State.withoutClosing_keeps {s : State} {n : Notice} (l : List Nat) (full : n.marker = none)
    (h : n ∈ s.notices.entries) : n ∈ (s.withoutClosing l).notices.entries :=
  foldl_keeps (P := fun t : State => n ∈ t.notices.entries) (fun _ id ht => removeClosing_keeps id full ht) l s h

/-- The queue's index is true, and the streams of a list have records, each named once. -/
structure State.Closable (s : State) (l : List Nat) : Prop where
  indexed : s.notices.Indexed
  present : ∀ id ∈ l, s.stream id ≠ none
  nodup : l.Nodup

namespace State.Closable

variable {s : State} {l : List Nat}

/-- The first of the list has a record; behind its removal the rest of the list is as before. -/
theorem step {i : Nat} (h : s.Closable (i :: l)) : ∃ st, s.stream i = some st ∧ i ∈ streamIds ∧
    (removeClosing s i).notices = s.notices.closed i (st.closedNotice i s.engine.frameNumber) ∧
    (removeClosing s i).Closable l ∧ ∀ id ∈ l, i ≠ id ∧ (removeClosing s i).stream id = s.stream id := by
  obtain ⟨fresh, nodup⟩ := List.nodup_cons.mp h.nodup
  obtain ⟨st, hst⟩ := Option.ne_none_iff_exists'.mp (h.present i List.mem_cons_self)
  have mem := State.stream_mem hst
  have others : ∀ id ∈ l, i ≠ id ∧ (removeClosing s i).stream id = s.stream id := fun id hid =>
    have other : i ≠ id := fun e => fresh (e ▸ hid)
    ⟨other, by rw [removeClosing_stream, if_neg other]⟩
  refine ⟨st, hst, mem, removeClosing_notices hst, ⟨?_, fun id hid => ?_, nodup⟩, others⟩
  · rw [removeClosing_notices hst]
    exact h.indexed.closed mem rfl
  · rw [(others id hid).2]
    exact h.present id (List.mem_cons_of_mem i hid)

theorem indexed_after : ∀ {l : List Nat} {s : State}, s.Closable l → (s.withoutClosing l).notices.Indexed := by
  intro l
  induction l with
  | nil => exact fun h => h.indexed
  | cons i l ih =>
    intro s h
    obtain ⟨_, _, _, _, rest, _⟩ := h.step
    exact ih rest

/-- With room for the notices the queue loses the markers and gains the notices, in the list's order (R49, R167). -/
theorem entries : ∀ {l : List Nat} {s : State}, s.Closable l →
    s.notices.entries.length + l.length ≤ Config.noticeQueue →
    (s.withoutClosing l).notices.entries =
      s.notices.entries.filter (fun n => l.all (fun id => !n.isMarkerOf id)) ++
        l.filterMap (fun id => (s.stream id).map (Stream.closedNotice id s.engine.frameNumber)) := by
  intro l
  induction l with
  | nil =>
    intro s _ _
    simp [State.withoutClosing]
  | cons i l ih =>
    intro s h room
    obtain ⟨st, hst, mem, notices, rest, others⟩ := h.step
    have left := List.length_filter_le (fun m : Notice => !m.isMarkerOf i) s.notices.entries
    rw [List.length_cons] at room
    have first : (removeClosing s i).notices.entries = s.notices.entries.filter (fun m => !m.isMarkerOf i) ++
        [st.closedNotice i s.engine.frameNumber] := by
      rw [notices]
      exact h.indexed.closed_entries mem (by omega)
    have unmarked : ∀ id, (st.closedNotice i s.engine.frameNumber).isMarkerOf id = false := fun _ => rfl
    have later : l.filterMap (fun id => ((removeClosing s i).stream id).map
        (Stream.closedNotice id (removeClosing s i).engine.frameNumber)) =
        l.filterMap (fun id => (s.stream id).map (Stream.closedNotice id s.engine.frameNumber)) :=
      List.filterMap_congr fun id hid => by rw [(others id hid).2, (removeClosing_frame s i).1]
    refine (ih rest ?_).trans ?_
    · rw [first, List.length_append, List.length_singleton]
      omega
    · rw [first, later, List.filter_append, List.filter_filter]
      simp [hst, unmarked, Bool.and_comm]

/-- A stream whose marker the queue holds has its notice there, even with a full queue: the marker's place is free for
it (R49, R167). -/
theorem told {id : Nat} {st : Stream} : ∀ {l : List Nat} {s : State}, s.Closable l → id ∈ l →
    s.notices.marked id = true → s.stream id = some st →
    st.closedNotice id s.engine.frameNumber ∈ (s.withoutClosing l).notices.entries := by
  intro l
  induction l with
  | nil => exact fun _ mem => absurd mem List.not_mem_nil
  | cons i l ih =>
    intro s h mem marked hst
    obtain ⟨st', hst', memIds, notices, rest, others⟩ := h.step
    by_cases here : i = id
    · subst here
      obtain rfl := Option.some.inj (hst.symm.trans hst')
      refine State.withoutClosing_keeps (s := removeClosing s i) l rfl ?_
      rw [notices, h.indexed.closed_entries memIds (h.indexed.room_of_marked memIds marked)]
      exact List.mem_append_right _ (List.mem_singleton.mpr rfl)
    · have mem := (List.mem_cons.mp mem).resolve_left (Ne.symm here)
      have frame : (removeClosing s i).engine.frameNumber = s.engine.frameNumber := by rw [(removeClosing_frame s i).1]
      rw [← frame]
      refine ih rest mem ?_ ((others id mem).2.trans hst)
      rw [notices, NoticeQueue.closed_marked, if_neg here, marked]

end State.Closable

/-! ## The frame start of the plan swap (R4, R34) -/

theorem enterActive_freeBlocks (s : State) (id : Nat) :
    (enterActive s id).streams.freeBlocks = s.streams.freeBlocks := by
  unfold enterActive
  repeat' split
  all_goals simp

/-- Beside the streams' entries the swap leaves what the removals left, and the COMMIT is answered (R34). -/
theorem swapPlans_parts (c : PendingCommit) (s : State) :
    (swapPlans c s).notices = (s.withoutClosing s.closing).notices ∧
    (swapPlans c s).streams.freeBlocks = (s.withoutClosing s.closing).streams.freeBlocks ∧
    (swapPlans c s).port = s.port.answer c.tag .ok (.commit c.target (s.plans.staged.generation + 1)) := by
  have plans : (s.withoutClosing s.closing).plans = s.plans :=
    foldl_same (p := State.plans) (fun t i => (removeClosing_frame t i).2.1) _ _
  have port : (s.withoutClosing s.closing).port = s.port :=
    foldl_same (p := State.port) (fun t i => (removeClosing_frame t i).2.2.2.2.2.2.1) _ _
  have entered : ∀ (l : List Nat) (t : State), (l.foldl enterActive t).notices = t.notices ∧
      (l.foldl enterActive t).streams.freeBlocks = t.streams.freeBlocks ∧ (l.foldl enterActive t).port = t.port ∧
      (l.foldl enterActive t).plans = t.plans := fun l t =>
    ⟨foldl_same (p := State.notices) (fun u i => by simp) l t,
      foldl_same (p := fun u : State => u.streams.freeBlocks) (fun u i => enterActive_freeBlocks u i) l t,
      foldl_same (p := State.port) (fun u i => by simp) l t, foldl_same (p := State.plans) (fun u i => by simp) l t⟩
  have closing : s.plans.closingIds = s.closing := rfl
  simp only [swapPlans, ← State.withoutClosing.eq_def, closing, State.answer_notices, State.answer_streams,
    State.answer_port]
  generalize s.withoutClosing s.closing = t at plans port ⊢
  obtain ⟨notices, blocks, port', plans'⟩ := entered t.plans.swap.active.streams { t with plans := t.plans.swap }
  refine ⟨notices, blocks, ?_⟩
  rw [port', plans']
  simp only [port, plans]
  rfl

/-- At the frame start of F the plan swap is that of the pending commit. -/
theorem planSwap_due {s : State} {c : PendingCommit} (commit : s.plans.commit = some c)
    (target : c.target = s.engine.frameNumber + 1) : planSwap (assignFrame s) = swapPlans c (assignFrame s) := by
  have number : c.target = (assignFrame s).engine.frameNumber := target
  simp only [planSwap, assignFrame_frame, commit, number, if_true]

/-- Behind the plan swap a frame start leaves the plans alone. -/
theorem frameStart_plans (s : State) : (frameStart s).plans = (planSwap (assignFrame s)).plans := by
  rw [frameStart_eq, State.beforeGrants]
  split <;> simp

/-- The closing streams are streams of the active plan, each once (R20, R33). -/
theorem PlansLinked.closing_present {s : State} (h : PlansLinked s) : ∀ id ∈ s.closing, s.stream id ≠ none := by
  intro id hid
  obtain ⟨_, st, hst, _⟩ := (h.active.ids id).mp (List.mem_of_mem_filter hid)
  simp [hst]

theorem PlansLinked.closable {s : State} (h : PlansLinked s) (indexed : s.notices.Indexed) : s.Closable s.closing :=
  ⟨indexed, h.closing_present, (h.active.sorted.imp Nat.ne_of_lt).filter _⟩

theorem State.mem_closing {s : State} {id : Nat} :
    id ∈ s.closing ↔ id ∈ s.plans.active.streams ∧ id ∉ s.plans.staged.streams := by
  simp [State.closing]

/-- No closing stream has a record behind the swap (R33). -/
theorem swapPlans_gone {s : State} (c : PendingCommit) {id : Nat} (h : id ∈ s.closing) :
    (swapPlans c s).stream id = none := by
  obtain ⟨active, staged⟩ := State.mem_closing.mp h
  rw [swapPlans_stream, if_neg staged, if_pos active]

/-- With plans that agree no closing stream has a place of the marker index set behind the swap (R49, R167). -/
theorem PlansLinked.swap_cleared {s : State} (h : PlansLinked s) (c : PendingCommit) {id : Nat} (hid : id ∈ s.closing) :
    (swapPlans c s).notices.marked id = false := by
  rw [(swapPlans_parts c s).1]
  exact State.withoutClosing_marked s.closing (.inr ⟨hid, h.closing_present id hid⟩)

/-- Settles O35: the state behind the swap is read off its removals, and the edits that follow only add to it. -/
theorem planSwapActivatesStagedPlan : Obligations.PlanSwapActivatesStagedPlan := by
  intro s c starts commit target
  obtain ⟨low, due⟩ := State.startsFrame_due starts
  have swap := planSwap_due commit target
  have grows : Grows (swapPlans c (assignFrame s)) (frameStart s) := swap ▸ (frameStart_edits s).grows
  obtain ⟨notices, blocks, port⟩ := swapPlans_parts c (assignFrame s)
  have gone : ∀ id ∈ s.closing, (swapPlans c (assignFrame s)).stream id = none := fun id hid =>
    swapPlans_gone (s := assignFrame s) c hid
  have cleared : PlansAgree s → ∀ id ∈ s.closing, (swapPlans c (assignFrame s)).notices.marked id = false :=
    fun agree id hid => PlansLinked.swap_cleared (s := assignFrame s) (plansAgree_iff.mp agree) c hid
  have removed : ∀ l, ((assignFrame s).withoutClosing l).notices.credits = s.notices.credits ∧
      ((assignFrame s).withoutClosing l).notices.nextSequence = s.notices.nextSequence := fun l =>
    ⟨foldl_same (p := fun t : State => t.notices.credits) (fun t i => (removeClosing_counters t i).1) l (assignFrame s),
      foldl_same (p := fun t : State => t.notices.nextSequence) (fun t i => (removeClosing_counters t i).2) l
        (assignFrame s)⟩
  refine ⟨frameStart s, ?_, ?_, ?_, ?_, fun id active staged => ?_, ?_, ?_, ?_, fun indexed agree => ?_,
    fun e found => ?_⟩
  · show execPlanSwap s = _
    simp [execPlanSwap, low, due, commit, target]
  · show execFrameStart s = _
    simp [execFrameStart, low, due]
  · rw [frameStart_engine, target]
    rfl
  · rw [frameStart_plans, swap, swapPlans_plans]
    rfl
  · have closing := State.mem_closing.mpr ⟨active, staged⟩
    refine ⟨grows.gone id (gone id closing), fun agree => ?_⟩
    rw [grows.marks id (gone id closing), cleared agree id closing]
  · rw [grows.blocks, blocks]
    exact State.withoutClosing_freeBlocks s.closing (assignFrame s)
  · rw [grows.credits, notices]
    exact (removed _).1
  · rw [grows.sequence, notices]
    exact (removed _).2
  · have closable : (assignFrame s).Closable s.closing :=
      PlansLinked.closable (s := assignFrame s) (plansAgree_iff.mp agree) (.of_markersIndexed indexed)
    obtain ⟨more, entries, markers⟩ := grows.entries
    rw [notices] at entries
    have number : (assignFrame s).engine.frameNumber = c.target := target.symm
    refine ⟨fun room => ⟨more, ?_⟩, fun id hid => ⟨fun n hn => ?_, fun marked st hst => ?_⟩⟩
    · rw [entries]
      refine congrArg (· ++ more) ((closable.entries room).trans ?_)
      rw [number]
      rfl
    · rw [entries] at hn
      obtain hn | hn := List.mem_append.mp hn
      · have clear := cleared agree id hid
        rw [notices] at clear
        obtain ⟨st, hst⟩ := Option.ne_none_iff_exists'.mp (closable.present id hid)
        exact closable.indexed_after.unmarked (State.stream_mem hst) clear n hn
      · exact Bool.not_eq_true _ ▸ fun marker => markers n hn id marker (gone id hid)
    · rw [entries, ← number]
      exact List.mem_append_left _ (closable.told hid marked hst)
  · refine grows.replies.subset ?_
    have answered := HostPort.answer_waiting (p := s.port) (t := c.tag) (e := e) .ok
      (.commit c.target (s.plans.staged.generation + 1)) found
    rw [port]
    show _ ∈ (s.port.answer c.tag .ok (.commit c.target (s.plans.staged.generation + 1))).replies
    rw [answered]
    exact List.mem_append_right _ (List.mem_singleton.mpr rfl)

end Sys2Proof.Machine
end

section

namespace Sys2Proof.Machine

/-! ## The buffer pool (R42): no edit changes a block count, and what is removed goes back to the pool -/

/-- Where the free blocks and the blocks of every stream stay, the total stays. -/
theorem State.total_of_blocks {s t : State} (free : t.streams.freeBlocks = s.streams.freeBlocks)
    (blocks : ∀ id, t.blocksOf id = s.blocksOf id) : t.streams.total = s.streams.total := by
  rw [State.total_eq, State.total_eq, free, funext blocks]

theorem State.blocksOf_of_stream {s t : State} {id : Nat} (h : t.stream id = s.stream id) :
    t.blocksOf id = s.blocksOf id := by
  rw [State.blocksOf, State.blocksOf, h]

/-- A write to a stream that keeps its block count. -/
theorem State.setStream_blocksOf {s : State} {id : Nat} {st st' : Stream} (h : s.stream id = some st)
    (blocks : st'.blocks = st.blocks) (i : Nat) : (s.setStream id (some st')).blocksOf i = s.blocksOf i := by
  rw [State.blocksOf, State.setStream_stream]
  split
  · next here => rw [← here.1, State.blocksOf, h, Option.map_some, Option.map_some, blocks]
  · rfl

theorem Stream.followed_blocks (a : Nat) (active : Bool) (st : Stream) :
    (st.followed a active).blocks = st.blocks := by
  unfold Stream.followed
  repeat' split
  all_goals rfl

theorem State.moveStation_blocksOf (s : State) (a : Nat) (new : StationState) (reason : Reason) (id : Nat) :
    (s.moveStation a new reason).blocksOf id = s.blocksOf id := by
  rw [State.blocksOf, State.moveStation_eq, State.followStation_stream, Option.map_map]
  show (Option.map _ (s.stream id)).getD 0 = _
  simp only [Function.comp_def, Stream.followed_blocks, State.blocksOf]

/-- No edit changes a stream's block count. -/
theorem Edits.blocksOf {s t : State} (h : Edits s t) (id : Nat) : t.blocksOf id = s.blocksOf id := by
  induction h with
  | aside h => exact State.blocksOf_of_stream (by simp only [State.stream, h.streams])
  | moved s a new reason => exact s.moveStation_blocksOf ..
  | worked h terms => exact State.setStream_blocksOf h terms.blocks id
  | held h live idle =>
    refine State.setStream_blocksOf h ?_ id
    rfl
  | noticed s full => rfl
  | data h => rfl
  | space h => rfl
  | trans _ _ h k => exact k.trans h

theorem Edits.total {s t : State} (h : Edits s t) : t.streams.total = s.streams.total :=
  State.total_of_blocks h.grows.blocks h.blocksOf

/-! ### Streams that come and go (R42 to R45, R49) -/

/-- A write to one record changes the sum of the blocks by that stream's blocks alone. -/
theorem State.sum_blocksOf {s t : State} {id : Nat} (mem : id ∈ streamIds)
    (others : ∀ i, id ≠ i → t.stream i = s.stream i) :
    (streamIds.map t.blocksOf).sum + s.blocksOf id = (streamIds.map s.blocksOf).sum + t.blocksOf id := by
  have rest : (streamIds.erase id).map t.blocksOf = (streamIds.erase id).map s.blocksOf :=
    List.map_congr_left fun i hi => State.blocksOf_of_stream (others i fun here =>
      streamIds_nodup.not_mem_erase (here ▸ hi))
  rw [← List.sum_map_erase t.blocksOf mem, ← List.sum_map_erase s.blocksOf mem, rest]
  omega

/-- A new stream takes its blocks from those that are free (R42, R43). -/
theorem placeStream_total {s : State} {id : Nat} {st : Stream} (mem : id ∈ streamIds) (fresh : s.stream id = none)
    (room : st.blocks ≤ s.streams.freeBlocks) : (placeStream id st s).streams.total = s.streams.total := by
  have records := placeStream_stream (s := s) st mem
  have sum := State.sum_blocksOf mem fun i other => (records i).trans (if_neg other)
  have before : s.blocksOf id = 0 := by simp [State.blocksOf, fresh]
  have after : (placeStream id st s).blocksOf id = st.blocks := by simp [State.blocksOf, records]
  have free : (placeStream id st s).streams.freeBlocks = s.streams.freeBlocks - st.blocks := rfl
  rw [State.total_eq, State.total_eq, free]
  omega

theorem markClosing_total {s : State} {id : Nat} {st : Stream} (h : s.stream id = some st) :
    (markClosing id st s).streams.total = s.streams.total := by
  have same : (markClosing id st s).streams = (s.setStream id (some { st with closing := true })).streams :=
    markClosing_streams s id st
  rw [same]
  exact State.total_of_blocks (by simp) (State.setStream_blocksOf h rfl)

theorem discardStream_total (s : State) (id : Nat) : (discardStream s id).streams.total = s.streams.total := by
  unfold discardStream
  cases h : s.stream id with
  | none => rfl
  | some st =>
    simp only
    split
    · exact deleteStream_total h
    · split
      · exact State.total_of_blocks (by simp) (State.setStream_blocksOf h rfl)
      · rfl

theorem enterActive_total (s : State) (id : Nat) : (enterActive s id).streams.total = s.streams.total := by
  unfold enterActive
  cases h : s.stream id with
  | none => rfl
  | some st =>
    have kept : ∀ st' : Stream, st'.blocks = st.blocks →
        (s.setStream id (some st')).streams.total = s.streams.total :=
      fun _ blocks => State.total_of_blocks (by simp) (State.setStream_blocksOf h blocks)
    simp only
    repeat' split
    · exact kept _ rfl
    · exact kept _ rfl
    · rfl

/-- The blocks of the closing streams go back to the pool at the swap (R42, R49). -/
theorem swapPlans_total (c : PendingCommit) (s : State) : (swapPlans c s).streams.total = s.streams.total := by
  simp only [swapPlans, State.answer_streams]
  exact (foldl_same (p := fun t : State => t.streams.total) enterActive_total _ _).trans
    (foldl_same (p := fun t : State => t.streams.total) removeClosing_total _ s)

theorem planSwap_total (s : State) : (planSwap s).streams.total = s.streams.total := by
  unfold planSwap
  repeat' split
  · exact swapPlans_total ..
  all_goals rfl

theorem frameStart_total (s : State) : (frameStart s).streams.total = s.streams.total :=
  ((frameStart_edits s).total.trans (planSwap_total _)).trans (assignFrame_edits s).total

theorem StreamUnit.reset_total : StreamUnit.reset.total = Config.poolBlocks := by
  simp only [StreamUnit.total, StreamUnit.reset_get, Option.map_none, Option.getD_none]
  rfl

end Sys2Proof.Machine
end

section

namespace Sys2Proof.Machine

/-! ## What a stream's buffer holds, beside its capacity (R40)

Of each record only the level and the capacity matter here. The operations of a station's work bring streams from one
state to another (R47, R48); they write no word, so they leave every fill as it is. -/

/-- The level and the capacity of a stream, none where it has no record. -/
def StreamUnit.fill (u : StreamUnit) (id : Nat) : Option (Nat × Nat) :=
  (u.get id).map (fun st => (st.level, st.capacity))

theorem StreamUnit.fill_of_get {u v : StreamUnit} (h : ∀ id, (v.get id).map (fun st => (st.level, st.capacity)) =
    (u.get id).map (fun st => (st.level, st.capacity))) : v.fill = u.fill := funext h

/-- A write to a stream that keeps its level and its capacity. -/
theorem State.setStream_fill {s : State} {id : Nat} {st st' : Stream} (h : s.stream id = some st)
    (level : st'.level = st.level) (capacity : st'.capacity = st.capacity) :
    (s.setStream id (some st')).streams.fill = s.streams.fill := by
  refine StreamUnit.fill_of_get fun i => ?_
  show ((s.setStream id (some st')).stream i).map _ = (s.stream i).map _
  rw [State.setStream_stream]
  split
  · next here => rw [← here.1, h, Option.map_some, Option.map_some, level, capacity]
  · rfl

theorem Stream.followed_fill (a : Nat) (active : Bool) (st : Stream) :
    (st.followed a active).level = st.level ∧ (st.followed a active).capacity = st.capacity := by
  unfold Stream.followed
  repeat' split
  all_goals exact ⟨rfl, rfl⟩

section
variable (s : State)

/-! ### A station's change of state and its work (R66 to R70) -/

@[simp] theorem State.moveStation_fill (a : Nat) (new : StationState) (reason : Reason) :
    (s.moveStation a new reason).streams.fill = s.streams.fill := by
  refine StreamUnit.fill_of_get fun id => ?_
  show ((s.moveStation a new reason).stream id).map _ = (s.stream id).map _
  rw [State.moveStation_eq, State.followStation_stream, Option.map_map]
  simp only [Function.comp_def, Stream.followed_fill]
  rfl

@[simp] theorem State.enterAbsent_fill (a : Nat) (reason : Reason) (o w : Status) :
    (s.enterAbsent a reason o w).streams.fill = s.streams.fill := by
  simp [State.enterAbsent]

@[simp] theorem State.enterFaulted_fill (a : Nat) (reason : Reason) (o w : Status) :
    (s.enterFaulted a reason o w).streams.fill = s.streams.fill := by
  simp [State.enterFaulted]

@[simp] theorem State.missLimit_fill (a : Nat) (origin : StationState) :
    (s.missLimit a origin).streams.fill = s.streams.fill := by
  unfold State.missLimit
  repeat' split
  all_goals simp

/-! ### The exchanges of the command pairs (chapter 6) -/

@[simp] theorem enrollFails_fill (a : Nat) (st : Status) : (enrollFails a st s).streams.fill = s.streams.fill := by
  unfold enrollFails
  split <;> simp

@[simp] theorem enrollCompletes_fill (a : Nat) : (enrollCompletes a s).streams.fill = s.streams.fill := by
  simp [enrollCompletes]

@[simp] theorem enrollDone_fill (e : Entry) (m n : Nat) : (enrollDone e m n s).streams.fill = s.streams.fill := by
  simp only [enrollDone]
  repeat' split
  all_goals simp

@[simp] theorem enrollEnds_fill (e : Entry) (r : Ending) : (enrollEnds e r s).streams.fill = s.streams.fill := by
  unfold enrollEnds
  repeat' split
  all_goals simp

@[simp] theorem drowseEnds_fill (e : Entry) (r : Ending) : (drowseEnds e r s).streams.fill = s.streams.fill := by
  simp only [drowseEnds]
  repeat' split
  all_goals simp

@[simp] theorem probeEnds_fill (e : Entry) (r : Ending) : (probeEnds e r s).streams.fill = s.streams.fill := by
  simp only [probeEnds]
  repeat' split
  all_goals simp

@[simp] theorem handOff_fill (e : Entry) (r : Ending) : (handOff e r s).streams.fill = s.streams.fill := by
  unfold handOff
  split <;> simp

@[simp] theorem attemptMiss_fill (j slot : Nat) (x : Exchange) :
    (attemptMiss j slot x s).streams.fill = s.streams.fill := by
  simp only [attemptMiss]
  repeat' split
  all_goals simp

@[simp] theorem exchangeReply_fill (j : Nat) (x : Exchange) (r : Ending) :
    (exchangeReply j x r s).streams.fill = s.streams.fill := by
  simp [exchangeReply]

@[simp] theorem exchangeWait_fill (j : Nat) (x : Exchange) : (exchangeWait j x s).streams.fill = s.streams.fill := by
  simp only [exchangeWait]
  split <;> simp

@[simp] theorem exchangeSilent_fill (j slot : Nat) (x : Exchange) :
    (exchangeSilent j slot x s).streams.fill = s.streams.fill := by
  simp only [exchangeSilent]
  split <;> simp

@[simp] theorem commandAnswer_fill (j slot : Nat) (x : Exchange) (c : UpClass) :
    (commandAnswer j slot x c s).streams.fill = s.streams.fill := by
  unfold commandAnswer
  split <;> simp

/-! ### The trims (chapter 5) -/

@[simp] theorem quietSpanEnds_fill (a : Nat) : (quietSpanEnds a s).streams.fill = s.streams.fill := by
  simp [quietSpanEnds]

@[simp] theorem endQuietSpans_fill : (endQuietSpans s).streams.fill = s.streams.fill :=
  foldl_same (p := fun t : State => t.streams.fill) (fun t a => by split <;> simp) addresses s

@[simp] theorem accrueStation_fill (a : Nat) : (accrueStation s a).streams.fill = s.streams.fill := by
  simp only [accrueStation, trimFallsDue, breach]
  repeat' split
  all_goals simp

@[simp] theorem accrue_fill : (accrue s).streams.fill = s.streams.fill :=
  foldl_same (p := fun t : State => t.streams.fill) accrueStation_fill addresses s

@[simp] theorem trimDone_fill (k a : Nat) : (trimDone k a s).streams.fill = s.streams.fill := by
  simp only [trimDone]
  split <;> simp

@[simp] theorem trimRefused_fill (a : Nat) : (trimRefused a s).streams.fill = s.streams.fill := by
  simp only [trimRefused]
  repeat' split
  all_goals simp

@[simp] theorem trimMiss_fill (a : Nat) : (trimMiss a s).streams.fill = s.streams.fill := by
  simp only [trimMiss]
  split <;> simp

@[simp] theorem trimAnswer_fill (k slot a : Nat) (c : UpClass) :
    (trimAnswer k slot a c s).streams.fill = s.streams.fill := by
  simp only [trimAnswer]
  split <;> simp

/-! ### The trunk stop (R48, R86) -/

@[simp] theorem stopStation_fill (a : Nat) : (stopStation s a).streams.fill = s.streams.fill := by
  unfold stopStation
  split <;> simp

@[simp] theorem stationManagerStop_fill : (stationManagerStop s).streams.fill = s.streams.fill := by
  simp only [stationManagerStop]
  exact foldl_same (p := fun t : State => t.streams.fill) (f := stopStation) (fun t a => by simp) addresses s

@[simp] theorem stopStream_fill (id : Nat) : (stopStream s id).streams.fill = s.streams.fill := by
  unfold stopStream
  split
  · rfl
  · next st h =>
    have held : (s.setStream id (some { st with state := .held })).streams.fill = s.streams.fill :=
      State.setStream_fill h rfl rfl
    simp only
    repeat' split
    · exact held
    · exact held
    · rfl

@[simp] theorem streamUnitStop_fill : (streamUnitStop s).streams.fill = s.streams.fill :=
  foldl_same (p := fun t : State => t.streams.fill) stopStream_fill streamIds s

@[simp] theorem trunkStops_fill : (trunkStops s).streams.fill = s.streams.fill := by
  simp [trunkStops]

@[simp] theorem settleTrunk_fill : (settleTrunk s).streams.fill = s.streams.fill := by
  unfold settleTrunk
  repeat' split
  all_goals simp

end

section
variable (f : ReqFrame) (s : State)

/-! ### The requests that write no word (chapters 1, 2, 4, 5, 6, 8) -/

/-- A withdrawal by the owner of the request writes no word (R158). -/
theorem cancelEntry_fill {e : Outstanding} {s t : State} (h : cancelEntry e s = some t) :
    t.streams.fill = s.streams.fill := by
  unfold cancelEntry cancelCommit cancelEnroll cancelDrowse cancelWake cancelTrim cancelCall at h
  repeat' split at h
  all_goals simp only [Option.some.injEq, reduceCtorEq] at h
  all_goals
    subst h
    simp

theorem serveCancel_fill : (serveCancel f s).streams.fill = s.streams.fill := by
  simp only [serveCancel]
  repeat' split
  · simp
  · simp
  · next h => simpa using cancelEntry_fill h
  · simp

/-- What a request gives up is no stream (R159). -/
theorem giveUp_streams (tag : Byte) : (giveUp tag s).streams = s.streams := by
  have exchange : ∀ t j, (giveUpExchange tag t j).streams = t.streams := fun t j => by
    unfold giveUpExchange
    repeat' split
    all_goals simp
  have operation : ∀ t a, (giveUpOperation tag t a).streams = t.streams := fun t a => by
    unfold giveUpOperation
    repeat' split
    all_goals simp
  have work : (s.workGivenUp tag).streams = s.streams :=
    (foldl_same (p := State.streams) operation _ _).trans (foldl_same (p := State.streams) exchange _ _)
  obtain h | h := giveUp_cases s tag
  · rw [h, work]
  · rw [h, ← work]

theorem serveRestart_streams : (serveRestart f s).streams = s.streams := by
  simp only [serveRestart, State.accept_streams]
  refine (foldl_same (p := State.streams) (fun t e => ?_) _ _).trans rfl
  unfold abortOne
  split
  · rfl
  · rw [State.answer_streams, giveUp_streams]

theorem serveTrunkSetup_streams : (serveTrunkSetup f s).streams = s.streams := by
  unfold serveTrunkSetup
  repeat' split
  all_goals rfl

theorem serveTrunkStart_streams : (serveTrunkStart f s).streams = s.streams := by
  unfold serveTrunkStart
  split <;> rfl

theorem serveEnroll_fill : (serveEnroll f s).streams.fill = s.streams.fill := by
  simp only [serveEnroll, beginEnroll]
  repeat' split
  all_goals simp

theorem serveDrop_fill : (serveDrop f s).streams.fill = s.streams.fill := by
  simp only [serveDrop]
  repeat' split
  all_goals simp

theorem serveDrowse_streams : (serveDrowse f s).streams = s.streams := by
  simp only [serveDrowse, beginDrowse]
  repeat' split
  all_goals simp

theorem serveWake_fill : (serveWake f s).streams.fill = s.streams.fill := by
  simp only [serveWake, beginWake]
  repeat' split
  all_goals simp

theorem serveTrim_streams : (serveTrim f s).streams = s.streams := by
  simp only [serveTrim]
  repeat' split
  all_goals rfl

theorem servePolicy_streams : (servePolicy f s).streams = s.streams := by
  simp only [servePolicy]
  repeat' split
  all_goals rfl

theorem serveCall_streams : (serveCall f s).streams = s.streams := by
  simp only [serveCall, beginCall]
  repeat' split
  all_goals simp

theorem serveClearFault_streams : (serveClearFault f s).streams = s.streams := by
  simp only [serveClearFault]
  split <;> rfl

theorem serveStationInfo_streams : (serveStationInfo f s).streams = s.streams := by
  simp only [serveStationInfo]
  split <;> rfl

theorem serveGrant_streams : (serveGrant f s).streams = s.streams := by
  simp only [serveGrant]
  split <;> rfl

theorem serveCommit_streams : (serveCommit f s).streams = s.streams := by
  simp only [serveCommit]
  repeat' split
  all_goals rfl

end

end Sys2Proof.Machine
end

section

namespace Sys2Proof.Machine

/-! ## No buffer overflows (R40): whoever adds words has tested the free space first (R51, R57) -/

/-- Every stream's level is at most its capacity. -/
structure StreamUnit.Fits (u : StreamUnit) : Prop where
  bound : ∀ id level capacity, u.fill id = some (level, capacity) → level ≤ capacity

theorem StreamUnit.fits_iff {u : StreamUnit} : u.Fits ↔ ∀ id st, u.get id = some st → st.level ≤ st.capacity := by
  constructor
  · intro h id st hst
    exact h.bound id st.level st.capacity (by rw [StreamUnit.fill, hst, Option.map_some])
  · refine fun h => ⟨fun id level capacity fill => ?_⟩
    obtain ⟨st, hst, rfl, rfl⟩ : ∃ st, u.get id = some st ∧ st.level = level ∧ st.capacity = capacity := by
      simpa [StreamUnit.fill] using fill
    exact h id st hst

theorem buffersFit_iff {s : State} : BuffersFit s ↔ s.streams.Fits := by
  rw [StreamUnit.fits_iff]
  exact ⟨fun h id st hst => h id (State.stream_mem hst) st hst, fun h id _ st hst => h id st hst⟩

theorem StreamUnit.Fits.of_fill {u v : StreamUnit} (h : u.Fits) (fill : v.fill = u.fill) : v.Fits :=
  ⟨fill ▸ h.bound⟩

/-- Each record of v fits by itself, or is one of u. -/
theorem StreamUnit.Fits.of_records {u v : StreamUnit} (h : u.Fits)
    (records : ∀ id st, v.get id = some st → st.level ≤ st.capacity ∨ u.get id = some st) : v.Fits :=
  StreamUnit.fits_iff.mpr fun id st hst => (records id st hst).elim (fun own => own) (StreamUnit.fits_iff.mp h id st)

theorem StreamUnit.Fits.set {u : StreamUnit} (h : u.Fits) (id : Nat) {st : Stream} (fits : st.level ≤ st.capacity) :
    (u.set id (some st)).Fits := by
  refine h.of_records fun i st' hst' => ?_
  rw [StreamUnit.get_set] at hst'
  split at hst'
  · exact .inl (Option.some.inj hst' ▸ fits)
  · exact .inr hst'

/-- The words that fit in the free space leave the level within the capacity (R51). -/
theorem Stream.append_fits {st : Stream} (words : List Sample) (fits : st.level ≤ st.capacity) :
    (st.buffer ++ words.take st.space).length ≤ st.capacity := by
  rw [List.length_append, List.length_take]
  simp only [Stream.space, Stream.level] at *
  omega

section
variable {s : State} {id : Nat} {st : Stream} (fits : s.streams.Fits) (h : s.stream id = some st)
include fits h

theorem StreamUnit.Fits.stream : st.level ≤ st.capacity := StreamUnit.fits_iff.mp fits id st h

theorem supplyDown_fits (slot : Nat) : (supplyDown id slot st s).streams.Fits := by
  have own : st.level ≤ st.capacity := fits.stream h
  unfold supplyDown
  split
  · next w rest full =>
    refine fits.set id (Nat.le_trans ?_ own)
    simp [Stream.level, full]
  · split <;> exact fits.set id own

/-- A sample is appended where there is free space, else it is dropped (R56, R57). -/
theorem takeSample_fits (slot : Nat) (w : Sample) : (takeSample id slot w st s).streams.Fits := by
  have own : st.level ≤ st.capacity := fits.stream h
  simp only [takeSample]
  split
  · next room =>
    have grown : (st.buffer ++ [w]).length ≤ st.capacity := by
      rw [List.length_append, List.length_singleton]
      simp only [Stream.space, Stream.level] at room own
      omega
    split <;> exact fits.set id grown
  · repeat' split
    all_goals exact fits.set id own

theorem takeGap_fits (slot : Nat) : (takeGap id slot st s).streams.Fits := by
  unfold takeGap
  split <;> exact fits.set id (fits.stream h :)

theorem streamAnswer_fits (slot : Nat) (c : UpClass) : (streamAnswer id slot st c s).streams.Fits := by
  unfold streamAnswer
  split
  · exact takeSample_fits fits h ..
  · exact takeGap_fits fits h ..
  · rw [(State.reportFault_frame ..).2.2.1]
    exact takeGap_fits fits h ..
  · rw [(State.reportFault_frame ..).2.2.1]
    exact takeGap_fits fits h ..
  all_goals exact fits

theorem streamDown_fits (slot : Nat) (line : Option Word) : (streamDown id slot st line s).streams.Fits := by
  unfold streamDown
  split
  · simpa using supplyDown_fits fits h slot
  · simpa using fits

end

section
variable {s : State} (fits : s.streams.Fits)
include fits

theorem serveSlot_fits (r : Role) (slot : Nat) (line : Option Word) : (serveSlot r slot line s).streams.Fits := by
  unfold serveSlot
  split
  case h_7 =>
    split
    · simpa using fits
    · next st h =>
      split
      · exact streamDown_fits fits h ..
      · split
        · exact streamAnswer_fits fits h ..
        · simpa using fits
  all_goals
    refine fits.of_fill ?_
    repeat' split
    all_goals simp

theorem slotEvent_fits (slot : Nat) (line : Option Word) : (slotEvent slot line s).streams.Fits :=
  serveSlot_fits (s := beginSlot slot s) fits ..

omit fits in
theorem passFrom_fits (n : Nat) : ∀ (slot : Nat) (s : State), s.streams.Fits → (passFrom slot n s).streams.Fits := by
  induction n with
  | zero => exact fun _ _ fits => fits
  | succ n ih => exact fun slot s fits => ih _ _ (slotEvent_fits fits slot none)

theorem passSlots_fits (slot : Nat) : (passSlots slot s).streams.Fits := by
  unfold passSlots
  split
  · exact fits
  · exact passFrom_fits _ _ s fits

/-! ### Frame ends and frame starts (R4) -/

theorem frameEnd_fits : (frameEnd s).streams.Fits := by
  have passed : (closeFrame s).streams = (passSlots Config.slots s).streams := by
    simp only [closeFrame]
    exact foldl_same (p := State.streams) (fun t a => by simp) addresses _
  refine StreamUnit.Fits.of_fill (u := (closeFrame s).streams) ?_ (settleTrunk_fill _)
  rw [passed]
  exact passSlots_fits fits _

omit fits in
theorem Stream.entered_fill (active : Bool) (st : Stream) :
    (st.entered active).level = st.level ∧ (st.entered active).capacity = st.capacity := by
  unfold Stream.entered
  repeat' split
  all_goals exact ⟨rfl, rfl⟩

/-- The swap removes streams and brings others to LIVE or HELD (R33, R46). -/
theorem swapPlans_fits (c : PendingCommit) : (swapPlans c s).streams.Fits := by
  refine fits.of_records fun id st' hst' => ?_
  have record := swapPlans_stream c s id
  rw [State.stream, hst'] at record
  split at record
  · obtain ⟨st, hst, rfl⟩ := Option.map_eq_some_iff.mp record.symm
    obtain ⟨level, capacity⟩ := Stream.entered_fill ((s.stations.get st.station).state == .active) st
    exact .inl (by rw [StationManager.enter, level, capacity]; exact fits.stream hst)
  · split at record
    · simp at record
    · exact .inr record.symm

theorem planSwap_fits : (planSwap s).streams.Fits := by
  unfold planSwap
  repeat' split
  · exact swapPlans_fits fits _
  all_goals exact fits

theorem frameStart_fits : (frameStart s).streams.Fits := by
  have swapped : (planSwap (assignFrame s)).streams.Fits := planSwap_fits (s := assignFrame s) fits
  refine swapped.of_fill ?_
  rw [frameStart_eq]
  split <;> simp [State.beforeGrants]

/-! ### The requests that write streams (chapters 2 and 3) -/

theorem serveTrunkStop_fits (f : ReqFrame) : (serveTrunkStop f s).streams.Fits := by
  unfold serveTrunkStop
  repeat' split
  · exact frameStart_fits fits
  all_goals exact fits

omit fits in
/-- A new stream's buffer is empty (R43). -/
theorem newStream_fits (a : Nat) (d : Direction) (l : List Nat) (cap wm : Nat) :
    (newStream a d l cap wm).level ≤ (newStream a d l cap wm).capacity := Nat.zero_le _

theorem placeStream_fits (id : Nat) {st : Stream} (own : st.level ≤ st.capacity) :
    (placeStream id st s).streams.Fits :=
  (fits.set id own).of_fill rfl

theorem serveOpenStream_fits (f : ReqFrame) : (serveOpenStream f s).streams.Fits := by
  simp only [serveOpenStream]
  repeat' split
  iterate 5 exact fits
  all_goals exact placeStream_fits fits _ (newStream_fits ..)

/-- A stream that is removed leaves the others as they are (R44). -/
theorem deleteStream_fits (id : Nat) (st : Stream) : (deleteStream id st s).streams.Fits := by
  refine fits.of_records fun i st' hst' => .inr ?_
  have record : (s.streams.set id none).get i = some st' := hst'
  rw [StreamUnit.get_set] at record
  split at record
  · simp at record
  · exact record

theorem serveCloseStream_fits (f : ReqFrame) : (serveCloseStream f s).streams.Fits := by
  simp only [serveCloseStream]
  split
  · exact fits
  · split
    · exact fits
    · next st h =>
      repeat' split
      · exact fits
      · exact deleteStream_fits (s := unstage (f.param 0) st s) fits ..
      · rw [State.accept_streams, markClosing_streams]
        exact fits.set _ (fits.stream h :)

theorem serveDiscard_fits (f : ReqFrame) : (serveDiscard f s).streams.Fits := by
  simp only [serveDiscard]
  split
  · exact fits
  · have records := discardStreams_stream s
    rw [State.accept_streams]
    generalize streamIds.foldl discardStream s = u at records
    refine fits.of_records fun id st' hst' => .inl ?_
    have record : (s.stream id).bind Stream.discarded = some st' := (records id).symm.trans hst'
    obtain ⟨st, hst, kept⟩ := Option.bind_eq_some_iff.mp record
    unfold Stream.discarded at kept
    split at kept
    · simp at kept
    · exact Option.some.inj kept ▸ (fits.stream hst :)

theorem serveWrite_fits (f : ReqFrame) : (serveWrite f s).streams.Fits := by
  simp only [serveWrite]
  split
  · exact fits
  · next st h =>
    split
    · exact fits
    · exact fits.set _ (Stream.append_fits _ (fits.stream h))

theorem serveStreamInfo_fits (f : ReqFrame) : (serveStreamInfo f s).streams.Fits := by
  simp only [serveStreamInfo]
  split
  · exact fits
  · next st h =>
    split
    · exact fits
    · exact fits.set _ (fits.stream h :)

/-- A DATA marker only takes words (R60). -/
theorem takeData_fits (id : Nat) : (takeData id s).streams.Fits := by
  unfold takeData
  split
  · exact fits
  · next st h =>
    have left : (st.buffer.drop Config.transferWords).length ≤ st.capacity :=
      (List.length_drop ▸ Nat.sub_le _ _).trans (fits.stream h)
    simp only
    split <;> exact fits.set id left

theorem startNotice_fits (n : Notice) (rest : List Notice) : (startNotice n rest s).streams.Fits := by
  unfold startNotice
  split
  · exact takeData_fits (by exact fits) _
  all_goals exact fits

end

theorem StreamUnit.reset_fits : StreamUnit.reset.Fits :=
  StreamUnit.fits_iff.mpr fun id st h => by simp [StreamUnit.reset_get] at h

end Sys2Proof.Machine
end

section

namespace Sys2Proof.Machine

/-! ## Every command keeps the pool whole and the buffers within their capacity (R40, R42) -/

/-- From s to t both invariants of the Stream Unit are kept. -/
structure StockKept (s t : State) : Prop where
  whole : PoolWhole s → PoolWhole t
  fits : s.streams.Fits → t.streams.Fits

namespace StockKept

variable {s t : State}

theorem of_total (total : t.streams.total = s.streams.total) (fits : s.streams.Fits → t.streams.Fits) :
    StockKept s t :=
  ⟨total.trans, fits⟩

theorem of_streams (h : t.streams = s.streams) : StockKept s t :=
  .of_total (by rw [h]) fun fits => by rwa [h]

theorem refl (s : State) : StockKept s s := .of_streams rfl

theorem trans {u : State} (h : StockKept s t) (k : StockKept t u) : StockKept s u :=
  ⟨k.whole ∘ h.whole, k.fits ∘ h.fits⟩

/-- Operations that write no word. -/
theorem of_edits (h : Edits s t) (fill : t.streams.fill = s.streams.fill) : StockKept s t :=
  .of_total h.total fun fits => fits.of_fill fill

/-- A part without streams and with all blocks free (R41). -/
theorem of_reset (h : t.streams = StreamUnit.reset) : StockKept s t where
  whole := fun _ => by rw [PoolWhole, h, StreamUnit.reset_total]
  fits := fun _ => by rw [h]; exact StreamUnit.reset_fits

/-! ### The shells -/

theorem of_released {f : State → State} (hf : StockKept s (f s)) (h : whileReleased s f = .next t) :
    StockKept s t := by
  obtain rfl | ⟨-, rfl⟩ := whileReleased_cases h
  · exact .refl _
  · exact hf

theorem of_guarded {p : State → Prop} {_ : DecidablePred p} {f : State → State} (hf : StockKept s (f s))
    (h : whileReleased s (fun s => if p s then f s else s) = .next t) : StockKept s t := by
  obtain rfl | ⟨-, rfl⟩ := guarded_cases h
  · exact .refl _
  · exact hf

/-- A request that is taken: the port's own tests leave the streams alone (R151). -/
theorem of_take {k : ReqKind} {serve : ReqFrame → State → State} (hs : ∀ f s, StockKept s (serve f s))
    (h : takeRequest k serve s = .next t) : StockKept s t := by
  obtain rfl | ⟨f, -, ⟨st, rfl⟩ | rfl⟩ := takeRequest_cases h
  · exact .refl _
  · exact .of_streams rfl
  · exact .trans (t := s.popIntake) (.of_streams rfl) (hs f s.popIntake)

theorem of_slotRow {slot : Nat} {isRow : State → Bool} {line : Option Word}
    (h : slotRow slot isRow line s = .next t) : StockKept s t := by
  refine .of_released ?_ h
  split
  · exact .refl s
  · split
    · exact .of_total ((passSlots_edits s slot).trans (slotEvent_edits ..)).total
        fun fits => slotEvent_fits (passSlots_fits fits slot) ..
    · exact .refl s

end StockKept

section
variable (f : ReqFrame) (s : State)

/-! ### The requests that write streams -/

theorem serveOpenStream_stock : StockKept s (serveOpenStream f s) := by
  refine .of_total ?_ fun fits => serveOpenStream_fits fits f
  simp only [serveOpenStream]
  split
  · rfl
  · split
    · rfl
    · split
      · rfl
      · next id found =>
        have mem : id ∈ streamIds := List.mem_of_find?_eq_some found
        have fresh : s.stream id = none := by simpa using List.find?_some found
        split
        · rfl
        · split
          · rfl
          · next room => exact placeStream_total mem fresh (Nat.not_lt.mp room)

theorem serveCloseStream_stock : StockKept s (serveCloseStream f s) := by
  refine .of_total ?_ fun fits => serveCloseStream_fits fits f
  simp only [serveCloseStream]
  split
  · rfl
  · split
    · rfl
    · next st h =>
      repeat' split
      · rfl
      · exact deleteStream_total (s := unstage (f.param 0) st s) h
      · exact markClosing_total h

theorem serveDiscard_stock : StockKept s (serveDiscard f s) := by
  refine .of_total ?_ fun fits => serveDiscard_fits fits f
  simp only [serveDiscard]
  split
  · rfl
  · have folded := foldl_same (p := fun t : State => t.streams.total) discardStream_total streamIds s
    rw [State.accept_streams]
    generalize streamIds.foldl discardStream s = u at folded ⊢
    exact folded

theorem serveTrunkStop_stock : StockKept s (serveTrunkStop f s) := by
  refine .of_total ?_ fun fits => serveTrunkStop_fits fits f
  unfold serveTrunkStop
  repeat' split
  · exact frameStart_total s
  all_goals rfl

/-! ### Frames and notices -/

theorem frameStart_stock : StockKept s (frameStart s) :=
  .of_total (frameStart_total s) frameStart_fits

theorem frameEnd_stock : StockKept s (frameEnd s) :=
  .of_total (frameEnd_edits s).total frameEnd_fits

theorem takeData_edits (id : Nat) : Edits s (takeData id s) := by
  unfold takeData
  split
  · exact .refl s
  · next st h => exact (Edits.worked h).trans (.data_if (State.setStream_present h _) _)

theorem startNotice_stock (n : Notice) (rest : List Notice) : StockKept s (startNotice n rest s) := by
  refine .of_total ?_ fun fits => startNotice_fits fits n rest
  unfold startNotice
  split
  · exact (takeData_edits ..).total
  all_goals rfl

end

theorem StockKept.of_noticeStart {s t : State} (h : execNoticeStart s = .next t) : StockKept s t := by
  refine .of_released ?_ h
  repeat' split
  · exact startNotice_stock ..
  all_goals exact .refl s

theorem exec_stock {c : Instr} {s t : State} (h : exec c s = .next t) : StockKept s t := by
  have port : ∀ g : State → HostPort, whileReleased s (fun s => { s with port := g s }) = .next t → StockKept s t :=
    fun g => .of_released (f := fun s => { s with port := g s }) (.of_streams rfl)
  have quiet : ∀ {k serve}, (∀ f s, (serve f s : State).streams = s.streams) → takeRequest k serve s = .next t →
      StockKept s t := fun hs => .of_take fun f s => .of_streams (hs f s)
  have edits : ∀ {k serve}, (∀ f s, Edits s (serve f s)) → (∀ f s, (serve f s).streams.fill = s.streams.fill) →
      takeRequest k serve s = .next t → StockKept s t := fun hs fill => .of_take fun f s => .of_edits (hs f s) (fill f s)
  cases c with
  | powerOn bds1 bds0 =>
    obtain rfl := Host.Outcome.next.inj h
    exact .of_reset rfl
  | rstnLow =>
    obtain rfl := Host.Outcome.next.inj h
    exact .of_streams rfl
  | resetPoint => exact .of_guarded (.of_reset rfl) (show execResetPoint s = _ from h)
  | receiveFrame bytes => exact port (·.port.receive false bytes) h
  | gapLimitExpiry => exact port (·.port.gapLimit) h
  | syncByteReceived => exact port (·.port.receive false [Config.syncByte]) h
  | badLengthByte b => exact port (·.port.receive false [b]) h
  | framingErrorByte b => exact port (·.port.receive true [b]) h
  | badKindFrame =>
    refine .of_released ?_ (show execBadKindFrame s = _ from h)
    repeat' split
    all_goals exact .of_streams rfl
  | replyStart =>
    refine .of_released ?_ (show execReplyStart s = _ from h)
    split
    all_goals exact .of_streams rfl
  | noticeStart => exact .of_noticeStart h
  | messageEnd =>
    refine .of_released ?_ (show execMessageEnd s = _ from h)
    split
    all_goals exact .of_streams rfl
  | hello => exact quiet (serve := serveHello) (fun _ _ => rfl) h
  | status => exact quiet (serve := serveStatus) (fun _ _ => rfl) h
  | grant => exact quiet serveGrant_streams h
  | cancel => exact edits serveCancel_edits serveCancel_fill h
  | restart => exact quiet serveRestart_streams h
  | trunkSetup => exact quiet serveTrunkSetup_streams h
  | trunkStart => exact quiet serveTrunkStart_streams h
  | trunkStop => exact .of_take serveTrunkStop_stock h
  | enroll => exact edits serveEnroll_edits serveEnroll_fill h
  | drop => exact edits serveDrop_edits serveDrop_fill h
  | drowse => exact quiet serveDrowse_streams h
  | wake => exact edits serveWake_edits serveWake_fill h
  | trim => exact quiet serveTrim_streams h
  | policy => exact quiet servePolicy_streams h
  | call => exact quiet serveCall_streams h
  | clearFault => exact quiet serveClearFault_streams h
  | stationInfo => exact quiet serveStationInfo_streams h
  | openStream => exact .of_take serveOpenStream_stock h
  | closeStream => exact .of_take serveCloseStream_stock h
  | commit => exact quiet serveCommit_streams h
  | discard => exact .of_take serveDiscard_stock h
  | planInfo => exact quiet (serve := servePlanInfo) (fun _ _ => rfl) h
  | write => exact .of_take (fun f s => .of_total (serveWrite_edits f s).total fun fits => serveWrite_fits fits f) h
  | streamInfo =>
    exact .of_take (fun f s => .of_total (serveStreamInfo_edits f s).total fun fits => serveStreamInfo_fits fits f) h
  | frameStart => exact .of_guarded (frameStart_stock s) (show execFrameStart s = _ from h)
  | planSwap => exact .of_guarded (frameStart_stock s) (show execPlanSwap s = _ from h)
  | trimDue a => exact .of_guarded (frameStart_stock s) (forStation_next h)
  | quietSpanEnd a => exact .of_guarded (frameStart_stock s) (forStation_next h)
  | frameEnd => exact .of_guarded (frameEnd_stock s) (show execFrameEnd s = _ from h)
  | startingEnd => exact .of_guarded (frameEnd_stock s) (show execStartingEnd s = _ from h)
  | trunkStopComplete => exact .of_guarded (frameEnd_stock s) (show execTrunkStopComplete s = _ from h)
  | frameNumberExhausted => exact .of_guarded (frameEnd_stock s) (show execFrameNumberExhausted s = _ from h)
  | wakeLatencyEnd a => exact .of_guarded (frameEnd_stock s) (forStation_next h)
  | beaconSlot line => exact .of_slotRow (show execBeaconSlot line s = _ from h)
  | serviceDownSlot k line => exact .of_slotRow (forPair_next h).2
  | serviceUpSlot k line => exact .of_slotRow (forPair_next h).2
  | commandDownSlot j line => exact .of_slotRow (forPair_next h).2
  | commandUpSlot j line => exact .of_slotRow (forPair_next h).2
  | responseWindowExpiry j => exact .of_slotRow (forPair_next h).2
  | streamDownSlot k line => exact .of_slotRow (forSlot_next h).2
  | streamUpSlot k line => exact .of_slotRow (forSlot_next h).2
  | unexpectedWordSlot k w => exact .of_slotRow (forSlot_next h).2

theorem step_stock {s t : State} (h : step s = .next t) : StockKept s t := by
  cases hp : s.pending with
  | nil =>
    rw [step_nil hp] at h
    exact Host.Outcome.next.inj h ▸ .refl s
  | cons c rest =>
    rw [step_cons hp] at h
    exact .trans (t := { s with pending := rest }) (.of_streams rfl) (exec_stock h)

/-- Settles O51: blocks leave the pool with a new stream and come back with a removed one, and no edit changes a
stream's block count. -/
theorem poolStaysWhole : Obligations.PoolStaysWhole := fun _ _ whole h => (step_stock h).whole whole

/-- Settles O52: the two paths that add words, WRITE and a sample, test the free space first. -/
theorem buffersNeverOverflow : Obligations.BuffersNeverOverflow := fun _ _ fit h =>
  buffersFit_iff.mpr ((step_stock h).fits (buffersFit_iff.mp fit))

end Sys2Proof.Machine
end

section

namespace Sys2Proof.Machine

/-! ## STREAM INFO and WRITE (R50, R51, R62, R63) -/

/-- A request that writes one stream's record and is answered OK: in the words of the statements, the streams are all
that changes beside the reply. -/
theorem written_accepted {s t : State} {k : ReqKind} {f : ReqFrame} {body : ReplyBody} {id : Nat} {st st' : Stream}
    (h : s.stream id = some st) (ht : t = (s.popIntake.setStream id (some st')).accept k f body) :
    t = { s.repliedOk k f body with streams := t.streams } ∧ t.stream id = some st' ∧
      t.streams.freeBlocks = s.streams.freeBlocks ∧ ∀ i, i ≠ id → t.stream i = s.stream i := by
  subst ht
  have mem := mem_streamIds.mp (State.stream_mem h)
  refine ⟨rfl, by simp [mem], by simp, fun i other => ?_⟩
  simp [Ne.symm other]

/-- Settles O26: the reply is made of the record as it stood, and the clear flag decides what is written. -/
theorem streamInfoReportsAndClears : Obligations.StreamInfoReportsAndClears := by
  rintro f s id taken rfl
  have run : exec .streamInfo s = .next (serveStreamInfo f s.popIntake) := takesRequest_served serveStreamInfo taken
  refine ⟨fun none => ?_, fun st hst => ?_⟩
  · simp [run, serveStreamInfo, none, State.popIntake_refuse]
  · by_cases kept : f.param 1 = 0
    · have report : serveStreamInfo f s.popIntake = s.popIntake.accept .streamInfo f (.streamInfo (f.param 0) st) := by
        simp [serveStreamInfo, hst, kept]
      rw [run, report, if_pos kept]
      exact ⟨_, rfl, rfl, hst, rfl, fun _ _ => rfl⟩
    · have cleared : serveStreamInfo f s.popIntake =
          (s.popIntake.setStream (f.param 0) (some { st with underruns := 0, overruns := 0, gaps := 0 })).accept
            .streamInfo f (.streamInfo (f.param 0) st) := by
        simp [serveStreamInfo, hst, kept]
      rw [run, cleared, if_neg kept]
      exact ⟨_, rfl, written_accepted hst rfl⟩

/-- A WRITE carries an id and 1 to 64 whole words (R50). -/
theorem write_allowsLength {n : Nat} :
    ReqKind.write.allowsLength n = true ↔ ∃ k, 1 ≤ k ∧ k ≤ 64 ∧ n = 3 * k + 1 := by
  simp only [ReqKind.allowsLength, Bool.and_eq_true, decide_eq_true_eq, beq_iff_eq]
  exact ⟨fun h => ⟨n / 3, by omega, by omega, by omega⟩, fun ⟨k, h⟩ => by omega⟩

/-- Three bytes are a sample (10.4). -/
theorem samplesOf_length : ∀ bytes : List Byte, (samplesOf bytes).length = bytes.length / 3
  | [] | [_] | [_, _] => by simp [samplesOf]
  | _ :: _ :: _ :: rest => by
    rw [samplesOf, List.length_cons, samplesOf_length rest]
    simp only [List.length_cons]
    omega

/-- Settles O25: the port's length test, the tests of R50, then the record that R51 writes. -/
theorem writeAppendsWhatFits : Obligations.WriteAppendsWhatFits := by
  constructor
  · rintro f s ⟨low, open_, room, head⟩ kind bad
    have short : ReqKind.write.allowsLength f.payload.length = false := by
      rw [← Bool.not_eq_true, write_allowsLength]
      exact fun ⟨n, h1, h64, length⟩ => bad n h1 h64 length
    exact takeRequest_refused serveWrite low head (by simp [HostPort.takes, open_, room]) kind
      (by simp [portRefusal, short])
  · rintro f s id taken rfl
    have run : exec .write s = .next (serveWrite f s.popIntake) := takesRequest_served serveWrite taken
    refine ⟨fun none => ?_, fun st hst => ⟨fun refuses => ?_, fun down opened => ?_⟩⟩
    · simp [run, serveWrite, none, State.popIntake_refuse]
    · simp [run, serveWrite, hst, refuses, State.popIntake_refuse]
    · obtain ⟨-, -, allowed, -⟩ := taken
      obtain ⟨n, -, -, length⟩ := write_allowsLength.mp allowed
      have whole : 3 * (samplesOf f.payload.tail).length + 1 = f.payload.length := by
        rw [samplesOf_length, List.length_tail]
        omega
      obtain ⟨words, fitting⟩ : ∃ words, words = (samplesOf f.payload.tail).take (st.capacity - st.buffer.length) :=
        ⟨_, rfl⟩
      have appended : serveWrite f s.popIntake =
          (s.popIntake.setStream (f.param 0) (some { st with buffer := st.buffer ++ words })).accept .write f
            (.write (f.param 0) words.length (st.capacity - (st.buffer.length + words.length))) := by
        simp [serveWrite, hst, down, opened, Stream.space, Stream.level, fitting]
      rw [run, appended]
      exact ⟨_, words, rfl, fitting, whole, written_accepted hst rfl⟩

end Sys2Proof.Machine
end

section

namespace Sys2Proof.Machine

/-! ## The slots of a stream (R17, R52 to R58)

In each the Stream Unit writes the one stream's record, and an underrun, an overrun or a gap that is the first of its run
offers a notice. -/

/-- A stream's record is written, and a notice is offered unless the run it tells of goes on (R53, R57, R58). -/
def State.writeTold (id : Nat) (st' : Stream) (goesOn : Bool) (n : Notice) (s : State) : State :=
  if goesOn then s.setStream id (some st') else (s.setStream id (some st')).offer n

section
variable {s t : State} {slot id : Nat} {st st' : Stream}

@[simp] theorem State.writeTold_streams (goesOn : Bool) (n : Notice) :
    (s.writeTold id st' goesOn n).streams = s.streams.set id (some st') := by
  unfold State.writeTold
  split <;> rfl

theorem State.writeTold_notices (goesOn : Bool) (n : Notice) : (s.writeTold id st' goesOn n).notices =
    if goesOn = true then s.notices else s.notices.offer n := by
  unfold State.writeTold
  split <;> rfl

/-- What a write to one stream leaves alone (R40, R42). -/
theorem State.others_of_set {o : Option Stream} (h : t.streams = s.streams.set id o) :
    (∀ i, i ≠ id → t.stream i = s.stream i) ∧ t.streams.freeBlocks = s.streams.freeBlocks := by
  refine ⟨fun i other => ?_, by rw [h, StreamUnit.set_freeBlocks]⟩
  rw [State.stream, h, StreamUnit.get_set, if_neg fun here => other here.1.symm, State.stream]

theorem State.stream_of_set (hst : s.stream id = some st) (h : t.streams = s.streams.set id (some st')) :
    t.stream id = some st' := by
  rw [State.stream, h, StreamUnit.get_set, if_pos ⟨rfl, mem_streamIds.mp (State.stream_mem hst)⟩]

theorem State.isStreamSlot_of {d : Direction} (hst : s.stream id = some st) (direction : st.direction = d) :
    s.isStreamSlot d (.stream id) = true := by
  simp [State.isStreamSlot, hst, direction]

/-! ### The word of a DOWN slot (R14, R52 to R54) -/

theorem slotEvent_streamDown (line : Option Word) (role : s.roleNow slot = .stream id) (hst : s.stream id = some st)
    (down : st.direction = .down) : slotEvent slot line s = streamDown id slot st line (beginSlot slot s) := by
  have present : (beginSlot slot s).stream id = some st := hst
  simp only [slotEvent, role, serveSlot, present, down]

theorem Stream.downWord_word {w : Sample} {rest : List Sample} (live : st.state = .live)
    (full : st.buffer = w :: rest) : st.downWord = dataWord st.station w := by
  simp only [Stream.downWord, live, full]

theorem Stream.downWord_empty (empty : st.buffer = []) : st.downWord = fillWord st.station := by
  cases state : st.state <;> simp only [Stream.downWord, state, empty]

theorem Stream.downWord_idle (idle : st.state ≠ .live) : st.downWord = fillWord st.station := by
  cases state : st.state with
  | staged | held => simp only [Stream.downWord, state]
  | live => exact absurd state idle

/-- The oldest word leaves the buffer and the underrun run ends (R52). -/
theorem supplyDown_word {w : Sample} {rest : List Sample} (full : st.buffer = w :: rest) :
    supplyDown id slot st s = s.setStream id (some { st with buffer := rest, underrunRun := false }) := by
  simp only [supplyDown, full]

/-- An underrun is counted, the first of a run told (R53). -/
theorem supplyDown_empty (empty : st.buffer = []) : supplyDown id slot st s = s.writeTold id
    { st with underruns := satSucc 65535 st.underruns, underrunRun := true } st.underrunRun
    (.streamFault id .underrun s.engine.frameNumber slot (satSucc 65535 st.underruns)) := by
  simp only [supplyDown, empty]
  rfl

/-- Whichever it is, the stream's record is all that is written (R52, R53). -/
theorem supplyDown_streams (id slot : Nat) (st : Stream) (s : State) :
    ∃ st', (supplyDown id slot st s).streams = s.streams.set id (some st') := by
  cases buffer : st.buffer with
  | nil => exact ⟨_, by rw [supplyDown_empty buffer, State.writeTold_streams]⟩
  | cons w rest => exact ⟨_, by rw [supplyDown_word buffer, State.setStream_streams]⟩

/-! ### The DOWN slot as a whole (R14, R55) -/

theorem streamDown_live (live : st.state = .live) (line : Option Word) : streamDown id slot st line s =
    spaceTest id (drive slot st.downWord line (supplyDown id slot st s)) := by
  rw [streamDown, if_pos live]

theorem streamDown_idle (idle : st.state ≠ .live) (line : Option Word) :
    streamDown id slot st line s = drive slot st.downWord line s := by
  rw [streamDown, if_neg idle]

theorem streamDown_live_streams (live : st.state = .live) (line : Option Word) :
    (streamDown id slot st line s).streams = (supplyDown id slot st s).streams := by
  simp [streamDown_live live]

theorem streamDown_idle_streams (idle : st.state ≠ .live) (line : Option Word) :
    (streamDown id slot st line s).streams = s.streams := by
  simp [streamDown_idle idle]

theorem streamDown_engine (id slot : Nat) (st : Stream) (line : Option Word) (s : State) :
    (streamDown id slot st line s).engine = { s.engine with line := some st.downWord } := by
  unfold streamDown
  split <;> simp

/-- The word is driven in a state with the fault records and the frame number of the slot's begin (R14). -/
theorem streamDown_faults (id slot : Nat) (st : Stream) (line : Option Word) (s : State) :
    ∃ v, v.faults = s.faults ∧ v.engine = s.engine ∧
      (streamDown id slot st line s).faults = (drive slot st.downWord line v).faults := by
  by_cases live : st.state = .live
  · exact ⟨supplyDown id slot st s, by simp, by simp, by simp [streamDown_live live]⟩
  · exact ⟨s, rfl, rfl, by rw [streamDown_idle live]⟩

theorem spaceTest_notices (h : s.stream id = some st) : (spaceTest id s).notices =
    if st.watermark ≤ st.space then s.notices.offerMarker id (.space id) else s.notices := by
  simp only [spaceTest, h, Stream.spaceDue, decide_eq_true_eq]
  split <;> rfl

/-- An undisturbed slot of a LIVE stream: what the supply offered, then the SPACE test of the record it wrote (R55). -/
theorem streamDown_live_notices (live : st.state = .live) (hst : s.stream id = some st)
    (written : (supplyDown id slot st s).streams = s.streams.set id (some st')) :
    (streamDown id slot st none s).notices = if st'.watermark ≤ st'.space
      then (supplyDown id slot st s).notices.offerMarker id (.space id) else (supplyDown id slot st s).notices := by
  have record : (drive slot st.downWord none (supplyDown id slot st s)).stream id = some st' :=
    State.stream_of_set hst written
  rw [streamDown_live live, spaceTest_notices record]
  rfl

theorem streamDown_others (id slot : Nat) (st : Stream) (line : Option Word) (s : State) :
    (∀ i, i ≠ id → (streamDown id slot st line s).stream i = s.stream i) ∧
    (streamDown id slot st line s).streams.freeBlocks = s.streams.freeBlocks := by
  by_cases live : st.state = .live
  · obtain ⟨st', written⟩ := supplyDown_streams id slot st s
    exact State.others_of_set ((streamDown_live_streams live line).trans written)
  · have same := streamDown_idle_streams (s := s) (id := id) (slot := slot) live line
    exact ⟨fun i _ => by rw [State.stream, same, State.stream], by rw [same]⟩

end

/-- Settles O47: the supply of the word, the drive and the SPACE test, each by its own lemmas. -/
theorem streamDownSlotSendsWord : Obligations.StreamDownSlotSendsWord := by
  rintro s u slot id st line h1 h31 reach rfl role hst down
  have run : exec (.streamDownSlot slot line) s =
      .next (streamDown id slot st line (beginSlot slot (passSlots slot s))) := by
    have row := slotRow_comes (isRow := fun t => t.isStreamSlot .down (t.roleNow slot)) line reach
      (by rw [role]; exact State.isStreamSlot_of hst down)
    rw [slotEvent_streamDown line role hst down] at row
    exact (forSlot_of h1 h31 _).trans row
  generalize passSlots slot s = u at *
  have present : (beginSlot slot u).stream id = some st := hst
  obtain ⟨others, blocks⟩ := streamDown_others id slot st line (beginSlot slot u)
  obtain ⟨plans, stations, trims, calls, port, -⟩ := streamDown_frame (beginSlot slot u) id slot st line
  have engine : (streamDown id slot st line (beginSlot slot u)).engine.line = some st.downWord := by
    rw [streamDown_engine]
  obtain ⟨v, faults, number, driven⟩ := streamDown_faults id slot st line (beginSlot slot u)
  refine ⟨_, run, others, blocks, plans, stations, trims, calls, port, fun quiet => ?_, fun w r sent back => ?_,
    fun idle => ?_, fun w rest live full => ?_, fun live empty => ?_⟩
  · rw [driven, (drive_undisturbed slot v (.inl quiet)).1, faults]
    rfl
  · obtain rfl : w = st.downWord := Option.some.inj (sent.symm.trans engine)
    refine ⟨fun same => ?_, fun differs => ?_⟩
    · rw [driven, (drive_undisturbed slot v (.inr (back.trans (congrArg some same)))).1, faults]
      rfl
    · exact ((drive_disturbed slot v back differs).congr (s' := u) faults.symm (by rw [number]; rfl)).after driven
  · refine ⟨?_, by rw [engine, Stream.downWord_idle idle], fun quiet => ?_⟩
    · rw [State.stream, streamDown_idle_streams idle]
      exact hst
    · rw [streamDown_idle idle, (drive_undisturbed slot _ (.inl quiet)).2]
      rfl
  · have written : (supplyDown id slot st (beginSlot slot u)).streams =
        (beginSlot slot u).streams.set id (some { st with buffer := rest, underrunRun := false }) := by
      rw [supplyDown_word full, State.setStream_streams]
    refine ⟨State.stream_of_set present ((streamDown_live_streams live line).trans written),
      by rw [engine, Stream.downWord_word live full], ?_⟩
    rintro rfl
    rw [streamDown_live_notices live present written, supplyDown_word full]
    rfl
  · have written : (supplyDown id slot st (beginSlot slot u)).streams = (beginSlot slot u).streams.set id
        (some { st with underruns := satSucc 65535 st.underruns, underrunRun := true }) := by
      rw [supplyDown_empty empty, State.writeTold_streams]
    refine ⟨State.stream_of_set present ((streamDown_live_streams live line).trans written),
      by rw [engine, Stream.downWord_empty empty], ?_⟩
    rintro q rfl rfl
    rw [streamDown_live_notices live present written, supplyDown_empty empty, State.writeTold_notices]
    simp only [Stream.space, Stream.level, empty, List.length_nil, Nat.sub_zero]
    rfl

end Sys2Proof.Machine
end

section

namespace Sys2Proof.Machine

/-! ## The UP slot of a LIVE stream (R16, R17, R56 to R59) -/

/-- A word is a sample of station a: of even parity, from a, of kind DATA (R16). -/
def isSample (a : Nat) (w : Word) : Prop := oddParity w = false ∧ wordAddress w = a ∧ wordKind w = 2

theorem classify_sample {a : Nat} {w : Word} (h : isSample a w) :
    classify a .data (some w) = .valid (.sample (wordPayload w)) := by
  obtain ⟨even, address, kind⟩ := h
  simp [classify, even, address, answerOf, kind]

theorem classify_not_sample {a : Nat} {w : Word} (even : oddParity w = false) (h : ¬ isSample a w) :
    classify a .data (some w) = .foreign w := by
  by_cases address : wordAddress w = a
  · have none : answerOf .data w = none := if_neg fun kind => h ⟨even, address, kind⟩
    simp [classify, even, address, none]
  · simp [classify, even, address]

section
variable {s : State} {slot id : Nat} {st : Stream}

theorem slotEvent_streamUp (line : Option Word) (role : s.roleNow slot = .stream id) (hst : s.stream id = some st)
    (up : st.direction = .up) (live : st.state = .live) : slotEvent slot line s =
      streamAnswer id slot st (classify st.station .data line) (beginSlot slot s) := by
  have present : (beginSlot slot s).stream id = some st := hst
  simp only [slotEvent, role, serveSlot, present, up, live, if_true]

/-! ### A sample (R56, R57) -/

/-- With free space it is appended, and the DATA test is made for the new level (R56, R59). -/
theorem takeSample_room (slot : Nat) (w : Sample) (room : st.buffer.length < st.capacity) :
    (takeSample id slot w st s).streams =
      s.streams.set id (some { st with buffer := st.buffer ++ [w], overrunRun := false, gapRun := false }) ∧
    (takeSample id slot w st s).notices = if st.watermark ≤ st.buffer.length + 1
      then s.notices.offerMarker id (.data id) else s.notices := by
  have free : 1 ≤ st.space := Nat.le_sub_of_add_le' room
  simp only [takeSample, free, if_true, Stream.dataDue, Stream.level, List.length_append, List.length_singleton,
    decide_eq_true_eq]
  split <;> exact ⟨rfl, rfl⟩

/-- With a full buffer it is an overrun, the first of a run told before the DATA test (R57, R59). -/
theorem takeSample_full (slot : Nat) (w : Sample) (full : st.capacity ≤ st.buffer.length) :
    (takeSample id slot w st s).streams = s.streams.set id
      (some { st with overruns := satSucc 65535 st.overruns, overrunRun := true, gapRun := false }) ∧
    ∀ q, q = (if st.overrunRun = true then s.notices
        else s.notices.offer (.streamFault id .overrun s.engine.frameNumber slot (satSucc 65535 st.overruns))) →
      (takeSample id slot w st s).notices = if st.watermark ≤ st.buffer.length
        then q.offerMarker id (.data id) else q := by
  have none : ¬ 1 ≤ st.space := by
    simp only [Stream.space, Stream.level]
    omega
  have due : st.dataDue = true ↔ st.watermark ≤ st.buffer.length := decide_eq_true_iff
  obtain ⟨t, ht⟩ : ∃ t, t = s.writeTold id
      { st with overruns := satSucc 65535 st.overruns, overrunRun := true, gapRun := false } st.overrunRun
      (.streamFault id .overrun s.engine.frameNumber slot (satSucc 65535 st.overruns)) := ⟨_, rfl⟩
  have overrun : takeSample id slot w st s = if st.dataDue = true then t.offerData id else t := by
    rw [takeSample, if_neg none, ht]
    rfl
  simp only [overrun, due]
  refine ⟨?_, fun q hq => ?_⟩
  · split <;> exact (congrArg State.streams ht).trans (State.writeTold_streams ..)
  · have told : t.notices = q := by rw [ht, hq, State.writeTold_notices]
    split
    · exact congrArg (NoticeQueue.offerMarker id (.data id)) told
    · exact told

/-! ### A gap (R58) -/

theorem takeGap_eq (id slot : Nat) (st : Stream) (s : State) : takeGap id slot st s = s.writeTold id
    { st with gaps := satSucc 65535 st.gaps, gapRun := true } st.gapRun
    (.streamFault id .gap s.engine.frameNumber slot (satSucc 65535 st.gaps)) := rfl

/-- A word that is no sample is a gap, and then a fault of the station: CHECK or FOREIGN by its parity (R16, R133). -/
theorem streamAnswer_fault {w : Word} {kind : FaultKind} (slot : Nat) (bad : ¬ isSample st.station w)
    (hkind : kind = if oddParity w = true then .check else .foreign) :
    streamAnswer id slot st (classify st.station .data (some w)) s =
      (takeGap id slot st s).reportFault st.station kind slot (some w) := by
  subst hkind
  cases parity : oddParity w with
  | true => rw [classify_odd .data parity, streamAnswer, if_pos rfl]
  | false => rw [classify_not_sample parity bad, streamAnswer, if_neg (by decide)]

theorem streamAnswer_sample {w : Word} (slot : Nat) (h : isSample st.station w) :
    streamAnswer id slot st (classify st.station .data (some w)) s = takeSample id slot (wordPayload w) st s := by
  rw [classify_sample h, streamAnswer]

/-- Anything but a sample writes the gap's record, whatever else it reports (R58). -/
theorem streamAnswer_gap_streams (slot : Nat) {line : Option Word} (bad : ∀ w, line = some w → ¬ isSample st.station w) :
    (streamAnswer id slot st (classify st.station .data line) s).streams =
      s.streams.set id (some { st with gaps := satSucc 65535 st.gaps, gapRun := true }) := by
  cases line with
  | none => exact State.writeTold_streams ..
  | some w =>
    rw [streamAnswer_fault slot (bad w rfl) rfl, (State.reportFault_frame ..).2.2.1]
    exact State.writeTold_streams ..

/-- Whatever comes, the stream's record is all that is written of the streams. -/
theorem streamAnswer_streams (id slot : Nat) (st : Stream) (line : Option Word) (s : State) :
    ∃ st', (streamAnswer id slot st (classify st.station .data line) s).streams = s.streams.set id (some st') := by
  by_cases good : ∃ w, line = some w ∧ isSample st.station w
  · obtain ⟨w, rfl, sample⟩ := good
    rw [streamAnswer_sample slot sample]
    by_cases room : st.buffer.length < st.capacity
    · exact ⟨_, (takeSample_room slot _ room).1⟩
    · exact ⟨_, (takeSample_full slot _ (Nat.not_lt.mp room)).1⟩
  · exact ⟨_, streamAnswer_gap_streams slot fun w line sample => good ⟨w, line, sample⟩⟩

end

/-- Settles O48: a sample is appended or overruns, anything else is a gap, told before the fault of the station. -/
theorem streamUpSlotTakesSampleOrGap : Obligations.StreamUpSlotTakesSampleOrGap := by
  rintro s u slot id a st line h1 h31 reach rfl role row hst up live rfl - h15
  have run : exec (.streamUpSlot slot line) s =
      .next (streamAnswer id slot st (classify st.station .data line) (beginSlot slot (passSlots slot s))) := by
    have event := slotRow_comes (isRow := fun t => t.isStreamSlot .up (t.plans.active.role slot)) line reach
      (by rw [row]; exact State.isStreamSlot_of hst up)
    rw [slotEvent_streamUp line role hst up live] at event
    exact (forSlot_of h1 h31 _).trans event
  generalize passSlots slot s = u at *
  have present : (beginSlot slot u).stream id = some st := hst
  obtain ⟨st', written⟩ := streamAnswer_streams id slot st line (beginSlot slot u)
  obtain ⟨others, blocks⟩ := State.others_of_set written
  obtain ⟨engine, plans, stations, trims, calls, port, -⟩ :=
    streamAnswer_frame (beginSlot slot u) id slot st (classify st.station .data line)
  refine ⟨_, run, others, blocks, plans, stations, trims, calls, port, engine, ?_, fun bad => ⟨?_, ?_⟩⟩
  · rintro w rfl even address kind
    rw [streamAnswer_sample slot ⟨even, address, kind⟩]
    refine ⟨(takeSample_frame ..).2.2.2.2.2.1, fun room => ?_, fun full => ?_⟩
    · obtain ⟨record, notices⟩ := takeSample_room (s := beginSlot slot u) (id := id) slot (wordPayload w) room
      exact ⟨State.stream_of_set present record, notices⟩
    · obtain ⟨record, notices⟩ := takeSample_full (s := beginSlot slot u) (id := id) slot (wordPayload w) full
      exact ⟨State.stream_of_set present record, notices⟩
  · exact State.stream_of_set present (streamAnswer_gap_streams slot bad)
  · intro q hq
    have told : (takeGap id slot st (beginSlot slot u)).notices = q := by
      rw [hq, takeGap_eq, State.writeTold_notices]
      rfl
    obtain ⟨number, -, -, -, -, faults, -⟩ := takeGap_frame (beginSlot slot u) id slot st
    refine ⟨?_, fun w kind here hkind => ?_⟩
    · rintro rfl
      exact ⟨faults, told⟩
    · subst here
      rw [streamAnswer_fault slot (bad w rfl) hkind]
      refine ⟨(State.reportFault_reported _ h15 ..).congr (s' := u) faults.symm (by rw [number]; rfl), ?_⟩
      rw [State.reportFault_notices, State.faultCell, faults, number, told]
      rfl

end Sys2Proof.Machine
end

section

namespace Sys2Proof.Machine

/-! ## What a command can do (SPEC: the 54 rows)

Every row comes down to one of eight events; an invariant is kept by every step once each of these keeps it. -/

/-- The meaning of a request of a kind, behind the port's own tests. -/
def ReqKind.serve : ReqKind → ReqFrame → State → State
  | .hello => serveHello
  | .status => serveStatus
  | .grant => serveGrant
  | .cancel => serveCancel
  | .restart => serveRestart
  | .trunkSetup => serveTrunkSetup
  | .trunkStart => serveTrunkStart
  | .trunkStop => serveTrunkStop
  | .enroll => serveEnroll
  | .drop => serveDrop
  | .drowse => serveDrowse
  | .wake => serveWake
  | .trim => serveTrim
  | .policy => servePolicy
  | .call => serveCall
  | .clearFault => serveClearFault
  | .stationInfo => serveStationInfo
  | .openStream => serveOpenStream
  | .closeStream => serveCloseStream
  | .commit => serveCommit
  | .discard => serveDiscard
  | .planInfo => servePlanInfo
  | .write => serveWrite
  | .streamInfo => serveStreamInfo

/-- The events that a command comes down to. -/
inductive Event (s : State) : State → Prop
  /-- nothing but the host port changes: the receiver, the transmitter, a refusal, or nothing at all -/
  | port (p : HostPort) : Event s { s with port := p }
  | served (k : ReqKind) (f : ReqFrame) : Event s (k.serve f s.popIntake)
  | noticed {n : Notice} {rest : List Notice} (h : s.notices.entries = n :: rest) : Event s (startNotice n rest s)
  /-- R161, R162 -/
  | reset (reason : StartReason) (baud : BitVec 2) : Event s (State.atPowerOn reason baud s.pending)
  /-- R5, R162 -/
  | cutOff : Event s { s with port := s.port.cutOff, engine := s.engine.between }
  | slot (n : Nat) (line : Option Word) : Event s (slotEvent n line (passSlots n s))
  | frameStart (due : s.frameDue = true) : Event s (frameStart s)
  | frameEnd (frame : s.engine.frame.isSome = true) : Event s (frameEnd s)

theorem Event.none (s : State) : Event s s := .port s.port

theorem Event.of_released {s t : State} {f : State → State} (hf : Event s (f s))
    (h : whileReleased s f = .next t) : Event s t := by
  obtain rfl | ⟨-, rfl⟩ := whileReleased_cases h
  · exact .none _
  · exact hf

theorem Event.of_guarded {s t : State} {p : State → Prop} {_ : DecidablePred p} {f : State → State}
    (hf : p s → Event s (f s)) (h : whileReleased s (fun s => if p s then f s else s) = .next t) : Event s t := by
  obtain rfl | ⟨hp, rfl⟩ := guarded_cases h
  · exact .none _
  · exact hf hp

theorem Event.of_take {k : ReqKind} {s t : State} (h : takeRequest k k.serve s = .next t) : Event s t := by
  obtain rfl | ⟨f, -, ⟨st, rfl⟩ | rfl⟩ := takeRequest_cases h
  · exact .none _
  · exact .port (s.popIntake.refuse k f st).port
  · exact .served k f

theorem Event.of_slotRow {s t : State} {slot : Nat} {isRow : State → Bool} {line : Option Word}
    (h : slotRow slot isRow line s = .next t) : Event s t := by
  refine .of_released ?_ h
  repeat' split
  · exact .none s
  · exact .slot slot line
  · exact .none s

theorem exec_event {c : Instr} {s t : State} (h : exec c s = .next t) : Event s t := by
  have port : ∀ g : State → HostPort, whileReleased s (fun s => { s with port := g s }) = .next t → Event s t :=
    fun g => .of_released (.port (g s))
  have ends : ∀ {p : State → Prop} {_ : DecidablePred p}, (p s → s.engine.frame.isSome = true) →
      whileReleased s (fun s => if p s then frameEnd s else s) = .next t → Event s t :=
    fun frame => .of_guarded fun hp => .frameEnd (frame hp)
  cases c with
  | powerOn bds1 bds0 =>
    obtain rfl := Host.Outcome.next.inj h
    exact .reset ..
  | rstnLow =>
    obtain rfl := Host.Outcome.next.inj h
    exact .cutOff
  | resetPoint => exact .of_guarded (fun _ => .reset ..) (show execResetPoint s = _ from h)
  | receiveFrame bytes => exact port (·.port.receive false bytes) h
  | gapLimitExpiry => exact port (·.port.gapLimit) h
  | syncByteReceived => exact port (·.port.receive false [Config.syncByte]) h
  | badLengthByte b => exact port (·.port.receive false [b]) h
  | framingErrorByte b => exact port (·.port.receive true [b]) h
  | badKindFrame =>
    refine .of_released ?_ (show execBadKindFrame s = _ from h)
    repeat' split
    · exact .none s
    · exact .port (s.popIntake.replyNow ..).port
    · exact .none s
  | replyStart =>
    refine .of_released ?_ (show execReplyStart s = _ from h)
    split
    · exact .port _
    all_goals exact .none s
  | noticeStart =>
    refine .of_released ?_ (show execNoticeStart s = _ from h)
    split
    · next h =>
      split
      · exact .noticed h
      · exact .none s
    · exact .none s
  | messageEnd =>
    refine .of_released ?_ (show execMessageEnd s = _ from h)
    split
    · exact .none s
    all_goals exact .port _
  | hello => exact .of_take (k := .hello) h
  | status => exact .of_take (k := .status) h
  | grant => exact .of_take (k := .grant) h
  | cancel => exact .of_take (k := .cancel) h
  | restart => exact .of_take (k := .restart) h
  | trunkSetup => exact .of_take (k := .trunkSetup) h
  | trunkStart => exact .of_take (k := .trunkStart) h
  | trunkStop => exact .of_take (k := .trunkStop) h
  | enroll => exact .of_take (k := .enroll) h
  | drop => exact .of_take (k := .drop) h
  | drowse => exact .of_take (k := .drowse) h
  | wake => exact .of_take (k := .wake) h
  | trim => exact .of_take (k := .trim) h
  | policy => exact .of_take (k := .policy) h
  | call => exact .of_take (k := .call) h
  | clearFault => exact .of_take (k := .clearFault) h
  | stationInfo => exact .of_take (k := .stationInfo) h
  | openStream => exact .of_take (k := .openStream) h
  | closeStream => exact .of_take (k := .closeStream) h
  | commit => exact .of_take (k := .commit) h
  | discard => exact .of_take (k := .discard) h
  | planInfo => exact .of_take (k := .planInfo) h
  | write => exact .of_take (k := .write) h
  | streamInfo => exact .of_take (k := .streamInfo) h
  | frameStart => exact .of_guarded .frameStart (show execFrameStart s = _ from h)
  | planSwap => exact .of_guarded (fun hp => .frameStart hp.1) (show execPlanSwap s = _ from h)
  | trimDue a => exact .of_guarded (fun hp => .frameStart hp.1) (forStation_next h)
  | quietSpanEnd a => exact .of_guarded (fun hp => .frameStart hp.1) (forStation_next h)
  | frameEnd => exact ends id (show execFrameEnd s = _ from h)
  | startingEnd => exact ends And.left (show execStartingEnd s = _ from h)
  | trunkStopComplete => exact ends And.left (show execTrunkStopComplete s = _ from h)
  | frameNumberExhausted => exact ends And.left (show execFrameNumberExhausted s = _ from h)
  | wakeLatencyEnd a => exact ends And.left (forStation_next h)
  | beaconSlot line => exact .of_slotRow (show execBeaconSlot line s = _ from h)
  | serviceDownSlot k line => exact .of_slotRow (forPair_next h).2
  | serviceUpSlot k line => exact .of_slotRow (forPair_next h).2
  | commandDownSlot j line => exact .of_slotRow (forPair_next h).2
  | commandUpSlot j line => exact .of_slotRow (forPair_next h).2
  | responseWindowExpiry j => exact .of_slotRow (forPair_next h).2
  | streamDownSlot k line => exact .of_slotRow (forSlot_next h).2
  | streamUpSlot k line => exact .of_slotRow (forSlot_next h).2
  | unexpectedWordSlot k w => exact .of_slotRow (forSlot_next h).2

/-- A predicate that does not look at the commands that wait, and that every event keeps, is kept by every step. -/
theorem step_keeps {P : State → Prop} (waiting : ∀ s pending, P s → P { s with pending := pending })
    (event : ∀ {s t}, Event s t → P s → P t) {s t : State} (hs : P s) (h : step s = .next t) : P t := by
  cases hp : s.pending with
  | nil =>
    rw [step_nil hp] at h
    exact Host.Outcome.next.inj h ▸ hs
  | cons c rest =>
    rw [step_cons hp] at h
    exact event (exec_event h) (waiting s rest hs)

end Sys2Proof.Machine
end

section

namespace Sys2Proof.Machine

/-! ## Who holds an exchange with whom, and the balances (R69, R88) -/

/-- The part of the state that `ExchangesAgree` speaks of: the station of each service pair's trim exchange, that of each
command pair's exchange, the exchange-in-flight fields and the balances. -/
structure PairView where
  held : Nat → Option Nat
  caller : Nat → Option Nat
  field : Nat → Option PairRef
  balance : Nat → Int

def State.pairView (s : State) : PairView :=
  { held := s.trims.held, caller := fun j => (s.exchange j).map (·.entry.station),
    field := fun a => (s.station a).exchange, balance := fun a => (s.account a).balance }

/-- `ExchangesAgree` over the view, for numbers of every size. -/
structure PairView.Sound (v : PairView) : Prop where
  trims : ∀ k a, v.held k = some a → v.field a = some (.service k) ∧ -8 < v.balance a
  calls : ∀ j a, v.caller j = some a → v.field a = some (.command j)
  range : ∀ a, -8 ≤ v.balance a ∧ v.balance a ≤ 8

theorem State.account_of_not_mem (s : State) {a : Nat} (h : a ∉ addresses) : s.account a = {} := by
  rw [mem_addresses] at h
  unfold State.account TrimScheduler.get
  by_cases h1 : 1 ≤ a
  · rw [if_pos h1, Vector.getElem?_eq_none (by omega)]
    rfl
  · rw [if_neg h1]

theorem exchangesAgree_iff {s : State} : ExchangesAgree s ↔ s.pairView.Sound := by
  constructor
  · rintro ⟨trims, calls, range⟩
    refine ⟨fun k a h => trims k (mem_pairNumbers.mpr (TrimScheduler.held_mem h)) a h, fun j a h => ?_, fun a => ?_⟩
    · obtain ⟨x, hx, rfl⟩ := Option.map_eq_some_iff.mp (h : (s.exchange j).map _ = some a)
      exact calls j (State.exchange_mem hx) x hx
    · by_cases ha : a ∈ addresses
      · exact range a ha
      · simp [State.pairView, s.account_of_not_mem ha]
  · rintro ⟨trims, calls, range⟩
    exact ⟨fun k _ a h => trims k a h, fun j _ x hx => calls j _ (Option.map_eq_some_iff.mpr ⟨x, hx, rfl⟩),
      fun a _ => range a⟩

theorem State.pairView_congr {s t : State} (held : t.trims.held = s.trims.held)
    (calls : ∀ j, (t.exchange j).map (·.entry.station) = (s.exchange j).map (·.entry.station))
    (field : ∀ a, (t.station a).exchange = (s.station a).exchange)
    (balance : ∀ a, (t.account a).balance = (s.account a).balance) : t.pairView = s.pairView := by
  simp only [State.pairView, held, calls, field, balance]

theorem State.pairView_of_blocks {s t : State} (stations : t.stations = s.stations) (trims : t.trims = s.trims)
    (calls : t.calls = s.calls) : t.pairView = s.pairView := by
  simp only [State.pairView, State.exchange, State.station, State.account, stations, trims, calls]

theorem PairView.Sound.of_blocks {s t : State} (h : s.pairView.Sound) (stations : t.stations = s.stations)
    (trims : t.trims = s.trims) (calls : t.calls = s.calls) : t.pairView.Sound :=
  State.pairView_of_blocks stations trims calls ▸ h

/-! ### Changes of the view -/

/-- The exchange that the station's field names is over: its pair is free and the field is removed. -/
def PairView.release (a : Nat) (v : PairView) : PairView :=
  { v with
    held := fun k => if v.field a = some (.service k) then none else v.held k
    caller := fun j => if v.field a = some (.command j) then none else v.caller j
    field := fun b => if a = b then none else v.field b }

def PairView.setBalance (a : Nat) (n : Int) (v : PairView) : PairView :=
  { v with balance := fun b => if a = b then n else v.balance b }

/-- Service pair k takes up a trim exchange with a station. -/
def PairView.grantTrim (k a : Nat) (v : PairView) : PairView :=
  { v with held := fun i => if k = i then some a else v.held i
           field := fun b => if a = b then some (.service k) else v.field b }

/-- Command pair j takes up an exchange with a station. -/
def PairView.grantCall (j a : Nat) (v : PairView) : PairView :=
  { v with caller := fun i => if j = i then some a else v.caller i
           field := fun b => if a = b then some (.command j) else v.field b }

namespace PairView.Sound

variable {v : PairView} (h : v.Sound)
include h

theorem release (a : Nat) : (v.release a).Sound where
  trims k b hk := by
    simp only [PairView.release] at hk ⊢
    split at hk
    · simp at hk
    · next ne =>
      obtain ⟨field, above⟩ := h.trims k b hk
      rw [if_neg (by rintro rfl; exact ne field)]
      exact ⟨field, above⟩
  calls j b hj := by
    simp only [PairView.release] at hj ⊢
    split at hj
    · simp at hj
    · next ne =>
      have field := h.calls j b hj
      rwa [if_neg (by rintro rfl; exact ne field)]
  range := h.range

/-- A balance may change within its range; under a trim exchange it stays above -8. -/
theorem setBalance {a : Nat} {n : Int} (range : -8 ≤ n ∧ n ≤ 8) (above : ∀ k, v.held k = some a → -8 < n) :
    (v.setBalance a n).Sound where
  trims k b hk := by
    obtain ⟨field, old⟩ := h.trims k b hk
    refine ⟨field, ?_⟩
    simp only [PairView.setBalance]
    split
    · next hab => exact above k (hab ▸ hk)
    · exact old
  calls := h.calls
  range b := by
    simp only [PairView.setBalance]
    split
    · exact range
    · exact h.range b

/-- A station with a free field is the station of no exchange. -/
theorem idle {a : Nat} (free : v.field a = none) : (∀ k, v.held k ≠ some a) ∧ ∀ j, v.caller j ≠ some a := by
  refine ⟨fun k hk => ?_, fun j hj => ?_⟩
  · exact absurd ((h.trims k a hk).1.symm.trans free) (by simp)
  · exact absurd ((h.calls j a hj).symm.trans free) (by simp)

theorem grantTrim {k a : Nat} (free : v.field a = none) (above : -8 < v.balance a) : (v.grantTrim k a).Sound where
  trims i b hi := by
    simp only [PairView.grantTrim] at hi ⊢
    split at hi
    · next hki =>
      obtain rfl := Option.some.inj hi
      exact ⟨by rw [if_pos rfl, hki], above⟩
    · rw [if_neg (by rintro rfl; exact (h.idle free).1 i hi)]
      exact h.trims i b hi
  calls j b hj := by
    simp only [PairView.grantTrim] at hj ⊢
    rw [if_neg (by rintro rfl; exact (h.idle free).2 j hj)]
    exact h.calls j b hj
  range := h.range

theorem grantCall {j a : Nat} (free : v.field a = none) : (v.grantCall j a).Sound where
  trims k b hk := by
    simp only [PairView.grantCall] at hk ⊢
    rw [if_neg (by rintro rfl; exact (h.idle free).1 k hk)]
    exact h.trims k b hk
  calls i b hi := by
    simp only [PairView.grantCall] at hi ⊢
    split at hi
    · next hji =>
      obtain rfl := Option.some.inj hi
      rw [if_pos rfl, hji]
    · rw [if_neg (by rintro rfl; exact (h.idle free).2 i hi)]
      exact h.calls i b hi
  range := h.range

end PairView.Sound

/-! ### The operations that leave the view alone (chapters 4, 8) -/

section
variable (s : State)

theorem State.onStation_pairView (a : Nat) {f : Station → Station}
    (keeps : ∀ r, (f r).exchange = r.exchange := by exact fun _ => rfl) : (s.onStation a f).pairView = s.pairView := by
  refine State.pairView_congr (by simp) (fun j => by simp) (fun b => ?_) (fun b => by simp)
  rw [State.onStation_station]
  split
  · next hab => rw [keeps, hab.1]
  · rfl

theorem State.onAccount_pairView (a : Nat) {f : TrimAccount → TrimAccount}
    (keeps : ∀ c, (f c).balance = c.balance := by exact fun _ => rfl) : (s.onAccount a f).pairView = s.pairView := by
  refine State.pairView_congr (s.onAccount_held a f) (fun j => by simp) (fun b => by simp) (fun b => ?_)
  rw [State.onAccount_account]
  split
  · next hab => rw [keeps, hab.1]
  · rfl

@[simp] theorem State.dequeue_pairView (l : Entry → Bool) : (s.dequeue l).pairView = s.pairView := rfl

@[simp] theorem State.wakeQueue_pairView (l : List Nat) :
    ({ s with stations := { s.stations with wakeQueue := l } } : State).pairView = s.pairView := rfl

@[simp] theorem State.offer_pairView (n : Notice) : (s.offer n).pairView = s.pairView := rfl

@[simp] theorem State.answer_pairView (tag : Byte) (st : Status) (b : ReplyBody) :
    (s.answer tag st b).pairView = s.pairView := rfl

@[simp] theorem State.setPhase_pairView (tag : Byte) (p : Phase) : (s.setPhase tag p).pairView = s.pairView := rfl

@[simp] theorem State.enter_pairView (e : Outstanding) : (s.enter e).pairView = s.pairView := rfl

@[simp] theorem State.popIntake_pairView : s.popIntake.pairView = s.pairView := rfl

@[simp] theorem State.replyNow_pairView (k tag : Byte) (st : Status) (b : ReplyBody) :
    (s.replyNow k tag st b).pairView = s.pairView := rfl

@[simp] theorem State.accept_pairView (k : ReqKind) (f : ReqFrame) (b : ReplyBody) :
    (s.accept k f b).pairView = s.pairView := rfl

@[simp] theorem State.refuse_pairView (k : ReqKind) (f : ReqFrame) (st : Status) :
    (s.refuse k f st).pairView = s.pairView := rfl

@[simp] theorem State.enqueue_pairView (e : Entry) : (s.enqueue e).pairView = s.pairView := by
  unfold State.enqueue
  split <;> rfl

@[simp] theorem State.answerKind_pairView (k : ReqKind) (t : Option Nat) (st : Status) (b : ReplyBody) :
    (s.answerKind k t st b).pairView = s.pairView := State.pairView_of_blocks (by simp) (by simp) (by simp)

@[simp] theorem State.failCall_pairView (e : Entry) (st : Status) : (s.failCall e st).pairView = s.pairView :=
  State.pairView_of_blocks (by simp) (by simp) (by simp)

@[simp] theorem State.failCalls_pairView (es : List Entry) (st : Status) : (s.failCalls es st).pairView = s.pairView :=
  State.pairView_of_blocks (by simp) (by simp) (by simp)

@[simp] theorem State.reportFault_pairView (a : Nat) (kind : FaultKind) (slot : Nat) (raw : Option Word) :
    (s.reportFault a kind slot raw).pairView = s.pairView := State.pairView_of_blocks (by simp) (by simp) (by simp)

@[simp] theorem State.reportMiss_pairView (a : Nat) : (s.reportMiss a).pairView = s.pairView := s.onStation_pairView a

@[simp] theorem State.reportValid_pairView (a : Nat) : (s.reportValid a).pairView = s.pairView := s.onStation_pairView a

@[simp] theorem State.endQuiet_pairView (a : Nat) : (s.endQuiet a).pairView = s.pairView := s.onAccount_pairView a

@[simp] theorem State.moveStation_pairView (a : Nat) (new : StationState) (reason : Reason) :
    (s.moveStation a new reason).pairView = s.pairView := by
  have stations : (s.moveStation a new reason).pairView = (s.onStation a (fun r => { r with state := new })).pairView :=
    State.pairView_of_blocks (by simp [State.moveStation]) (by simp) (by simp)
  exact stations.trans (s.onStation_pairView a)

@[simp] theorem State.endOperation_pairView (a : Nat) (st : Status) (b : ReplyBody) :
    (s.endOperation a st b).pairView = s.pairView := by
  unfold State.endOperation
  split
  · rfl
  · rw [State.answer_pairView]
    exact s.onStation_pairView a

@[simp] theorem State.endHostTrim_pairView (a : Nat) (st : Status) (b : ReplyBody) :
    (s.endHostTrim a st b).pairView = s.pairView := by
  unfold State.endHostTrim
  split
  · rw [State.answerKind_pairView]
    exact s.onStation_pairView a
  · rfl

/-! ### The operations that end an exchange (R68, R99 to R102, R117, R126) -/

theorem State.freeService_pairView {k a : Nat} (field : (s.station a).exchange = some (.service k)) :
    (s.freeService k a).pairView = s.pairView.release a := by
  have mem : a ∈ addresses := by
    by_contra h
    rw [s.station_of_not_mem h] at field
    simp at field
  simp only [State.pairView, PairView.release, field, PairView.mk.injEq]
  refine ⟨?_, ?_, ?_, ?_⟩
  · funext i; simp
  · funext i; simp [State.exchange]
  · funext b
    rw [State.freeService_station]
    simp only [mem_addresses.mp mem, and_true]
    split <;> rfl
  · funext b; simp

theorem State.freePair_pairView {j a : Nat} (field : (s.station a).exchange = some (.command j)) :
    (s.freePair j a).pairView = s.pairView.release a := by
  have mem : a ∈ addresses := by
    by_contra h
    rw [s.station_of_not_mem h] at field
    simp at field
  simp only [State.pairView, PairView.release, field, PairView.mk.injEq]
  refine ⟨?_, ?_, ?_, ?_⟩
  · funext i; simp
  · funext i
    rw [State.freePair_exchange]
    by_cases hji : j = i <;> simp [hji]
  · funext b
    rw [State.freePair_station]
    simp only [mem_addresses.mp mem, and_true]
    split <;> rfl
  · funext b; simp [State.account]

theorem PairView.release_idle {v : PairView} {a : Nat} (idle : v.field a = none) : v.release a = v := by
  simp only [PairView.release, idle]
  have : (fun b => if a = b then none else v.field b) = v.field := by
    funext b
    split
    · next hab => rw [← hab, idle]
    · rfl
  simp [this]

@[simp] theorem State.release_pairView (a : Nat) : (s.release a).pairView = s.pairView.release a := by
  unfold State.release
  split
  · next h => exact (PairView.release_idle h).symm
  · next k h => exact s.freeService_pairView h
  · next j h => exact s.freePair_pairView h

@[simp] theorem State.disposeWork_pairView (a : Nat) (st : Status) :
    (s.disposeWork a st).pairView = s.pairView.release a := by
  rw [State.disposeWork_eq]
  simp

@[simp] theorem State.enterFaulted_pairView (a : Nat) (reason : Reason) (o w : Status) :
    (s.enterFaulted a reason o w).pairView = s.pairView.release a := by
  simp [State.enterFaulted]

@[simp] theorem State.clearStation_pairView (a : Nat) : (s.clearStation a).pairView = s.pairView := by
  simp only [State.clearStation, State.endQuiet_pairView, State.wakeQueue_pairView]
  exact s.onStation_pairView a

@[simp] theorem State.enterAbsent_pairView (a : Nat) (reason : Reason) (o w : Status) :
    (s.enterAbsent a reason o w).pairView = s.pairView.release a := by
  simp [State.enterAbsent_eq, State.operationEnded]

end

end Sys2Proof.Machine
end

section

namespace Sys2Proof.Machine

/-! ## Exchanges and balances through the exchanges of the command pairs (chapter 6)

Each operation leaves the view alone, or releases the station, or is one of the changes of `PairView.Sound`. -/

theorem PairView.Sound.ite {p : Prop} {_ : Decidable p} {s t : State} (hs : s.pairView.Sound)
    (ht : t.pairView.Sound) : (if p then s else t).pairView.Sound := by
  split
  · exact hs
  · exact ht

section
variable {s : State} (h : s.pairView.Sound)
include h

theorem State.missLimit_sound (a : Nat) (origin : StationState) : (s.missLimit a origin).pairView.Sound := by
  unfold State.missLimit
  repeat' split
  · rw [State.enterAbsent_pairView]; exact h.release a
  iterate 2 rw [State.enterFaulted_pairView]; exact h.release a
  all_goals exact h

theorem enrollFails_sound (a : Nat) (st : Status) : (enrollFails a st s).pairView.Sound := by
  unfold enrollFails
  split
  · rw [State.enterAbsent_pairView]; exact h.release a
  · exact h

omit h in
@[simp] theorem enrollNext_pairView (e : Entry) (step : EnrollStep) (attr : Nat) :
    (enrollNext e step attr s).pairView = s.pairView := by
  simp only [enrollNext, State.setPhase_pairView, State.enqueue_pairView]
  exact s.onStation_pairView _

omit h in
@[simp] theorem enrollCompletes_pairView (a : Nat) : (enrollCompletes a s).pairView = s.pairView := by
  simp only [enrollCompletes]
  rw [State.onAccount_pairView, State.onStation_pairView, State.endOperation_pairView, State.moveStation_pairView]

theorem enrollDone_sound (e : Entry) (echo value : Nat) : (enrollDone e echo value s).pairView.Sound := by
  have kept : ∀ {f : Station → Station}, (∀ r, (f r).exchange = r.exchange) →
      (s.onStation e.station f).pairView.Sound := fun keeps => by rwa [s.onStation_pairView _ keeps]
  have next : ∀ {f : Station → Station} step attr, (∀ r, (f r).exchange = r.exchange) →
      (enrollNext e step attr (s.onStation e.station f)).pairView.Sound :=
    fun _ _ keeps => by rw [enrollNext_pairView]; exact kept keeps
  have bad := enrollFails_sound h e.station .badStation
  simp only [enrollDone]
  split
  · exact h
  · rwa [enrollNext_pairView]
  iterate 3 exact .ite (next _ _ fun _ => rfl) bad
  · exact .ite (by rw [enrollCompletes_pairView]; exact kept fun _ => rfl) bad

theorem enrollEnds_sound (e : Entry) (r : Ending) : (enrollEnds e r s).pairView.Sound := by
  unfold enrollEnds
  repeat' split
  · exact enrollDone_sound h ..
  iterate 4 exact enrollFails_sound h ..
  · exact h

theorem drowseEnds_sound (e : Entry) (r : Ending) : (drowseEnds e r s).pairView.Sound := by
  simp only [drowseEnds]
  split
  · exact .ite (by simpa using h) h
  all_goals simpa using h

theorem probeEnds_sound (e : Entry) (r : Ending) : (probeEnds e r s).pairView.Sound := by
  simp only [probeEnds]
  split
  · split
    · exact .ite (by simpa using h) (by rw [State.enterFaulted_pairView]; exact h.release _)
    all_goals rw [State.enterFaulted_pairView]; exact h.release _
  · exact h

theorem callEnds_sound (e : Entry) (r : Ending) : (callEnds e r s).pairView.Sound :=
  h.of_blocks (by simp) (by simp) (by simp)

theorem handOff_sound (e : Entry) (r : Ending) : (handOff e r s).pairView.Sound := by
  unfold handOff
  split
  · exact callEnds_sound h ..
  · exact enrollEnds_sound h ..
  · exact drowseEnds_sound h ..
  · exact probeEnds_sound h ..

/-- A pair's exchange may take another course while its entry stays (R118 to R120). -/
theorem State.setExchange_sound {j : Nat} {x y : Exchange} (hx : s.exchange j = some x) (entry : y.entry = x.entry) :
    (s.setExchange j (some y)).pairView.Sound := by
  have same : (s.setExchange j (some y)).pairView = s.pairView := by
    refine State.pairView_congr rfl (fun i => ?_) (fun _ => rfl) (fun _ => rfl)
    rw [State.setExchange_exchange]
    split
    · next hji => rw [← hji.1, hx]; simp [entry]
    · rfl
  rwa [same]

/-- A pair that holds an exchange is freed with its station (R117, R126). -/
theorem State.freePair_sound {j : Nat} {x : Exchange} (hx : s.exchange j = some x) :
    (s.freePair j x.entry.station).pairView.Sound := by
  rw [s.freePair_pairView (h.calls j _ (Option.map_eq_some_iff.mpr ⟨x, hx, rfl⟩))]
  exact h.release _

theorem attemptMiss_sound {j : Nat} {x y : Exchange} (hx : s.exchange j = some x) (entry : y.entry = x.entry)
    (slot : Nat) : (attemptMiss j slot y s).pairView.Sound := by
  have missed : (s.reportMiss y.entry.station).pairView.Sound := by rwa [State.reportMiss_pairView]
  have tried : (if y.attempt < Config.attempts then
      (s.reportMiss y.entry.station).setExchange j
        (some { y with attempt := y.attempt + 1, framesLeft := s.engine.setup.window, sendDue := true })
      else handOff y.entry .noReply
        (((s.reportMiss y.entry.station).reportFault y.entry.station .noReply slot none).freePair j y.entry.station)
      ).pairView.Sound := by
    refine .ite (State.setExchange_sound missed (x := x) (by simpa [State.reportMiss] using hx) entry)
      (handOff_sound ?_ _ _)
    rw [entry] at missed ⊢
    refine State.freePair_sound (by rwa [State.reportFault_pairView]) ?_
    simpa [State.reportMiss, State.exchange] using hx
  simp only [attemptMiss, State.reportMiss_frame]
  exact .ite (State.missLimit_sound tried _ _) tried

theorem commandAnswer_sound {j : Nat} {x : Exchange} (hx : s.exchange j = some x) (slot : Nat) (c : UpClass) :
    (commandAnswer j slot x c s).pairView.Sound := by
  have valid : (s.reportValid x.entry.station).pairView.Sound := by rwa [State.reportValid_pairView]
  have hv : (s.reportValid x.entry.station).exchange j = some x := by simpa [State.reportValid] using hx
  have reply : ∀ r, (exchangeReply j x r s).pairView.Sound := fun r =>
    handOff_sound (State.freePair_sound valid hv) _ r
  have fault : ∀ kind raw, (attemptMiss j slot x (s.reportFault x.entry.station kind slot raw)).pairView.Sound :=
    fun kind raw => attemptMiss_sound (by rwa [State.reportFault_pairView])
      (by simpa [State.exchange] using hx) rfl slot
  unfold commandAnswer
  split
  · simp only [exchangeSilent]
    exact .ite (State.setExchange_sound h hx rfl) (attemptMiss_sound h hx rfl slot)
  · exact fault ..
  · exact fault ..
  · exact reply _
  · exact reply _
  · exact reply _
  · simp only [exchangeWait]
    exact .ite (State.setExchange_sound valid hv rfl) (handOff_sound (State.freePair_sound valid hv) _ _)
  · exact h

omit h in
/-- Only a station of the part is in a state that an order needs (R115). -/
theorem State.mem_of_entryEligible {e : Entry} (he : s.entryEligible e = true) :
    e.station ∈ addresses ∧ (s.station e.station).exchange = none := by
  simp only [State.entryEligible, Bool.and_eq_true, beq_iff_eq, Option.isNone_iff_eq_none] at he
  obtain ⟨⟨⟨free, state⟩, -⟩, -⟩ := he
  refine ⟨?_, free⟩
  by_contra out
  rw [s.station_of_not_mem out] at state
  unfold Entry.needs at state
  split at state <;> simp at state

theorem grantPair_sound (j : Nat) (hj : j ∈ pairNumbers) : (grantPair s j).pairView.Sound := by
  unfold grantPair
  split
  · split
    · exact h
    · next e he =>
      obtain ⟨mem, free⟩ := State.mem_of_entryEligible (List.find?_some he)
      rw [State.setPhase_pairView]
      refine (congrArg PairView.Sound ?_).mpr (h.grantCall (j := j) free)
      simp only [State.pairView, PairView.grantCall, PairView.mk.injEq]
      refine ⟨by simp, ?_, ?_, ?_⟩
      · funext i
        simp only [State.onStation_exchange, State.setExchange_exchange, mem_pairNumbers.mp hj, and_true]
        split <;> rfl
      · funext b
        simp only [State.onStation_station, mem_addresses.mp mem, and_true]
        split <;> rfl
      · funext b
        simp
        rfl
  · exact h

theorem grantCommands_sound : (grantCommands s).pairView.Sound :=
  foldl_keeps_mem (P := fun t : State => t.pairView.Sound) pairNumbers s (fun _ j hj ht => grantPair_sound ht j hj) h

theorem stopPair_sound (j : Nat) : (stopPair s j).pairView.Sound := by
  unfold stopPair
  split
  · exact h
  · next x hx =>
    rw [State.failCall_pairView]
    exact State.freePair_sound h hx

theorem callUnitStop_sound : (callUnitStop s).pairView.Sound := by
  rw [callUnitStop_eq]
  refine foldl_keeps (P := fun t : State => t.pairView.Sound) (fun t j ht => stopPair_sound ht j) _ _ ?_
  simpa using h

end

end Sys2Proof.Machine
end

section

namespace Sys2Proof.Machine

/-! ## Exchanges and balances through the trims, the slots and the frames (chapters 1, 5) -/

section
variable {s : State} (h : s.pairView.Sound)
include h

omit h in
theorem State.onAccount_setBalance (a : Nat) (f : TrimAccount → TrimAccount) (ha : a ∈ addresses) :
    (s.onAccount a f).pairView = s.pairView.setBalance a (f (s.account a)).balance := by
  simp only [State.pairView, PairView.setBalance, PairView.mk.injEq]
  refine ⟨s.onAccount_held a f, by simp, by simp, ?_⟩
  funext b
  simp only [State.onAccount_account, mem_addresses.mp ha, and_true]
  split <;> rfl

/-! ### Quiet spans and accrual (R90, R91, R103) -/

omit h in
@[simp] theorem quietSpanEnds_pairView (a : Nat) : (quietSpanEnds a s).pairView = s.pairView := by
  simp [quietSpanEnds]

omit h in
@[simp] theorem endQuietSpans_pairView : (endQuietSpans s).pairView = s.pairView :=
  foldl_same (p := State.pairView) (fun t a => by split <;> simp) addresses s

theorem breach_sound (a : Nat) : (breach a s).pairView.Sound := by
  unfold breach
  exact .ite (by rw [State.enterFaulted_pairView]; exact h.release a) h

/-- A balance rises below 8 alone (R90). -/
theorem trimFallsDue_sound (a : Nat) (ha : a ∈ addresses) : (trimFallsDue a s).pairView.Sound := by
  have loaded : (s.onAccount a (fun c => { c with countdown := (s.station a).interval.getD 0 * 16 })).pairView =
      s.pairView := s.onAccount_pairView a
  simp only [trimFallsDue]
  rw [← loaded] at h
  generalize s.onAccount a (fun c => { c with countdown := (s.station a).interval.getD 0 * 16 }) = t at h
  split
  · next below =>
    rw [State.onAccount_setBalance a _ ha]
    have low : -8 ≤ (t.account a).balance := (h.range a).1
    have high : (t.account a).balance < 8 := below
    exact h.setBalance (n := (t.account a).balance + 1) ⟨by omega, by omega⟩ fun _ _ => by omega
  · exact breach_sound h a

theorem accrueStation_sound (a : Nat) (ha : a ∈ addresses) : (accrueStation s a).pairView.Sound := by
  have counted : (s.onAccount a (fun c => { c with countdown := c.countdown - 1 })).pairView.Sound := by
    rwa [s.onAccount_pairView a]
  unfold accrueStation
  exact .ite (.ite (trimFallsDue_sound h a ha) counted) h

theorem accrue_sound : (accrue s).pairView.Sound :=
  foldl_keeps_mem (P := fun t : State => t.pairView.Sound) addresses s
    (fun _ a ha ht => accrueStation_sound ht a ha) h

/-! ### The service arbiter (R94 to R97) -/

omit h in
theorem State.rankInto_perm (a : Nat) (l : List Nat) : (s.rankInto a l).Perm (a :: l) := by
  induction l with
  | nil => exact .refl _
  | cons b rest ih =>
    unfold State.rankInto
    split
    · exact .refl _
    · exact (ih.cons b).trans (.swap a b rest)

omit h in
/-- The ranked stations are the eligible ones (R94, R96). -/
theorem State.ranked_perm : s.ranked.Perm (addresses.filter s.trimEligible) := by
  unfold State.ranked
  induction addresses.filter s.trimEligible with
  | nil => exact .refl _
  | cons a rest ih => exact (State.rankInto_perm a _).trans (ih.cons a)

omit h in
/-- An eligible station has no exchange, and a balance above -8 (R94). -/
theorem State.ready_of_trimEligible {a : Nat} (he : s.trimEligible a = true) :
    s.pairView.field a = none ∧ -8 < s.pairView.balance a := by
  simp only [State.trimEligible, Bool.and_eq_true, Bool.or_eq_true, beq_iff_eq, Option.isNone_iff_eq_none,
    decide_eq_true_eq, Config.balanceLimit] at he
  obtain ⟨⟨-, free⟩, balance⟩ := he
  refine ⟨free, ?_⟩
  show -8 < (s.account a).balance
  omega

omit h in
theorem grantService_pairView {k a : Nat} (hk : k ∈ pairNumbers) (ha : a ∈ addresses) :
    (grantService s (k, a)).pairView = s.pairView.grantTrim k a := by
  simp only [State.pairView, PairView.grantTrim, PairView.mk.injEq]
  refine ⟨?_, by simp [State.exchange], ?_, ?_⟩
  · funext i
    simp only [grantService, State.onStation_trims, State.holdTrim_trims, TrimScheduler.held_hold,
      mem_pairNumbers.mp hk, and_true]
  · funext b
    simp only [grantService, State.onStation_station, State.holdTrim_station, mem_addresses.mp ha, and_true]
    split <;> rfl
  · funext b
    simp [grantService]

omit h in
/-- Pairs granted one after another to different stations that are ready (R96, R97). -/
theorem grantServices_fold_sound : ∀ (ks as : List Nat) {s : State}, s.pairView.Sound → (∀ k ∈ ks, k ∈ pairNumbers) →
    as.Nodup → (∀ a ∈ as, a ∈ addresses ∧ s.pairView.field a = none ∧ -8 < s.pairView.balance a) →
    ((ks.zip as).foldl grantService s).pairView.Sound
  | [], _, _, h, _, _, _ => by simpa using h
  | _ :: _, [], _, h, _, _, _ => by simpa using h
  | k :: ks, a :: as, s, h, pairs, nodup, ready => by
    obtain ⟨fresh, nodup⟩ := List.nodup_cons.mp nodup
    obtain ⟨ha, free, above⟩ := ready a (by simp)
    have granted := grantService_pairView (s := s) (pairs k (by simp)) ha
    rw [List.zip_cons_cons, List.foldl_cons]
    refine grantServices_fold_sound ks as (granted ▸ h.grantTrim free above) (fun i hi => pairs i (by simp [hi])) nodup
      fun b hb => ?_
    obtain ⟨mem, idle, balance⟩ := ready b (by simp [hb])
    have other : a ≠ b := by rintro rfl; exact fresh hb
    rw [granted]
    exact ⟨mem, by simpa [PairView.grantTrim, other] using idle, balance⟩

theorem grantServices_sound : (grantServices s).pairView.Sound := by
  refine grantServices_fold_sound _ _ h (fun k hk => List.mem_of_mem_take hk)
    (State.ranked_perm.nodup_iff.mpr (addresses_nodup.filter _)) fun a ha => ?_
  obtain ⟨mem, eligible⟩ := List.mem_filter.mp (State.ranked_perm.mem_iff.mp ha)
  exact ⟨mem, State.ready_of_trimEligible eligible⟩

/-! ### The trim answer (R98 to R101) -/

/-- DONE lowers a balance that was above -8 (R99). -/
theorem trimDone_sound (k : Nat) {a : Nat} (ha : a ∈ addresses) (idle : s.pairView.field a = none)
    (above : -8 < (s.account a).balance) : (trimDone k a s).pairView.Sound := by
  have done : (trimAcknowledged k a s).pairView.Sound := by
    have account : (s.reportValid a).account a = s.account a := by simp [State.reportValid]
    rw [trimAcknowledged, State.onAccount_setBalance a _ ha, State.reportValid_pairView, account]
    have high : (s.account a).balance ≤ 8 := (h.range a).2
    exact h.setBalance (n := (s.account a).balance - 1) ⟨by omega, by omega⟩
      fun k hk => absurd hk ((h.idle idle).1 k)
  show (if _ then (trimAcknowledged k a s).moveStation a .trimming .trim
    else (trimAcknowledged k a s).endQuiet a : State).pairView.Sound
  exact .ite (by rwa [State.moveStation_pairView]) (by rwa [State.endQuiet_pairView])

theorem trimRefused_sound (a : Nat) : (trimRefused a s).pairView.Sound := by
  have counted : ((s.reportValid a).onStation a (fun r => { r with refusals := r.refusals + 1 })).pairView.Sound := by
    rwa [State.onStation_pairView, State.reportValid_pairView]
  simp only [trimRefused]
  exact .ite (.ite (by rwa [State.endHostTrim_pairView]) counted) (by rwa [State.reportValid_pairView])

theorem trimMiss_sound (a : Nat) : (trimMiss a s).pairView.Sound := by
  have missed : (s.reportMiss a).pairView.Sound := by rwa [State.reportMiss_pairView]
  simp only [trimMiss]
  exact .ite (State.missLimit_sound missed ..) missed

theorem trimAnswer_sound {k a : Nat} (held : s.trims.held k = some a) (slot : Nat) (c : UpClass) :
    (trimAnswer k slot a c s).pairView.Sound := by
  obtain ⟨field, above⟩ := h.trims k a held
  have mem : a ∈ addresses := by
    by_contra out
    have free : (s.station a).exchange = none := by rw [s.station_of_not_mem out]
    exact absurd (field.symm.trans free) (by simp)
  have view := s.freeService_pairView field
  have freed : (s.freeService k a).pairView.Sound := view ▸ h.release a
  have missed : ∀ kind raw, (trimMiss a ((s.freeService k a).reportFault a kind slot raw)).pairView.Sound :=
    fun kind raw => trimMiss_sound (by rwa [State.reportFault_pairView]) a
  simp only [trimAnswer]
  split
  · exact trimMiss_sound freed a
  · exact missed ..
  · exact missed ..
  · refine trimDone_sound freed k mem ?_ (by rwa [State.freeService_account])
    rw [view]
    exact if_pos rfl
  · exact trimRefused_sound freed a
  · exact trimRefused_sound freed a
  all_goals exact freed

/-! ### The slots (1.8 to 1.11) -/

omit h in
@[simp] theorem clearSendDue_pairView (j : Nat) : (clearSendDue j s).pairView = s.pairView := by
  refine State.pairView_congr (by simp) (fun i => ?_) (fun a => by simp [State.station]) (fun a => by simp [State.account])
  rw [clearSendDue_exchange]
  split
  · next hij => rw [hij]; cases s.exchange j <;> rfl
  · rfl

theorem serveSlot_sound (role : Role) (slot : Nat) (line : Option Word) :
    (serveSlot role slot line s).pairView.Sound := by
  have idle : (unexpected slot line s).pairView.Sound := h.of_blocks (by simp) (by simp) (by simp)
  have driven : ∀ w {t : State}, t.pairView.Sound → (drive slot w line t).pairView.Sound :=
    fun w t ht => ht.of_blocks (by simp) (by simp) (by simp)
  unfold serveSlot
  split
  · exact idle
  · exact driven _ h
  · exact driven _ h
  · split
    · next held => exact trimAnswer_sound h held slot _
    · exact idle
  · exact driven _ (by rwa [clearSendDue_pairView])
  · split
    · next hx => exact commandAnswer_sound h hx slot _
    · exact idle
  · split
    · exact idle
    · next st _ =>
      split
      · exact h.of_blocks (by simp) (by simp) (by simp)
      · exact .ite (h.of_blocks (by simp) (by simp) (by simp)) idle

theorem slotEvent_sound (slot : Nat) (line : Option Word) : (slotEvent slot line s).pairView.Sound :=
  serveSlot_sound (s := beginSlot slot s) h _ slot line

omit h in
theorem passFrom_sound (n : Nat) : ∀ (slot : Nat) {s : State}, s.pairView.Sound → (passFrom slot n s).pairView.Sound := by
  induction n with
  | zero => exact fun _ _ h => h
  | succ n ih => exact fun slot _ h => ih _ (slotEvent_sound h slot none)

theorem passSlots_sound (slot : Nat) : (passSlots slot s).pairView.Sound := by
  unfold passSlots
  split
  · exact h
  · exact passFrom_sound _ _ h

/-! ### Frame starts and frame ends (R4) -/

omit h in
theorem nameWake_pairView (s : State) : (nameWake s).pairView = s.pairView := by
  unfold nameWake
  split
  · rfl
  · exact State.onStation_pairView _ _

theorem frameStart_sound : (frameStart s).pairView.Sound := by
  have granted : s.beforeGrants.pairView.Sound := by
    refine accrue_sound ?_
    rw [endQuietSpans_pairView]
    exact h.of_blocks (by simp [assignFrame]) (by simp [assignFrame]) (by simp [assignFrame])
  rw [frameStart_eq]
  refine .ite ?_ granted
  rw [grantFrame, nameWake_pairView]
  exact grantCommands_sound (grantServices_sound granted)

omit h in
theorem wakeTick_pairView (s : State) (a : Nat) : (wakeTick s a).pairView = s.pairView := by
  have probed : ∀ t : State, (queueProbe a t).pairView = t.pairView := fun t => by
    unfold queueProbe
    split <;> simp
  unfold wakeTick
  repeat' split
  · rfl
  · rw [probed]
    exact s.onStation_pairView a
  · exact s.onStation_pairView a

theorem closeFrame_sound : (closeFrame s).pairView.Sound := by
  rw [closeFrame_eq]
  refine foldl_keeps (P := fun t : State => t.pairView.Sound) (fun t a ht => (wakeTick_pairView t a).symm ▸ ht) _ _ ?_
  exact passSlots_sound h _

theorem stopStation_sound (a : Nat) : (stopStation s a).pairView.Sound := by
  unfold stopStation
  exact .ite h (by rw [State.enterAbsent_pairView]; exact h.release a)

theorem trunkStops_sound : (trunkStops s).pairView.Sound := by
  have stations : (stationManagerStop s.halted).pairView.Sound := by
    rw [stationManagerStop, State.wakeQueue_pairView]
    exact foldl_keeps (P := fun t : State => t.pairView.Sound) (fun t a ht => stopStation_sound ht a) _ _
      (h.of_blocks rfl rfl rfl)
  have calls := callUnitStop_sound stations
  rw [trunkStops_eq, State.answerKind_pairView, State.answerKind_pairView]
  exact calls.of_blocks (by simp) (by simp) (by simp)

theorem frameEnd_sound : (frameEnd s).pairView.Sound := by
  have closed := closeFrame_sound h
  unfold frameEnd
  generalize closeFrame s = t at closed
  have ticked : (startingTick t).pairView.Sound := by
    simp only [startingTick]
    exact .ite (by rw [State.answerKind_pairView]; exact closed.of_blocks rfl rfl rfl) (closed.of_blocks rfl rfl rfl)
  unfold settleTrunk
  split
  · exact closed
  · exact trunkStops_sound closed
  · exact .ite (trunkStops_sound closed) ticked
  · exact .ite (trunkStops_sound closed) closed

end

end Sys2Proof.Machine
end

section

namespace Sys2Proof.Machine

/-! ## Exchanges and balances through the requests, and through every step (R69, R88, R94, R99) -/

section
variable {s : State} (h : s.pairView.Sound) (f : ReqFrame)
include h

/-! ### CANCEL and RESTART (R158, R159) -/

theorem cancelEntry_sound {e : Outstanding} {t : State} (he : cancelEntry e s = some t) : t.pairView.Sound := by
  have gone : ∀ tag : Byte, (s.dequeue (fun e => e.tag == tag)).pairView.Sound := fun _ => h
  unfold cancelEntry at he
  split at he
  · unfold cancelCommit at he
    repeat' split at he
    · exact Option.some.inj he ▸ h.of_blocks rfl rfl rfl
    all_goals simp at he
  · unfold cancelEnroll at he
    split at he
    · obtain rfl := Option.some.inj he
      rw [State.enterAbsent_pairView]
      exact (gone _).release _
    · simp at he
  · unfold cancelDrowse at he
    split at he
    · obtain rfl := Option.some.inj he
      rw [State.endOperation_pairView]
      exact gone _
    · simp at he
  · unfold cancelWake at he
    split at he
    · obtain rfl := Option.some.inj he
      rwa [State.endOperation_pairView, State.moveStation_pairView, State.wakeQueue_pairView]
    · simp at he
  · unfold cancelTrim at he
    split at he
    · obtain rfl := Option.some.inj he
      rwa [State.endHostTrim_pairView]
    · simp at he
  · unfold cancelCall at he
    split at he
    · obtain rfl := Option.some.inj he
      rw [State.failCall_pairView]
      exact gone _
    · simp at he
  all_goals simp at he

theorem serveCancel_sound : (serveCancel f s).pairView.Sound := by
  simp only [serveCancel]
  repeat' split
  · exact h
  · exact h
  · next he => exact (cancelEntry_sound h he :)
  · exact h

theorem giveUp_sound (tag : Byte) : (giveUp tag s).pairView.Sound := by
  have exchange : ∀ (t : State) j, t.pairView.Sound → (giveUpExchange tag t j).pairView.Sound := fun t j ht => by
    unfold giveUpExchange
    split
    · next x hx => exact .ite (State.freePair_sound ht hx) ht
    · exact ht
  have operation : ∀ (t : State) a, t.pairView.Sound → (giveUpOperation tag t a).pairView.Sound := fun t a ht => by
    unfold giveUpOperation
    split
    · exact .ite (by rwa [t.onStation_pairView a]) ht
    · exact ht
  have work : (s.workGivenUp tag).pairView.Sound :=
    foldl_keeps (P := fun t : State => t.pairView.Sound) operation _ _
      (foldl_keeps (P := fun t : State => t.pairView.Sound) exchange _ _ h)
  obtain up | up := giveUp_cases s tag
  · rwa [up]
  · rw [up]
    generalize s.workGivenUp tag = t at work
    exact work.of_blocks rfl rfl rfl

theorem serveRestart_sound : (serveRestart f s).pairView.Sound := by
  have one : ∀ (t : State) (e : Outstanding), t.pairView.Sound → (abortOne t e).pairView.Sound := fun t e ht => by
    unfold abortOne
    exact .ite ht (by rw [State.answer_pairView]; exact giveUp_sound ht e.tag)
  have closed : ({ s with port := { s.port with restarting := true } } : State).pairView.Sound := h.of_blocks rfl rfl rfl
  simp only [serveRestart, State.accept_pairView]
  exact foldl_keeps (P := fun t : State => t.pairView.Sound) one s.port.table _ closed

/-! ### The station requests -/

/-- The account of a station that enters JOINING is that of power-on, its balance 0 (R89). -/
theorem serveEnroll_sound : (serveEnroll f s).pairView.Sound := by
  have begun : goodStation (f.param 0) = true → (beginEnroll (f.param 0) f s).pairView.Sound := fun good => by
    simp only [goodStation, Bool.and_eq_true, decide_eq_true_eq] at good
    simp only [beginEnroll, State.enter_pairView, State.enqueue_pairView]
    have joined : ((s.moveStation (f.param 0) .joining .enroll).onStation (f.param 0)
        (Station.beginEnroll f.tag)).pairView.Sound := by
      rwa [State.onStation_pairView, State.moveStation_pairView]
    have reset := State.onAccount_setBalance
      (s := (s.moveStation (f.param 0) .joining .enroll).onStation (f.param 0) (Station.beginEnroll f.tag))
      (f.param 0) (fun _ => {}) (mem_addresses.mpr good)
    rw [show State.setAccount (f.param 0) {} _ = State.onAccount (f.param 0) (fun _ => {}) _ from rfl, reset]
    exact joined.setBalance ⟨by decide, by decide⟩ fun _ _ => by decide
  unfold serveEnroll
  simp only
  split
  · exact h
  · next good => exact .ite (begun (by simpa using good)) h

theorem serveDrop_sound : (serveDrop f s).pairView.Sound := by
  unfold serveDrop
  refine .ite h (.ite h ?_)
  rw [State.accept_pairView, State.enterAbsent_pairView]
  exact h.release _

theorem serveDrowse_sound : (serveDrowse f s).pairView.Sound := by
  unfold serveDrowse
  refine .ite h (.ite h (.ite h ?_))
  simp only [beginDrowse, State.enter_pairView, State.enqueue_pairView]
  rwa [s.onStation_pairView]

theorem serveWake_sound : (serveWake f s).pairView.Sound := by
  unfold serveWake
  refine .ite h (.ite h ?_)
  simp only [beginWake, State.enter_pairView, State.wakeQueue_pairView]
  rwa [State.onStation_pairView, State.moveStation_pairView]

theorem serveTrim_sound : (serveTrim f s).pairView.Sound := by
  unfold serveTrim
  refine .ite h (.ite h (.ite h (.ite h ?_)))
  rwa [State.enter_pairView, s.onStation_pairView]

theorem servePolicy_sound : (servePolicy f s).pairView.Sound := by
  unfold servePolicy
  refine .ite h (.ite h ?_)
  rwa [State.accept_pairView, s.onStation_pairView]

theorem serveCall_sound : (serveCall f s).pairView.Sound := by
  unfold serveCall
  simp only
  split
  · exact h
  · refine .ite h (.ite h (.ite h (.ite h ?_)))
    rwa [beginCall, State.enter_pairView, State.enqueue_pairView]

/-! ### The requests of the trunk, the plans and the streams -/

theorem serveTrunkStop_sound : (serveTrunkStop f s).pairView.Sound := by
  have started : (if s.frameDue then frameStart s else s).pairView.Sound := .ite (frameStart_sound h) h
  unfold serveTrunkStop
  exact .ite (started.of_blocks rfl rfl rfl) h

theorem serveOpenStream_sound : (serveOpenStream f s).pairView.Sound := by
  simp only [serveOpenStream]
  repeat' split
  iterate 5 exact h
  all_goals exact h.of_blocks rfl rfl rfl

theorem serveCloseStream_sound : (serveCloseStream f s).pairView.Sound := by
  simp only [serveCloseStream]
  repeat' split
  iterate 3 exact h
  · exact h.of_blocks rfl rfl rfl
  · exact h.of_blocks (by simp) (by simp) (by simp)

theorem serveDiscard_sound : (serveDiscard f s).pairView.Sound := by
  simp only [serveDiscard]
  refine .ite h ?_
  rw [discardStreams_eq]
  exact h.of_blocks rfl rfl rfl

/-- A request keeps the exchanges and the balances sound, whatever its kind. -/
theorem serve_sound (k : ReqKind) : (k.serve f s).pairView.Sound := by
  cases k with
  | cancel => exact serveCancel_sound h f
  | restart => exact serveRestart_sound h f
  | trunkStop => exact serveTrunkStop_sound h f
  | enroll => exact serveEnroll_sound h f
  | drop => exact serveDrop_sound h f
  | drowse => exact serveDrowse_sound h f
  | wake => exact serveWake_sound h f
  | trim => exact serveTrim_sound h f
  | policy => exact servePolicy_sound h f
  | call => exact serveCall_sound h f
  | openStream => exact serveOpenStream_sound h f
  | closeStream => exact serveCloseStream_sound h f
  | discard => exact serveDiscard_sound h f
  | hello => exact h
  | status => exact h
  | planInfo => exact h
  | grant => exact .ite (h.of_blocks rfl rfl rfl) h
  | trunkSetup => exact .ite h (.ite h (.ite h (h.of_blocks rfl rfl rfl)))
  | trunkStart => exact .ite (h.of_blocks rfl rfl rfl) h
  | clearFault => exact .ite h (h.of_blocks rfl rfl rfl)
  | stationInfo => exact .ite h h
  | commit => exact .ite h (.ite h (.ite h (h.of_blocks rfl rfl rfl)))
  | write =>
    simp only [ReqKind.serve, serveWrite]
    split
    · exact h
    · exact .ite h (h.of_blocks rfl rfl rfl)
  | streamInfo =>
    simp only [ReqKind.serve, serveStreamInfo]
    split
    · exact h
    · rw [State.accept_pairView]
      exact .ite h (h.of_blocks rfl rfl rfl)

end

theorem PairView.reset_sound (reason : StartReason) (baud : BitVec 2) (pending : List Instr) :
    (State.atPowerOn reason baud pending).pairView.Sound where
  trims k a hk := absurd ((TrimScheduler.reset_held k).symm.trans hk) (by simp)
  calls j a hj := by
    obtain ⟨x, hx, -⟩ := Option.map_eq_some_iff.mp hj
    exact absurd ((CallUnit.reset_get j).symm.trans hx) (by simp)
  range a := by
    have zero : (State.atPowerOn reason baud pending).account a = {} := TrimScheduler.reset_get a
    simp [State.pairView, zero]

theorem Event.keeps_sound {s t : State} (event : Event s t) (h : s.pairView.Sound) : t.pairView.Sound := by
  cases event with
  | port p => exact h.of_blocks rfl rfl rfl
  | served k f => exact serve_sound (s := s.popIntake) h f k
  | noticed _ =>
    unfold startNotice
    split
    · exact h.of_blocks (by simp) (by simp) (by simp)
    all_goals exact h.of_blocks rfl rfl rfl
  | reset reason baud => exact PairView.reset_sound ..
  | cutOff => exact h.of_blocks rfl rfl rfl
  | slot n line => exact slotEvent_sound (passSlots_sound h n) n line
  | frameStart _ => exact frameStart_sound h
  | frameEnd _ => exact frameEnd_sound h

/-- Settles O57: the pairs, the exchange-in-flight fields and the balances stay sound through every event. -/
theorem balancesStayInRange : Obligations.BalancesStayInRange := fun _ _ hs h =>
  step_keeps (P := ExchangesAgree)
    (fun _ _ h => exchangesAgree_iff.mpr ((exchangesAgree_iff.mp h).of_blocks rfl rfl rfl))
    (fun event h => exchangesAgree_iff.mpr (event.keeps_sound (exchangesAgree_iff.mp h))) hs h

end Sys2Proof.Machine
end

section

namespace Sys2Proof.Machine

/-! ## The requests of a station's life: ENROLL, DROP, DROWSE, WAKE (R71, R77, R78, R80) -/

theorem goodStation_iff {a : Nat} : goodStation a = true ↔ 1 ≤ a ∧ a ≤ 15 := by simp [goodStation]

section
variable (s : State) (e : Entry)

@[simp] theorem State.enqueue_station (b : Nat) : (s.enqueue e).station b = s.station b := by
  simp only [State.station, State.enqueue_frame]

@[simp] theorem State.enqueue_account (b : Nat) : (s.enqueue e).account b = s.account b := by
  simp only [State.account, State.enqueue_frame]

@[simp] theorem State.enqueue_exchange (j : Nat) : (s.enqueue e).exchange j = s.exchange j := by
  unfold State.enqueue
  split <;> rfl

theorem State.wakeQueue_station (l : List Nat) :
    ({ s with stations := { s.stations with wakeQueue := l } } : State).station = s.station := rfl

@[simp] theorem State.moveStation_account (a b : Nat) (new : StationState) (reason : Reason) :
    (s.moveStation a new reason).account b = s.account b := by
  simp only [State.account, State.moveStation_frame]

@[simp] theorem State.moveStation_exchange (a j : Nat) (new : StationState) (reason : Reason) :
    (s.moveStation a new reason).exchange j = s.exchange j := by
  simp only [State.exchange, State.moveStation_frame]

/-- Outside a full restart an entry joins the tail of the queue (R112). -/
theorem State.enqueue_calls (open_ : s.port.restarting = false) :
    (s.enqueue e).calls = { s.calls with queue := s.calls.queue ++ [e] } := by
  simp [State.enqueue, open_]

end

/-- A request is taken outside a full restart alone (R150). -/
theorem State.takesRequest.not_restarting {s : State} {k : ReqKind} {f : ReqFrame} (h : s.takesRequest k f) :
    s.port.restarting = false := h.1.2.1

/-! ### The notices of a change of state, in their order (R66, R47) -/

theorem NoticeQueue.offerMarker_entries_append (q : NoticeQueue) (id : Nat) (n : Notice) :
    ∃ more, (q.offerMarker id n).entries = q.entries ++ more :=
  (q.offerMarker_entries id n).imp fun _ h => h.1

theorem State.followStation_entries (s : State) (a : Nat) :
    ∃ more, (s.followStation a).notices.entries = s.notices.entries ++ more := by
  unfold State.followStation
  refine foldl_keeps (P := fun t : State => ∃ more, t.notices.entries = s.notices.entries ++ more)
    (fun t id ht => ?_) _ _ ⟨[], by simp⟩
  obtain ⟨more, grown⟩ := ht
  obtain same | offered := State.followStream_notices t a id
  · exact ⟨more, same ▸ grown⟩
  · obtain ⟨marker, added⟩ := t.notices.offerMarker_entries_append id (.data id)
    exact ⟨more ++ marker, by rw [offered, added, grown, List.append_assoc]⟩

/-- Where the queue has room the STATION notice is the first that a change offers (R66). -/
theorem State.moveStation_entries {s : State} (a : Nat) (new : StationState) (reason : Reason)
    (room : s.notices.entries.length < Config.noticeQueue) :
    ∃ more, (s.moveStation a new reason).notices.entries =
      s.notices.entries ++ Notice.station a (s.station a).state new reason s.engine.frameNumber :: more := by
  rw [State.moveStation_eq]
  obtain ⟨more, grown⟩ := State.followStation_entries
    ((s.onStation a (fun r => { r with state := new })).offer
      (.station a (s.station a).state new reason s.engine.frameNumber)) a
  refine ⟨more, grown.trans ?_⟩
  rw [State.offer_notices, State.onStation_notices, NoticeQueue.offer_room _ room]
  simp

theorem stationTold_of_move {s v t : State} {a : Nat} {new : StationState} {reason : Reason}
    (notices : ∀ n ∈ (v.moveStation a new reason).notices.entries, n ∈ t.notices.entries)
    (was : (v.station a).state = (s.station a).state) (number : v.engine.frameNumber = s.engine.frameNumber)
    (room : v.notices.entries.length ≤ s.notices.entries.length + 2) : stationTold a new reason s t := by
  intro few
  have told := v.moveStation_told a new reason (by simp only [Config.noticeQueue]; omega)
  rw [was, number] at told
  exact notices _ told

/-! ### ENROLL (R71, R89) -/

/-- Settles O15: the tests of R71, then the record, the account, the queue and the table as `beginEnroll` leaves them. -/
theorem enrollBeginsChain : Obligations.EnrollBeginsChain := by
  rintro f s a taken rfl
  have run : exec .enroll s = .next (serveEnroll f s.popIntake) := takesRequest_served serveEnroll taken
  refine ⟨fun bad => ?_, fun h1 h15 present sound => ?_, fun h1 h15 gone => ?_⟩
  · have out : goodStation (f.param 0) = false := Bool.eq_false_iff.mpr fun good => bad (goodStation_iff.mp good)
    simp [run, serveEnroll, out, State.popIntake_refuse]
  · simp [run, serveEnroll, goodStation_iff.mpr ⟨h1, h15⟩, present, sound, State.popIntake_refuse]
  · have begun : exec .enroll s = .next (beginEnroll (f.param 0) f s.popIntake) := by
      simp [run, serveEnroll, goodStation_iff.mpr ⟨h1, h15⟩, gone]
    have here : s.port.restarting = false := taken.not_restarting
    generalize f.param 0 = a at *
    refine ⟨_, begun, ?_, ?_, ?_, ?_, fun room => ?_, fun b hb => ?_, ?_, ?_, ?_⟩
    · simp [beginEnroll, h1, h15, Station.beginEnroll]
    · simp [beginEnroll, h1, h15]
    · simp [beginEnroll, State.enqueue_calls, here]
    · simp only [beginEnroll, State.enter_port, State.enqueue_frame, State.setAccount_port, State.onStation_port,
        State.moveStation_frame]
      rfl
    · obtain ⟨more, told⟩ := State.moveStation_entries (s := s.popIntake) a .joining .enroll room
      exact ⟨more, by simpa [beginEnroll] using told⟩
    · simp [beginEnroll, Ne.symm hb]
    all_goals simp [beginEnroll]

/-! ### DROP (R68, R77) -/

section
variable (s : State) (a : Nat) (reason : Reason) (o w : Status)

theorem State.enterAbsent_account (b : Nat) : (s.enterAbsent a reason o w).account b =
    if a = b ∧ 1 ≤ a ∧ a ≤ 15 then { s.account a with quietEnd := none, ackPair := none } else s.account b := by
  have ended : (s.operationEnded a .absent reason o).account = s.account :=
    (s.operationEnded_frame a .absent reason o).2.2.2.2.2.1
  have cleared : ∀ t : State, (t.clearStation a).account b = (t.endQuiet a).account b := fun _ => rfl
  rw [State.enterAbsent_eq, State.disposeWork_account, cleared, State.endQuiet, State.onAccount_account, ended]

/-- Of the streams and the notices entry to ABSENT is the change of state alone. -/
theorem State.enterAbsent_streams :
    (s.enterAbsent a reason o w).streams = (s.moveStation a .absent reason).streams := by
  simp [State.enterAbsent]

theorem State.enterAbsent_notices :
    (s.enterAbsent a reason o w).notices = (s.moveStation a .absent reason).notices := by
  simp [State.enterAbsent]

end

/-- The take of a frame leaves a station's work as it is (R150). -/
theorem OwnsWork.popIntake {s : State} {a : Nat} (h : OwnsWork s a) : OwnsWork s.popIntake a :=
  ⟨h.differ, h.operation, h.calls, h.apart⟩

/-- Settles O16: the tests of R77, then entry to ABSENT, whose replies are those of the work (R68), and the DROP's own. -/
theorem dropMakesAbsent : Obligations.DropMakesAbsent := by
  rintro f s a taken rfl
  have run : exec .drop s = .next (serveDrop f s.popIntake) := takesRequest_served serveDrop taken
  refine ⟨fun bad => ?_, fun h1 h15 gone => ?_, fun h1 h15 present => ?_⟩
  · have out : goodStation (f.param 0) = false := Bool.eq_false_iff.mpr fun good => bad (goodStation_iff.mp good)
    simp [run, serveDrop, out, State.popIntake_refuse]
  · simp [run, serveDrop, goodStation_iff.mpr ⟨h1, h15⟩, gone, State.popIntake_refuse]
  · have good := goodStation_iff.mpr ⟨h1, h15⟩
    have dropped : exec .drop s = .next ((s.popIntake.enterAbsent (f.param 0) .dropped .dropped .dropped).accept .drop f
        (.drop (f.param 0) (s.station (f.param 0)).state)) := by
      simp [run, serveDrop, good, present]
    generalize f.param 0 = a at *
    have record := s.popIntake.enterAbsent_station a a .dropped .dropped .dropped
    rw [if_pos ⟨rfl, h1, h15⟩] at record
    have notices := s.popIntake.enterAbsent_notices a .dropped .dropped .dropped
    have streams := s.popIntake.enterAbsent_streams a .dropped .dropped .dropped
    refine ⟨_, dropped, ?_⟩
    rw [State.accept_station, record, State.accept_account, State.accept_calls, State.accept_stations, State.accept_port,
      HostPort.replyNow]
    refine ⟨rfl, rfl, rfl, rfl, rfl, rfl, rfl, rfl, rfl, rfl, rfl, rfl, ?_, fun e he => ?_, ?_, ?_,
      fun hp hx hw => ?_, ?_, ?_, fun b hb => ⟨?_, ?_⟩, ?_, ?_, ?_⟩
    · rw [State.enterAbsent_account, if_pos ⟨rfl, h1, h15⟩]
      rfl
    · rw [State.enterAbsent_queue] at he
      simpa using (List.mem_filter.mp he).2
    · simp
    · obtain ⟨more, grown⟩ := (s.popIntake.enterAbsent_edits a .dropped .dropped .dropped).grows.replies
      exact ⟨more, by rw [← grown]; rfl⟩
    · have owns := (ownsWork_of_invariants hp hw taken.1.1 (mem_addresses.mpr ⟨h1, h15⟩)).popIntake
      rw [(State.enterAbsent_answered owns .dropped .dropped .dropped).replies]
      rfl
    · exact stationTold_of_move (v := s.popIntake) (fun n hn => by rwa [State.accept_notices, notices]) rfl rfl (by simp)
    · exact streamsFollow_of_move (v := s.popIntake) good streams notices (by rw [State.accept_station, record]) rfl
        (by simp)
    · rw [State.accept_station, State.enterAbsent_station, if_neg (fun h => hb h.1.symm), State.popIntake_station]
    · rw [State.accept_account, State.enterAbsent_account, if_neg (fun h => hb h.1.symm), State.popIntake_account]
    all_goals simp

/-! ### DROWSE and WAKE (R78, R80) -/

theorem Station.restBusy_iff (r : Station) :
    r.restBusy = true ↔ r.operation.map (·.1) = some .drowse ∨ r.hostTrim = true := by
  simp [Station.restBusy]

/-- An accepted DROWSE writes the station's operation, the queue and the table alone (R78). -/
theorem beginDrowse_eq {s : State} (a : Nat) (f : ReqFrame) (open_ : s.port.restarting = false) :
    beginDrowse a f s.popIntake = { s.entered .drowse f (some a) .queued none with
      stations := s.stations.set a { s.station a with operation := some (.drowse, f.tag) }
      calls := { s.calls with queue := s.calls.queue ++
        [{ tag := f.tag, owner := .drowse, station := a, order := .drowse, attr := 0, value := 0 }] } } := by
  have same : ((s.popIntake.onStation a fun r => { r with operation := some (.drowse, f.tag) })).port.restarting =
      false := open_
  simp only [beginDrowse, State.enqueue, same]
  rfl

theorem drowse_taken {s : State} {f : ReqFrame} {a : Nat} (ha : f.param 0 = a) (taken : s.takesRequest .drowse f) :
    exec .drowse s = .next (
      if ¬ (1 ≤ a ∧ a ≤ 15) then s.refused .drowse f .badParam
      else if (s.station a).state ≠ .active then s.refused .drowse f .state
      else if (s.station a).operation.map (·.1) = some .drowse ∨ (s.station a).hostTrim = true then
        s.refused .drowse f .inProgress
      else { s.entered .drowse f (some a) .queued none with
        stations := s.stations.set a { s.station a with operation := some (.drowse, f.tag) }
        calls := { s.calls with queue := s.calls.queue ++
          [{ tag := f.tag, owner := .drowse, station := a, order := .drowse, attr := 0, value := 0 }] } }) := by
  have run : exec .drowse s = .next (serveDrowse f s.popIntake) := takesRequest_served serveDrowse taken
  rw [run, ← beginDrowse_eq a f taken.not_restarting]
  simp only [serveDrowse, ha, ← goodStation_iff, ← Station.restBusy_iff, State.popIntake_refuse, State.popIntake_station,
    Bool.not_eq_true, Bool.not_eq_eq_eq_not, Bool.not_true]

/-- Settles O17: the tests of R78 and R80; a WAKE is a change of state, a record and a place in the wake queue. -/
theorem drowseAndWakeTakeEffect : Obligations.DrowseAndWakeTakeEffect := by
  rintro f s a ha
  refine ⟨drowse_taken ha, fun taken => ?_⟩
  subst ha
  have run : exec .wake s = .next (serveWake f s.popIntake) := takesRequest_served serveWake taken
  refine ⟨fun bad => ?_, fun h1 h15 other => ?_, fun h1 h15 drowsy => ?_⟩
  · have out : goodStation (f.param 0) = false := Bool.eq_false_iff.mpr fun good => bad (goodStation_iff.mp good)
    simp [run, serveWake, out, State.popIntake_refuse]
  · simp [run, serveWake, goodStation_iff.mpr ⟨h1, h15⟩, other, State.popIntake_refuse]
  · have good := goodStation_iff.mpr ⟨h1, h15⟩
    have begun : exec .wake s = .next (beginWake (f.param 0) f s.popIntake) := by
      simp [run, serveWake, good, drowsy]
    generalize f.param 0 = a at *
    have station : ∀ b, (beginWake a f s.popIntake).station b =
        if a = b then { s.station a with state := .waking, operation := some (.wake, f.tag) } else s.station b := fun b => by
      simp only [beginWake, State.enter_station, State.wakeQueue_station]
      by_cases hab : a = b
      · subst hab; simp [h1, h15]
      · simp [hab]
    have streams : (beginWake a f s.popIntake).streams = (s.popIntake.moveStation a .waking .wake).streams := by
      simp [beginWake]
    have notices : (beginWake a f s.popIntake).notices = (s.popIntake.moveStation a .waking .wake).notices := by
      simp [beginWake]
    refine ⟨_, begun, by rw [station, if_pos rfl], ?_, ?_, fun b hb => by rw [station, if_neg hb.symm], ?_, ?_,
      fun quiet => ?_, ?_, ?_, ?_, ?_, ?_⟩
    · simp [beginWake]
    · simp only [beginWake, State.enter_port, State.onStation_port, State.moveStation_frame]
      rfl
    · exact stationTold_of_move (v := s.popIntake) (fun n hn => by rwa [notices]) rfl rfl (Nat.le_add_right _ 2)
    · exact streamsFollow_of_move (v := s.popIntake) good streams notices (by rw [station, if_pos rfl]) rfl (Nat.le_add_right _ 2)
    · rw [notices, s.popIntake.moveStation_notices_of_none_live a .waking .wake good (by decide) quiet,
        State.popIntake_station, drowsy]
      rfl
    all_goals simp [beginWake]

end Sys2Proof.Machine
end

section

namespace Sys2Proof.Machine

/-! ## The end of a wake latency (R81, R112) -/

/-- The PROBE entry of a WAKE (R81). -/
def wakeProbe (a : Nat) (tag : Byte) : Entry :=
  { tag := tag, owner := .wake, station := a, order := .probe, attr := 240, value := 0 }

/-- A wake of station a with a tag is over: no countdown, the PROBE queued, the phase QUEUED. -/
structure Probing (a : Nat) (tag : Byte) (s : State) : Prop where
  countdown : (s.station a).wakeCountdown = none
  queued : wakeProbe a tag ∈ s.calls.queue
  phase : ∀ e ∈ s.port.table, e.tag = tag → e.phase = .queued

theorem queueProbe_station (a b : Nat) (s : State) : (queueProbe a s).station b = s.station b := by
  unfold queueProbe
  split <;> simp

/-- The tick of one station leaves the others' records (R81). -/
theorem wakeTick_other (s : State) {a b : Nat} (h : b ≠ a) : (wakeTick s b).station a = s.station a := by
  unfold wakeTick
  repeat' split
  · rfl
  · rw [queueProbe_station]
    simp [h]
  · simp [h]

theorem wakeTick_queue (s : State) (b : Nat) {e : Entry} (h : e ∈ s.calls.queue) : e ∈ (wakeTick s b).calls.queue := by
  have enqueued : ∀ (t : State) x, e ∈ t.calls.queue → e ∈ (t.enqueue x).calls.queue := fun t x ht => by
    unfold State.enqueue
    split
    · exact ht
    · exact List.mem_append_left _ ht
  unfold wakeTick queueProbe
  repeat' split
  · exact h
  · exact h
  · exact enqueued _ _ h
  · exact h

theorem HostPort.setPhase_queued {p : HostPort} {tag : Byte} (other : Byte)
    (h : ∀ e ∈ p.table, e.tag = tag → e.phase = .queued) :
    ∀ e ∈ (p.setPhase other .queued).table, e.tag = tag → e.phase = .queued := by
  intro e he ht
  obtain ⟨o, ho, rfl⟩ := List.mem_map.mp he
  split at ht
  · next same => rw [if_pos same]
  · next ne => rw [if_neg ne]; exact h o ho ht

theorem HostPort.setPhase_self (p : HostPort) (tag : Byte) (phase : Phase) :
    ∀ e ∈ (p.setPhase tag phase).table, e.tag = tag → e.phase = phase := by
  intro e he ht
  obtain ⟨o, ho, rfl⟩ := List.mem_map.mp he
  split at ht
  · next same => rw [if_pos same]
  · next ne => exact absurd ht ne

/-- Once over, a wake stays so while other countdowns fall (R81). -/
theorem Probing.tick {a b : Nat} {tag : Byte} {s : State} (h : Probing a tag s) (ne : b ≠ a) :
    Probing a tag (wakeTick s b) where
  countdown := by rw [wakeTick_other s ne]; exact h.countdown
  queued := wakeTick_queue s b h.queued
  phase := by
    obtain same | ⟨other, set⟩ := wakeTick_port s b
    · rw [same]; exact h.phase
    · rw [set]; exact HostPort.setPhase_queued other h.phase

/-- The tick at which a countdown of 1 falls (R81). -/
theorem wakeTick_last {s : State} {a : Nat} {tag : Byte} (ha : a ∈ addresses)
    (last : (s.station a).wakeCountdown = some 1) (wake : (s.station a).operation = some (.wake, tag))
    (open_ : s.port.restarting = false) : Probing a tag (wakeTick s a) := by
  have ticked : wakeTick s a = ((s.onStation a fun r => { r with wakeCountdown := none }).enqueue
      (wakeProbe a tag)).setPhase tag .queued := by
    simp [wakeTick, last, queueProbe, mem_addresses.mp ha, wake, wakeProbe]
  refine ⟨?_, ?_, ?_⟩ <;> rw [ticked]
  · simp [mem_addresses.mp ha]
  · simp [State.enqueue_calls, open_]
  · simpa using HostPort.setPhase_self s.port tag .queued

/-- The ticks of one frame end: those before a station's own leave what it needs, those after keep its wake over. -/
theorem wakeTicks_last {a : Nat} {tag : Byte} (ha : a ∈ addresses) : ∀ (l : List Nat) {s : State}, a ∈ l → l.Nodup →
    (s.station a).wakeCountdown = some 1 → (s.station a).operation = some (.wake, tag) →
    s.port.restarting = false → Probing a tag (l.foldl wakeTick s)
  | [], _, mem, _, _, _, _ => absurd mem (by simp)
  | b :: l, s, mem, nodup, last, wake, open_ => by
    obtain ⟨fresh, nodup⟩ := List.nodup_cons.mp nodup
    rw [List.foldl_cons]
    by_cases hba : b = a
    · subst hba
      exact foldl_keeps_mem (P := Probing b tag) l _ (fun t c hc ht => ht.tick (by rintro rfl; exact fresh hc))
        (wakeTick_last ha last wake open_)
    · have kept := wakeTick_other s hba
      refine wakeTicks_last ha l ((List.mem_cons.mp mem).resolve_left (Ne.symm hba)) nodup (kept ▸ last) (kept ▸ wake) ?_
      obtain same | ⟨other, set⟩ := wakeTick_port s b
      · rwa [same]
      · rwa [set]

/-- In RUNNING below the last frame number a frame end does nothing beside (R3, R4). -/
theorem frameEnd_running {s : State} (running : s.engine.trunk = .running)
    (below : s.engine.frameNumber < Config.lastFrame) : frameEnd s = closeFrame s := by
  have engine := closeFrame_engine s
  have trunk : (closeFrame s).engine.trunk = .running := by rw [engine]; exact running
  have number : (closeFrame s).engine.frameNumber ≠ Config.lastFrame := by rw [engine]; exact Nat.ne_of_lt below
  simp only [frameEnd, settleTrunk, trunk, number, if_false]

/-- Settles O40: the frame end is the ticks of the closed frame, the station's own among them. -/
theorem wakeLatencyEndQueuesProbe : Obligations.WakeLatencyEndQueuesProbe := by
  rintro s u a tag low frame running below h1 h15 last rfl passed wake open_
  have run : exec (.wakeLatencyEnd a) s = .next (frameEnd s) := by
    show execWakeLatencyEnd a s = _
    simp [execWakeLatencyEnd, forStation, goodStation_iff.mpr ⟨h1, h15⟩, low, frame, last]
  have mem := mem_addresses.mpr ⟨h1, h15⟩
  obtain ⟨countdown, queued, phase⟩ : Probing a tag (frameEnd s) := by
    rw [frameEnd_running running below, closeFrame_eq]
    exact wakeTicks_last mem addresses mem addresses_nodup passed wake open_
  exact ⟨_, run, exec_frameEnd low frame, countdown, queued, phase⟩

end Sys2Proof.Machine
end

section

namespace Sys2Proof.Machine

/-! ## The up slot of a command pair (R16, R18, R117 to R121) -/

/-! ### The classes of its words (R16) -/

section
variable {a : Nat} {w : Word}

theorem classify_order_done (h : isReply a 1 w) : classify a .replyOrWait (some w) =
    .valid (.done (payloadAttr (wordPayload w)) (payloadValue (wordPayload w))) := by
  obtain ⟨even, address, kind, status⟩ := h
  simp [classify, even, address, answerOf, answerOf.replyOf, kind, status]

theorem classify_order_refused (h : isReply a 2 w) : classify a .replyOrWait (some w) =
    .valid (.refused (payloadAttr (wordPayload w)) (payloadValue (wordPayload w))) := by
  obtain ⟨even, address, kind, status⟩ := h
  simp [classify, even, address, answerOf, answerOf.replyOf, kind, status]

theorem classify_order_unknownAttr (h : isReply a 3 w) : classify a .replyOrWait (some w) = .valid .unknownAttr := by
  obtain ⟨even, address, kind, status⟩ := h
  simp [classify, even, address, answerOf, answerOf.replyOf, kind, status]

theorem classify_order_wait (h : isWait a w) : classify a .replyOrWait (some w) = .valid .wait := by
  obtain ⟨even, address, kind⟩ := h
  simp [classify, even, address, answerOf, kind]

theorem classify_order_foreign (h : isForeign a w) : classify a .replyOrWait (some w) = .foreign w := by
  obtain ⟨even, noWait, noReply⟩ := h
  by_cases address : wordAddress w = a
  · have kind : ¬ wordKind w = 6#3 := fun kind => noWait ⟨even, address, kind⟩
    have same : classify a .replyOrWait (some w) = classify a .reply (some w) := by
      simp [classify, even, address, answerOf, kind]
    rw [same]
    exact classify_foreign even (noReply 1 (by decide) (by decide)) (noReply 2 (by decide) (by decide))
      (noReply 3 (by decide) (by decide))
  · simp [classify, even, address]

end

/-! ### What stays within one station -/

/-- Between s and t no other record than that of station a changed, and no command pair took up an exchange. -/
structure Within (a : Nat) (s t : State) : Prop where
  others : ∀ b, b ≠ a → t.station b = s.station b
  freed : ∀ j, s.exchange j = none → t.exchange j = none

namespace Within

variable {a : Nat} {s t u : State}

theorem refl : Within a s s := ⟨fun _ _ => rfl, fun _ => id⟩

theorem trans (h : Within a s t) (k : Within a t u) : Within a s u :=
  ⟨fun b hb => (k.others b hb).trans (h.others b hb), fun j hj => k.freed j (h.freed j hj)⟩

theorem ite {p : Prop} {_ : Decidable p} (ht : Within a s t) (hu : Within a s u) : Within a s (if p then t else u) := by
  split
  · exact ht
  · exact hu

theorem of_blocks (stations : t.stations = s.stations) (calls : t.calls = s.calls) : Within a s t :=
  ⟨fun b _ => by simp only [State.station, stations], fun j hj => by simpa only [State.exchange, calls] using hj⟩

theorem onStation (f : Station → Station) : Within a s (s.onStation a f) :=
  ⟨fun b hb => by simp [hb.symm], fun j hj => by simpa using hj⟩

theorem answer (tag : Byte) (st : Status) (b : ReplyBody) : Within a s (s.answer tag st b) := of_blocks rfl rfl

theorem move (new : StationState) (reason : Reason) : Within a s (s.moveStation a new reason) :=
  ⟨fun b hb => by simp [hb.symm], fun j hj => by simpa using hj⟩

theorem operation (st : Status) (b : ReplyBody) : Within a s (s.endOperation a st b) :=
  ⟨fun b hb => by simp [hb.symm], fun j hj => by simpa only [State.exchange, State.endOperation_frame] using hj⟩

theorem hostTrim (st : Status) (b : ReplyBody) : Within a s (s.endHostTrim a st b) :=
  ⟨fun b hb => by simp [hb.symm], fun j hj => by simpa using hj⟩

theorem absent (reason : Reason) (o w : Status) : Within a s (s.enterAbsent a reason o w) :=
  ⟨fun b hb => by rw [State.enterAbsent_station, if_neg fun h => hb h.1.symm], fun j hj => by simp [hj]⟩

theorem faulted (reason : Reason) (o w : Status) : Within a s (s.enterFaulted a reason o w) :=
  ⟨fun b hb => by rw [State.enterFaulted_station, if_neg fun h => hb h.1.symm], fun j hj => by simp [hj]⟩

theorem limit (origin : StationState) : Within a s (s.missLimit a origin) := by
  unfold State.missLimit
  repeat' split
  · exact .absent ..
  · exact .faulted ..
  · exact .faulted ..
  all_goals exact .refl

theorem pair (j : Nat) : Within a s (s.freePair j a) :=
  ⟨fun b hb => by simp [hb.symm], fun i hi => by simp [hi]⟩

end Within

section
variable (e : Entry) (s : State)

theorem enrollFails_within (a : Nat) (st : Status) : Within a s (enrollFails a st s) := by
  unfold enrollFails
  exact .ite (.absent ..) .refl

theorem enrollNext_within (step : EnrollStep) (attr : Nat) : Within e.station s (enrollNext e step attr s) :=
  (Within.onStation fun r => { r with step := some step }).trans
    ⟨fun b _ => by simp [enrollNext], fun j hj => by simpa [enrollNext] using hj⟩

theorem enrollCompletes_within (a : Nat) : Within a s (enrollCompletes a s) := by
  simp only [enrollCompletes]
  generalize ReplyBody.enroll _ _ _ _ _ = body
  have answered := (Within.move (a := a) (s := s) .active .enrolled).trans (.operation .ok body)
  exact (answered.trans (.onStation fun r => { r with step := none })).trans
    (.of_blocks (State.onAccount_stations ..) (State.onAccount_calls ..))

theorem enrollDone_within (echo value : Nat) : Within e.station s (enrollDone e echo value s) := by
  have bad := enrollFails_within s e.station .badStation
  simp only [enrollDone]
  split
  · exact .refl
  · exact enrollNext_within ..
  iterate 3 exact .ite ((Within.onStation _).trans (enrollNext_within ..)) bad
  · exact .ite ((Within.onStation _).trans (enrollCompletes_within ..)) bad

/-- The end of an exchange is the affair of its station (R122). -/
theorem handOff_within (r : Ending) : Within e.station s (handOff e r s) := by
  unfold handOff
  split
  · exact .of_blocks (by simp) (by simp)
  · unfold enrollEnds
    refine .ite ?_ .refl
    split
    · exact enrollDone_within ..
    all_goals exact enrollFails_within ..
  · simp only [drowseEnds]
    split
    · exact .ite (((Within.move ..).trans (.operation ..)).trans (.hostTrim ..)) .refl
    all_goals exact .operation ..
  · simp only [probeEnds]
    refine .ite ?_ .refl
    split
    · exact .ite ((Within.move ..).trans (.operation ..)) (.faulted ..)
    all_goals exact .faulted ..

/-- No record but that of the exchange's station changes at an up slot (R117 to R121). -/
theorem commandAnswer_others (j slot : Nat) (x : Exchange) (c : UpClass) {b : Nat} (hb : b ≠ x.entry.station) :
    (commandAnswer j slot x c s).station b = s.station b := by
  have fault : ∀ (t : State) kind raw, (t.reportFault x.entry.station kind slot raw).station b = t.station b :=
    fun t kind raw => by simp only [State.station, State.reportFault_frame]
  have missed : ∀ (t : State), (t.reportMiss x.entry.station).station b = t.station b :=
    fun t => (Within.onStation _).others b hb
  have valid : (s.reportValid x.entry.station).station b = s.station b := (Within.onStation _).others b hb
  have ended : ∀ (t : State) r, (handOff x.entry r (t.freePair j x.entry.station)).station b = t.station b :=
    fun t r => ((Within.pair j).trans (handOff_within ..)).others b hb
  have miss : ∀ (y : Exchange) (t : State), y.entry = x.entry →
      (attemptMiss j slot y t).station b = t.station b := by
    intro y t entry
    simp only [attemptMiss, entry]
    split
    · rw [Within.limit _ |>.others b hb]
      split
      · rw [State.setExchange_station, missed]
      · rw [ended, fault, missed]
    · split
      · rw [State.setExchange_station, missed]
      · rw [ended, fault, missed]
  unfold commandAnswer
  split
  · simp only [exchangeSilent]
    split
    · rfl
    · exact miss _ s rfl
  · exact (miss x _ rfl).trans (fault ..)
  · exact (miss x _ rfl).trans (fault ..)
  iterate 3 exact (ended ..).trans valid
  · simp only [exchangeWait]
    split
    · exact valid
    · exact (ended ..).trans valid
  · rfl

end

end Sys2Proof.Machine
end

section

namespace Sys2Proof.Machine

/-! ## The end of an attempt, before its owner acts (R117 to R122) -/

/-- The up slot of a command pair that holds an exchange hands the class of the line to the Call Unit (R18). -/
theorem exec_commandUpSlot {s u : State} {j a slot : Nat} {x : Exchange} (line : Option Word)
    (h : s.upSlotComes u j a slot x) : exec (.commandUpSlot j line) s =
      .next (commandAnswer j slot x (classify a .replyOrWait line) (beginSlot slot u)) := by
  obtain ⟨j1, j4, -, -, rfl, reach, rfl, role, plan, held, rfl⟩ := h
  have row := slotRow_comes (isRow := fun t => t.plans.active.role (commandUpIndex s j) == .commandUp j) line reach
    (beq_iff_eq.mpr plan)
  refine (forPair_of j1 j4 _).trans (row.trans ?_)
  have held' : (beginSlot (commandUpIndex s j) (passSlots (commandUpIndex s j) s)).exchange j = some x := held
  simp only [commandUpIndex] at role held' ⊢
  simp only [slotEvent, role, serveSlot, held']

/-- While the slots pass RSTN stays released. -/
theorem State.upSlotComes.released {s u : State} {j a slot : Nat} {x : Exchange} (h : s.upSlotComes u j a slot x) :
    u.port.rstnLow = false := by
  obtain ⟨-, -, -, -, -, reach, rfl, -⟩ := h
  rw [(passSlots_wakes ..).low]
  exact reach.1

theorem State.upSlotComes.good {s u : State} {j a slot : Nat} {x : Exchange} (h : s.upSlotComes u j a slot x) :
    1 ≤ a ∧ a ≤ 15 := by
  obtain ⟨-, -, h1, h15, -⟩ := h
  exact ⟨h1, h15⟩

theorem State.upSlotComes.entry_station {s u : State} {j a slot : Nat} {x : Exchange}
    (h : s.upSlotComes u j a slot x) : x.entry.station = a := by
  obtain ⟨-, -, -, -, -, -, -, -, -, -, station⟩ := h
  exact station

/-- v is u with the attempt of pair j with station a ended and its miss count at m; the exchange is freed or goes on, and
two faults at most were reported. -/
structure AttemptOver (j a m : Nat) (u v : State) : Prop where
  number : v.engine.frameNumber = u.engine.frameNumber
  queue : v.calls.queue = u.calls.queue
  port : v.port = u.port
  account : v.account a = u.account a
  station : v.station a = { u.station a with misses := m, exchange := (v.station a).exchange }
  flight : (v.station a).exchange = none ∧ v.exchange j = none ∨
    (v.station a).exchange = (u.station a).exchange ∧ (v.exchange j).map (·.entry) = (u.exchange j).map (·.entry)
  room : v.notices.entries.length ≤ u.notices.entries.length + 2

/-- The exchange of pair j with station a is no longer held. -/
structure Freed (j a : Nat) (v : State) : Prop where
  field : (v.station a).exchange = none
  pair : v.exchange j = none

/-- What the end by a REPLY or a WAIT leaves for the owner (R117, R118). -/
def replyTaken (j a slot : Nat) (u : State) : State := ((beginSlot slot u).reportValid a).freePair j a

section
variable {u : State} {j a slot : Nat}

theorem replyTaken_freed (h1 : 1 ≤ a) (h15 : a ≤ 15) : Freed j a (replyTaken j a slot u) where
  field := by simp [replyTaken, h1, h15]
  pair := by simp [replyTaken]

theorem replyTaken_over (h1 : 1 ≤ a) (h15 : a ≤ 15) : AttemptOver j a 0 u (replyTaken j a slot u) where
  number := by simp [replyTaken, beginSlot]
  queue := by simp [replyTaken, beginSlot]
  port := by simp [replyTaken, beginSlot]
  account := by simp [replyTaken, State.account, beginSlot]
  station := by
    have here : (beginSlot slot u).station a = u.station a := rfl
    simp [replyTaken, State.reportValid, h1, h15, here]
  flight := .inl ⟨(replyTaken_freed h1 h15).field, (replyTaken_freed h1 h15).pair⟩
  room := by simp [replyTaken, beginSlot]

theorem replyTaken_faults : (replyTaken j a slot u).faults = u.faults := by simp [replyTaken, beginSlot]

end

/-! ### A miss (R70, R119 to R121) -/

/-- s is u when the slot's word has been looked at: one fault at most was reported. -/
structure WordTaken (u s : State) : Prop where
  engine : s.engine.frameNumber = u.engine.frameNumber ∧ s.engine.setup = u.engine.setup
  stations : s.stations = u.stations
  trims : s.trims = u.trims
  calls : s.calls = u.calls
  port : s.port = u.port
  room : s.notices.entries.length ≤ u.notices.entries.length + 1

theorem State.reportFault_room (s : State) (a : Nat) (kind : FaultKind) (slot : Nat) (raw : Option Word) :
    (s.reportFault a kind slot raw).notices.entries.length ≤ s.notices.entries.length + 1 := by
  rw [State.reportFault_notices]
  cases (s.faultCell a).record with
  | none => exact NoticeQueue.offer_length ..
  | some _ => exact Nat.le_succ _

theorem wordTaken_silent (slot : Nat) (u : State) : WordTaken u (beginSlot slot u) :=
  ⟨⟨rfl, rfl⟩, rfl, rfl, rfl, rfl, Nat.le_succ _⟩

theorem wordTaken_fault (u : State) (slot a : Nat) (kind : FaultKind) (raw : Option Word) :
    WordTaken u ((beginSlot slot u).reportFault a kind slot raw) where
  engine := by simp [beginSlot]
  stations := by simp [beginSlot]
  trims := by simp [beginSlot]
  calls := by simp [beginSlot]
  port := by simp [beginSlot]
  room := State.reportFault_room ..

/-- A station that has left the state in which the limit was reached stays where it is (R67, R121). -/
theorem State.missLimit_of_left {s : State} {a : Nat} {origin : StationState} (left : (s.station a).state ≠ origin) :
    s.missLimit a origin = s := if_neg left

section
variable {u s : State} {j a slot : Nat} {x y : Exchange}

/-- A miss that another attempt follows (R121). -/
theorem WordTaken.again (h : WordTaken u s) (h1 : 1 ≤ a) (h15 : a ≤ 15) (j1 : 1 ≤ j) (j4 : j ≤ 4)
    (held : u.exchange j = some x) (entry : y.entry = x.entry) :
    AttemptOver j a ((u.station a).misses + 1) u ((s.reportMiss a).setExchange j (some y)) where
  number := by simp [h.engine.1]
  queue := by simp [h.calls]
  port := by simp [h.port]
  account := by simp [State.account, h.trims]
  station := by
    have here : s.station a = u.station a := by simp only [State.station, h.stations]
    simp [State.reportMiss, h1, h15, here]
  flight := .inr (by
    have here : s.station a = u.station a := by simp only [State.station, h.stations]
    simp [State.reportMiss, h1, h15, here, j1, j4, held, entry])
  room := by simpa using Nat.le_succ_of_le h.room

/-- What the last miss of an exchange leaves for its owner (R121). -/
def lastMissed (j a slot : Nat) (s : State) : State := ((s.reportMiss a).reportFault a .noReply slot none).freePair j a

theorem lastMissed_freed (h1 : 1 ≤ a) (h15 : a ≤ 15) : Freed j a (lastMissed j a slot s) where
  field := by simp [lastMissed, h1, h15]
  pair := by simp [lastMissed]

theorem WordTaken.last (h : WordTaken u s) (h1 : 1 ≤ a) (h15 : a ≤ 15) :
    AttemptOver j a ((u.station a).misses + 1) u (lastMissed j a slot s) where
  number := by simp [lastMissed, h.engine.1]
  queue := by simp [lastMissed, h.calls]
  port := by simp [lastMissed, h.port]
  account := by simp [lastMissed, State.account, h.trims]
  station := by
    have here : s.station a = u.station a := by simp only [State.station, h.stations]
    have missed : ((s.reportMiss a).reportFault a .noReply slot none).station a = (s.reportMiss a).station a := by
      simp only [State.station, State.reportFault_frame]
    rw [lastMissed, State.freePair_station, missed]
    simp [State.reportMiss, h1, h15, here]
  flight := .inl ⟨(lastMissed_freed h1 h15).field, (lastMissed_freed h1 h15).pair⟩
  room := by
    have fault := (s.reportMiss a).reportFault_room a .noReply slot none
    have room := h.room
    rw [(s.reportMiss_frame a).2.2.2.2.2.2.1] at fault
    rw [lastMissed, (State.freePair_frame ..).2.2.2.2.2.1]
    omega

/-- An attempt that ends as a miss, and the state the miss limit is claimed from (R121). -/
theorem attemptMiss_eq (station : x.entry.station = a) (s : State) :
    attemptMiss j slot x s = if (s.reportMiss a).atMissLimit a then
      State.missLimit a ((s.reportMiss a).station a).state
        (if x.attempt < 3 then (s.reportMiss a).setExchange j (some { x with
            attempt := x.attempt + 1, framesLeft := (s.reportMiss a).engine.setup.window, sendDue := true })
          else handOff x.entry .noReply (lastMissed j a slot s))
      else if x.attempt < 3 then (s.reportMiss a).setExchange j (some { x with
            attempt := x.attempt + 1, framesLeft := (s.reportMiss a).engine.setup.window, sendDue := true })
          else handOff x.entry .noReply (lastMissed j a slot s) := by
  subst station
  rfl

theorem WordTaken.missed (h : WordTaken u s) (h1 : 1 ≤ a) (h15 : a ≤ 15) :
    ((s.reportMiss a).station a).state = (u.station a).state ∧
    ((s.reportMiss a).atMissLimit a = true ↔ ¬ u.belowMissLimit a) := by
  have here : s.station a = u.station a := by simp only [State.station, h.stations]
  have missed : (s.reportMiss a).station a = { u.station a with misses := (u.station a).misses + 1 } := by
    simp [State.reportMiss, h1, h15, here]
  refine ⟨by rw [missed], ?_⟩
  simp [State.atMissLimit, State.belowMissLimit, missed, h.engine.2]

/-- Every miss is one attempt's, after the fault of its word (R119 to R121). -/
theorem commandAnswer_misses {line : Option Word} (station : x.entry.station = a) (h : x.misses a line) :
    ∃ s y, WordTaken u s ∧ y.entry = x.entry ∧ y.attempt = x.attempt ∧
      commandAnswer j slot x (classify a .replyOrWait line) (beginSlot slot u) = attemptMiss j slot y s := by
  subst station
  obtain ⟨rfl, last⟩ | ⟨w, rfl, odd | foreign⟩ := h
  · exact ⟨_, { x with framesLeft := 0 }, wordTaken_silent slot u, rfl, rfl, by
      simp [commandAnswer, classify, exchangeSilent, last]⟩
  · exact ⟨_, x, wordTaken_fault u slot x.entry.station .check (some w), rfl, rfl, by
      rw [classify_odd _ odd]
      rfl⟩
  · exact ⟨_, x, wordTaken_fault u slot x.entry.station .foreign (some w), rfl, rfl, by
      rw [classify_order_foreign foreign]
      rfl⟩

end

/-! ### What the Call Unit makes of a line -/

section
variable {s u : State} {j a slot : Nat} {x : Exchange} {line : Option Word}

/-- A DONE ends the exchange (R117). -/
theorem commandAnswer_done {w : Word} (h : s.upSlotComes u j a slot x) (reply : isReply a 1 w) :
    commandAnswer j slot x (classify a .replyOrWait (some w)) (beginSlot slot u) =
      handOff x.entry (.done (payloadAttr (wordPayload w)) (payloadValue (wordPayload w))) (replyTaken j a slot u) := by
  obtain ⟨-, -, -, -, -, -, -, -, -, -, rfl⟩ := h
  rw [classify_order_done reply]
  rfl

/-- A REPLY ends the exchange, whatever its status (R117). -/
theorem commandAnswer_reply {status : Nat} {w : Word} (up : s.upSlotComes u j a slot x) (reply : isReply a status w)
    (low : 1 ≤ status) (high : status ≤ 3) :
    ∃ r, commandAnswer j slot x (classify a .replyOrWait (some w)) (beginSlot slot u) =
        handOff x.entry r (replyTaken j a slot u) ∧
      (status = 1 → r = .done (payloadAttr (wordPayload w)) (payloadValue (wordPayload w))) ∧
      (status ≠ 1 → ∀ echo value, r ≠ .done echo value) := by
  obtain rfl | rfl | rfl : status = 1 ∨ status = 2 ∨ status = 3 := by omega
  · exact ⟨_, commandAnswer_done up reply, fun _ => rfl, fun other => absurd rfl other⟩
  · refine ⟨.refused (payloadValue (wordPayload w)), ?_, fun one => absurd one (by decide), fun _ => by simp⟩
    rw [classify_order_refused reply, ← up.entry_station]
    rfl
  · refine ⟨.unknownAttr, ?_, fun one => absurd one (by decide), fun _ => by simp⟩
    rw [classify_order_unknownAttr reply, ← up.entry_station]
    rfl

/-- In t exchange e of pair j with station a has failed: v goes to its owner with outcome r, and then the miss limit may
be claimed (R117, R118, R121). -/
structure FailedTo (j a : Nat) (e : Entry) (u t : State) (r : Ending) (m : Nat) (v : State) : Prop where
  undone : ∀ echo value, r ≠ .done echo value
  attempt : AttemptOver j a m u v
  freed : Freed j a v
  limit : r.status = .noReply → ¬ u.belowMissLimit a → t = (handOff e r v).missLimit a (u.station a).state
  stays : ¬ (r.status = .noReply ∧ ¬ u.belowMissLimit a) → t = handOff e r v

/-- A REPLY or a WAIT that fails the exchange. -/
theorem failedTo_replied (h1 : 1 ≤ a) (h15 : a ≤ 15) (e : Entry) {r : Ending}
    (undone : ∀ echo value, r ≠ .done echo value) (other : r.status ≠ .noReply) :
    FailedTo j a e u (handOff e r (replyTaken j a slot u)) r 0 (replyTaken j a slot u) :=
  ⟨undone, replyTaken_over h1 h15, replyTaken_freed h1 h15, fun same => absurd same other, fun _ => rfl⟩

theorem commandAnswer_fails {st : Status} (h : s.upSlotComes u j a slot x) (fails : x.failsWith a line st) :
    ∃ r m v, r.status = st ∧
      FailedTo j a x.entry u (commandAnswer j slot x (classify a .replyOrWait line) (beginSlot slot u)) r m v := by
  obtain ⟨-, -, h1, h15, -, -, -, -, -, -, rfl⟩ := h
  obtain ⟨w, rfl, reply, rfl⟩ | ⟨w, rfl, reply, rfl⟩ | ⟨w, rfl, wait, fifth, rfl⟩ | ⟨misses, third, rfl⟩ := fails
  · rw [classify_order_refused reply]
    exact ⟨.refused _, 0, _, rfl, failedTo_replied h1 h15 x.entry (by simp) (by simp [Ending.status])⟩
  · rw [classify_order_unknownAttr reply]
    exact ⟨.unknownAttr, 0, _, rfl, failedTo_replied h1 h15 x.entry (by simp) (by simp [Ending.status])⟩
  · rw [classify_order_wait wait, commandAnswer, exchangeWait, if_neg (Nat.not_lt.mpr fifth)]
    exact ⟨.stall, 0, _, rfl, failedTo_replied h1 h15 x.entry (by simp) (by simp [Ending.status])⟩
  · obtain ⟨v, y, taken, entry, attempt, eq⟩ := commandAnswer_misses (j := j) (slot := slot) (u := u) rfl misses
    obtain ⟨state, limit⟩ := taken.missed h1 h15
    rw [eq, attemptMiss_eq (by rw [entry]), attempt, if_neg (Nat.not_lt.mpr third), state, entry]
    exact ⟨.noReply, _, _, rfl, by simp, taken.last (j := j) (slot := slot) h1 h15, lastMissed_freed h1 h15,
      fun _ reached => if_pos (limit.mpr reached), fun below => if_neg fun reached => below ⟨rfl, limit.mp reached⟩⟩

/-- A miss before the last attempt at which the station's miss limit is reached (R70, R121). -/
theorem commandAnswer_limit (h : s.upSlotComes u j a slot x) (misses : x.misses a line) (early : x.attempt < 3)
    (reached : ¬ u.belowMissLimit a) :
    ∃ v, AttemptOver j a ((u.station a).misses + 1) u v ∧
      commandAnswer j slot x (classify a .replyOrWait line) (beginSlot slot u) = v.missLimit a (u.station a).state := by
  obtain ⟨j1, j4, h1, h15, -, -, -, -, -, held, rfl⟩ := h
  obtain ⟨v, y, taken, entry, attempt, eq⟩ := commandAnswer_misses (j := j) (slot := slot) (u := u) rfl misses
  obtain ⟨state, limit⟩ := taken.missed h1 h15
  refine ⟨_, taken.again h1 h15 j1 j4 held (y := { y with
      attempt := y.attempt + 1, framesLeft := (v.reportMiss x.entry.station).engine.setup.window, sendDue := true })
    entry, ?_⟩
  rw [eq, attemptMiss_eq (by rw [entry]), if_pos (limit.mpr reached), attempt, if_pos early, state]

end

end Sys2Proof.Machine
end

section

namespace Sys2Proof.Machine

/-! ## The work of a station whose attempt has ended (R68, R69) -/

section
variable {s u v : State} {j a m slot : Nat} {x : Exchange}

/-- The entry of the exchange at an up slot is one of those that the queue and the pairs hold. -/
theorem State.upSlotComes.entry_mem (h : s.upSlotComes u j a slot x) :
    x.entry ∈ (pairNumbers.filterMap u.exchange).map (·.entry) := by
  obtain ⟨j1, j4, -, -, -, -, -, -, -, held, -⟩ := h
  exact List.mem_map.mpr ⟨x, List.mem_filterMap.mpr ⟨j, mem_pairNumbers.mpr ⟨j1, j4⟩, held⟩, rfl⟩

/-- Its station's exchange-in-flight field names the pair (R69). -/
theorem State.upSlotComes.field (h : s.upSlotComes u j a slot x) (agree : ExchangesAgree u) :
    (u.station a).exchange = some (.command j) := by
  obtain ⟨j1, j4, -, -, -, -, -, -, -, held, rfl⟩ := h
  exact agree.2.1 j (mem_pairNumbers.mpr ⟨j1, j4⟩) x held

theorem State.upSlotComes.entryInFlight (h : s.upSlotComes u j a slot x) (agree : ExchangesAgree u) :
    u.entryInFlight a = some x.entry := by
  have field := h.field agree
  obtain ⟨-, -, -, -, -, -, -, -, -, held, -⟩ := h
  simp [State.entryInFlight, field, held]

theorem Freed.entryInFlight (h : Freed j a v) : v.entryInFlight a = none := by simp [State.entryInFlight, h.field]

/-- Its station is in the state that its owner's order needs (R115). -/
theorem State.upSlotComes.state_needed (h : s.upSlotComes u j a slot x) (owned : WorkOwned u) :
    (u.station a).state = x.entry.owner.needs := by
  obtain ⟨-, ⟨needed, -⟩, -⟩ := owned h.released
  obtain ⟨j1, j4, -, -, -, -, -, -, -, held, rfl⟩ := h
  exact needed j (mem_pairNumbers.mpr ⟨j1, j4⟩) x held

/-- Outside ACTIVE and TRIMMING no host TRIM is pending (R108). -/
theorem WorkOwned.no_hostTrim (owned : WorkOwned u) (low : u.port.rstnLow = false) (h1 : 1 ≤ a) (h15 : a ≤ 15)
    (active : (u.station a).state ≠ .active) (trimming : (u.station a).state ≠ .trimming) :
    (u.station a).hostTrim = false := by
  obtain ⟨-, -, -, ⟨flags, -⟩, -⟩ := owned low
  by_contra flag
  obtain state | state := (flags a (mem_addresses.mpr ⟨h1, h15⟩) (by simpa using flag)).1
  · exact active state
  · exact trimming state

/-- The exchange is the station's work no more, or still is. -/
theorem AttemptOver.entryInFlight (h : AttemptOver j a m u v) (up : s.upSlotComes u j a slot x)
    (agree : ExchangesAgree u) : v.entryInFlight a = none ∨ v.entryInFlight a = some x.entry := by
  obtain ⟨field, pair⟩ | ⟨field, entry⟩ := h.flight
  · exact .inl (Freed.entryInFlight ⟨field, pair⟩)
  · have named := up.field agree
    obtain ⟨-, -, -, -, -, -, -, -, -, held, -⟩ := up
    exact .inr (by simpa [State.entryInFlight, field, named, held] using entry)

/-- Entry to ABSENT or FAULTED frees a pair whose exchange goes on (R68). -/
theorem AttemptOver.released (h : AttemptOver j a m u v) (up : s.upSlotComes u j a slot x) (agree : ExchangesAgree u) :
    (if (v.station a).exchange = some (.command j) then none else v.exchange j) = none := by
  obtain ⟨-, pair⟩ | ⟨field, -⟩ := h.flight
  · rw [pair, ite_self]
  · rw [if_pos (field.trans (up.field agree))]

theorem AttemptOver.ownsWork (h : AttemptOver j a m u v) (up : s.upSlotComes u j a slot x) (agree : ExchangesAgree u)
    (owns : OwnsWork u a) : OwnsWork v a := by
  have fewer : (v.workEntries a).Sublist (u.workEntries a) := by
    rw [State.workEntries, State.workEntries, h.queue, up.entryInFlight agree]
    refine List.Sublist.append ?_ (List.Sublist.refl _)
    obtain none | some := h.entryInFlight up agree
    · exact none ▸ List.nil_sublist _
    · exact some ▸ List.Sublist.refl _
  refine ⟨by rw [h.port]; exact owns.differ, ?_, fun e he => ?_, owns.apart.sublist (fewer.map _)⟩
  · rw [h.station, h.port]
    exact owns.operation
  · rw [h.port]
    exact owns.calls e (fewer.subset he)

/-- An exchange that is no CALL's fails without a reply of its own (R68, R124). -/
theorem AttemptOver.workReplies (h : AttemptOver j a m u v) (up : s.upSlotComes u j a slot x) (agree : ExchangesAgree u)
    (other : x.entry.owner ≠ .call) (o w : Status) :
    v.workReplies a o w = u.operationReply a o .short ++ u.hostTrimReply a w ++ u.queueReplies a w := by
  have silent : (v.entryInFlight a).toList.flatMap (Entry.failReply w) = [] := by
    obtain none | some := h.entryInFlight up agree
    · simp [none]
    · simp [some, Entry.failReply, other]
  have operation : v.operationReply a o .short = u.operationReply a o .short := by
    rw [State.operationReply, h.station, State.operationReply]
  have trim : v.hostTrimReply a w = u.hostTrimReply a w := by
    rw [State.hostTrimReply, h.station, h.port, State.hostTrimReply]
  have queue : v.queueReplies a w = u.queueReplies a w := by rw [State.queueReplies, h.queue, State.queueReplies]
  rw [State.workReplies, silent, operation, trim, queue, List.append_nil]

end

/-! ### A change of state that follows an attempt -/

/-- The pending operation's answer after a change of state (R67, steps 1 to 4). -/
theorem State.moveStation_endOperation_answered {s : State} {a : Nat} (differ : s.port.tagsDiffer)
    (owned : ∀ o ∈ (s.station a).operation, s.port.awaits o.2 o.1.request (some a)) (new : StationState)
    (reason : Reason) (st : Status) (b : ReplyBody) :
    Answered (fun k t => k ≠ .trim ∧ k ≠ .call ∧ t = some a) (s.operationReply a st b) s.port
      ((s.moveStation a new reason).endOperation a st b).port := by
  have port : (s.moveStation a new reason).port = s.port := (s.moveStation_frame a new reason).2.2.2.2.2.1
  have field : ((s.moveStation a new reason).station a).operation = (s.station a).operation := by
    rw [State.moveStation_station]
    split <;> rfl
  have ends := State.endOperation_answered (s := s.moveStation a new reason) (a := a) (by rwa [port])
    (by rwa [field, port]) st b
  rwa [State.operationReply, field, port, ← State.operationReply] at ends

section
variable {u v t : State} {j a m : Nat} {new : StationState} {reason : Reason}

theorem AttemptOver.told (h : AttemptOver j a m u v)
    (notices : ∀ n ∈ (v.moveStation a new reason).notices.entries, n ∈ t.notices.entries) :
    stationTold a new reason u t :=
  stationTold_of_move notices (by rw [h.station]) h.number h.room

end

end Sys2Proof.Machine
end

section

namespace Sys2Proof.Machine

/-! ## The enrollment chain (R72 to R75) -/

/-! ### A DONE of the chain -/

/-- The values of a step that fail its test (R73). -/
def enrollBad (r : Station) (echo value : Nat) : Prop :=
  r.step = some .identity ∧ ¬ (echo = 240 ∧ value ≠ 0) ∨
  r.step = some .interval ∧ ¬ (echo = 241 ∧ 1 ≤ value ∧ value ≤ 4095) ∨
  r.step = some .quiet ∧ ¬ (echo = 242 ∧ 1 ≤ value ∧ value ≤ 64 ∧ 4 * value ≤ r.interval.getD 0 * 16) ∨
  r.step = some .latency ∧ ¬ (echo = 243 ∧ 1 ≤ value ∧ value ≤ 1024)

section
variable {v : State} {e : Entry} {echo value : Nat}

theorem handOff_enroll_done (owner : e.owner = .enroll) (joining : (v.station e.station).state = .joining) :
    handOff e (.done echo value) v = enrollDone e echo value v := by
  simp [handOff, owner, enrollEnds, joining]

theorem handOff_enroll_fails {r : Ending} (owner : e.owner = .enroll)
    (joining : (v.station e.station).state = .joining) (undone : ∀ echo value, r ≠ .done echo value) :
    handOff e r v = v.enterAbsent e.station .enrollFailed r.status r.status := by
  cases r with
  | done echo value => exact absurd rfl (undone echo value)
  | _ => simp [handOff, owner, enrollEnds, enrollFails, joining, Ending.status]

/-- A value that fails its test fails the enrollment (R73, R75). -/
theorem enrollDone_bad (joining : (v.station e.station).state = .joining)
    (bad : enrollBad (v.station e.station) echo value) :
    enrollDone e echo value v = v.enterAbsent e.station .enrollFailed .badStation .badStation := by
  have fails : enrollFails e.station .badStation v = v.enterAbsent e.station .enrollFailed .badStation .badStation :=
    if_pos joining
  obtain ⟨step, test⟩ | ⟨step, test⟩ | ⟨step, test⟩ | ⟨step, test⟩ := bad
  all_goals
    simp only [enrollDone, step]
    rw [if_neg test, fails]

/-- The record with the value of a step that passed its test (R73). -/
def EnrollStep.record (step : EnrollStep) (value : Nat) (r : Station) : Station :=
  match step with
  | .join => r
  | .identity => { r with identity := some value }
  | .interval => { r with interval := some value }
  | .quiet => { r with quiet := some value }
  | .latency => { r with latency := some value }

theorem enrollDone_join (step : (v.station e.station).step = some .join) :
    enrollDone e echo value v = enrollNext e .identity 240 v := by
  simp only [enrollDone, step]

theorem enrollDone_identity (step : (v.station e.station).step = some .identity) (test : echo = 240 ∧ value ≠ 0) :
    enrollDone e echo value v =
      enrollNext e .interval 241 (v.onStation e.station (EnrollStep.identity.record value)) := by
  simp only [enrollDone, step]
  exact if_pos test

theorem enrollDone_interval (step : (v.station e.station).step = some .interval)
    (test : echo = 241 ∧ 1 ≤ value ∧ value ≤ 4095) :
    enrollDone e echo value v =
      enrollNext e .quiet 242 (v.onStation e.station (EnrollStep.interval.record value)) := by
  simp only [enrollDone, step]
  exact if_pos test

theorem enrollDone_quiet (step : (v.station e.station).step = some .quiet)
    (test : echo = 242 ∧ 1 ≤ value ∧ value ≤ 64 ∧ 4 * value ≤ (v.station e.station).interval.getD 0 * 16) :
    enrollDone e echo value v =
      enrollNext e .latency 243 (v.onStation e.station (EnrollStep.quiet.record value)) := by
  simp only [enrollDone, step]
  exact if_pos test

theorem enrollDone_latency (step : (v.station e.station).step = some .latency)
    (test : echo = 243 ∧ 1 ≤ value ∧ value ≤ 1024) :
    enrollDone e echo value v =
      enrollCompletes e.station (v.onStation e.station (EnrollStep.latency.record value)) := by
  simp only [enrollDone, step]
  exact if_pos test

/-- What the next step of the chain writes, after the value of this one (R72, R73). -/
theorem enrollNext_writes {a : Nat} (station : e.station = a) (h1 : 1 ≤ a) (h15 : a ≤ 15)
    (open_ : v.port.restarting = false) (step : EnrollStep) (attr : Nat) :
    (enrollNext e step attr v).station a = { v.station a with step := some step } ∧
    (enrollNext e step attr v).calls.queue = v.calls.queue ++
      [{ tag := e.tag, owner := .enroll, station := a, order := .get, attr := attr, value := 0 }] ∧
    (enrollNext e step attr v).port.replies = v.port.replies ∧
    ∀ o ∈ (enrollNext e step attr v).port.table, o.tag = e.tag → o.phase = .queued := by
  subst station
  refine ⟨?_, ?_, ?_, ?_⟩
  · simp [enrollNext, h1, h15]
  · simp [enrollNext, State.enqueue_calls, open_]
  · simp [enrollNext, HostPort.setPhase]
  · simpa [enrollNext] using HostPort.setPhase_self v.port e.tag .queued

end

/-- What the completed enrollment writes (R74, R89). -/
theorem enrollCompletes_writes (v : State) {a : Nat} (h1 : 1 ≤ a) (h15 : a ≤ 15) :
    (enrollCompletes a v).station a = { v.station a with state := .active, operation := none, step := none } ∧
    ((enrollCompletes a v).account a).countdown = (v.station a).interval.getD 0 * 16 ∧
    (enrollCompletes a v).calls = v.calls ∧
    (enrollCompletes a v).notices = (v.moveStation a .active .enrolled).notices ∧
    (enrollCompletes a v).port = ((v.moveStation a .active .enrolled).endOperation a .ok (.enroll a
      ((v.station a).identity.getD 0) ((v.station a).interval.getD 0) ((v.station a).quiet.getD 0)
      ((v.station a).latency.getD 0))).port := by
  refine ⟨?_, ?_, ?_, ?_, ?_⟩ <;> simp [enrollCompletes, h1, h15]

/-! ### What the invariants say of a JOINING station -/

section
variable {s u v t : State} {j a m slot : Nat} {x : Exchange} {line : Option Word}

/-- The ENROLL of a JOINING station is all its work, and its one entry is in flight (R64, R71, R111). -/
theorem enroll_alone (up : s.upSlotComes u j a slot x) (owner : x.entry.owner = .enroll)
    (joining : (u.station a).state = .joining) (owned : WorkOwned u) :
    (u.station a).operation = some (.enroll, x.entry.tag) ∧ (u.station a).hostTrim = false ∧
    ∀ e ∈ u.calls.queue, e.station ≠ a := by
  have flag := owned.no_hostTrim up.released up.good.1 up.good.2 (by simp [joining]) (by simp [joining])
  obtain ⟨⟨apart, entries⟩, -⟩ := owned up.released
  have flight := up.entry_mem
  obtain rfl := up.entry_station
  obtain ⟨-, -, operation, -⟩ := entries x.entry (List.mem_append_right _ flight)
  have operation := operation .enroll (by simp [owner, OwnerKind.operation])
  refine ⟨operation, flag, fun e queued station => ?_⟩
  obtain ⟨-, -, other, takes⟩ := entries e (List.mem_append_left _ queued)
  rw [station, operation] at other
  cases kind : e.owner with
  | call =>
    have takes := takes kind
    simp [station, joining, StationState.takesCalls] at takes
  | drowse | wake => simp [kind, OwnerKind.operation] at other
  | enroll =>
    have tag : x.entry.tag = e.tag := by simpa [kind, OwnerKind.operation] using other
    rw [State.entries, List.map_append] at apart
    exact List.disjoint_of_nodup_append apart (List.mem_map_of_mem queued) (tag ▸ List.mem_map_of_mem flight)

/-- What a failed enrollment leaves (R75). -/
theorem enrollFailed_leaves (up : s.upSlotComes u j a slot x) (owner : x.entry.owner = .enroll)
    (joining : (u.station a).state = .joining) (h : AttemptOver j a m u v) (bounded : PortBounded u)
    (agree : ExchangesAgree u) (owned : WorkOwned u) {st : Status} (ht : t = v.enterAbsent a .enrollFailed st st) :
    t.exchange j = none ∧ t.calls.queue = u.calls.queue ∧
    t.station a = { u.station a with
      misses := 0, exchange := none, state := .absent, identity := none, interval := none, quiet := none,
      latency := none, operation := none, step := none, wakeCountdown := none } ∧
    t.port.replies = u.port.replies ++ [deferredReply .enroll x.entry.tag st .short] ∧
    stationTold a .absent .enrollFailed u t := by
  subst ht
  obtain ⟨operation, flag, alone⟩ := enroll_alone up owner joining owned
  have good := up.good
  refine ⟨?_, ?_, ?_, ?_, ?_⟩
  · rw [State.enterAbsent_exchange]
    exact h.released up agree
  · rw [State.enterAbsent_queue, h.queue, List.filter_eq_self]
    exact fun e he => by simpa using alone e he
  · rw [State.enterAbsent_station, if_pos ⟨rfl, good⟩, h.station]
    simp [Station.clear, flag]
  · have owns := h.ownsWork up agree (ownsWork_of_invariants bounded owned up.released (mem_addresses.mpr good))
    have none : u.queueReplies a st = [] := by
      rw [State.queueReplies, List.filter_eq_nil_iff.mpr fun e he => by simpa using alone e he, List.flatMap_nil]
    rw [(State.enterAbsent_answered owns ..).replies, h.workReplies up agree (by simp [owner]), h.port, none]
    simp [State.operationReply, State.hostTrimReply, operation, flag, Operation.request]
  · exact h.told fun n hn => by rwa [State.enterAbsent_notices]

/-- The other REPLYs, the fifth WAIT and the third miss make the station ABSENT (R75), and the miss limit then finds it
so. -/
theorem commandAnswer_enrollFails {st : Status} (up : s.upSlotComes u j a slot x) (owner : x.entry.owner = .enroll)
    (joining : (u.station a).state = .joining) (fails : x.failsWith a line st) :
    ∃ m v, AttemptOver j a m u v ∧ commandAnswer j slot x (classify a .replyOrWait line) (beginSlot slot u) =
      v.enterAbsent a .enrollFailed st st := by
  obtain ⟨r, m, v, rfl, failed⟩ := commandAnswer_fails up fails
  have joins : (v.station x.entry.station).state = .joining := by
    rw [up.entry_station, failed.attempt.station, joining]
  have absent := up.entry_station ▸ handOff_enroll_fails owner joins failed.undone
  refine ⟨m, v, failed.attempt, ?_⟩
  by_cases limit : r.status = .noReply ∧ ¬ u.belowMissLimit a
  · rw [failed.limit limit.1 limit.2, absent, joining, State.missLimit_of_left]
    simp [State.enterAbsent_station, up.good]
  · rw [failed.stays limit, absent]

/-- So does the miss limit at an earlier attempt (R70). -/
theorem commandAnswer_enrollLimit {st : Status} (up : s.upSlotComes u j a slot x) (owner : x.entry.owner = .enroll)
    (joining : (u.station a).state = .joining)
    (fails : x.failsWith a line st ∨ (x.misses a line ∧ ¬ u.belowMissLimit a ∧ st = .noReply)) :
    ∃ m v, AttemptOver j a m u v ∧ commandAnswer j slot x (classify a .replyOrWait line) (beginSlot slot u) =
      v.enterAbsent a .enrollFailed st st := by
  obtain fails | ⟨misses, reached, rfl⟩ := fails
  · exact commandAnswer_enrollFails up owner joining fails
  by_cases early : x.attempt < 3
  · obtain ⟨v, ended, answer⟩ := commandAnswer_limit up misses early reached
    have joins : (v.station a).state = .joining := by rw [ended.station, joining]
    exact ⟨_, v, ended, answer.trans (by rw [joining, State.missLimit, if_pos joins])⟩
  · exact commandAnswer_enrollFails up owner joining (.inr (.inr (.inr ⟨misses, Nat.not_lt.mp early, rfl⟩)))

end

end Sys2Proof.Machine
end

section

namespace Sys2Proof.Machine

/-! ### The statement -/

section
variable {s u v : State} {j a slot : Nat} {x : Exchange} {w : Word} {r : Station}

/-- A DONE of the chain's exchange comes with the exchange freed and the record otherwise as it was (R72, R117). -/
theorem commandAnswer_enrollDone (up : s.upSlotComes u j a slot x) (owner : x.entry.owner = .enroll)
    (joining : (u.station a).state = .joining) (reply : isReply a 1 w)
    (hr : r = { u.station a with misses := 0, exchange := none }) :
    ∃ v, AttemptOver j a 0 u v ∧ Freed j a v ∧ v.faults = u.faults ∧ v.station a = r ∧
      commandAnswer j slot x (classify a .replyOrWait (some w)) (beginSlot slot u) =
        enrollDone x.entry (payloadAttr (wordPayload w)) (payloadValue (wordPayload w)) v := by
  obtain ⟨h1, h15⟩ := up.good
  have ended := replyTaken_over (u := u) (j := j) (slot := slot) h1 h15
  have freed := replyTaken_freed (u := u) (j := j) (slot := slot) h1 h15
  have record := ended.station
  rw [freed.field] at record
  refine ⟨_, ended, freed, replyTaken_faults, record.trans hr.symm, ?_⟩
  rw [commandAnswer_done up reply, handOff_enroll_done owner]
  rw [up.entry_station, record]
  exact joining

/-- A passed test queues the next GET of the chain, in a state p that has its value (R72, R73). -/
theorem enrollStep_advances {e : Entry} {p t : State} {step : EnrollStep} {attr : Nat} (ht : t = enrollNext e step attr p)
    (self : p.station a = r) (ended : AttemptOver j a 0 u v) (port : p.port = v.port) (calls : p.calls = v.calls)
    (station : e.station = a) (h1 : 1 ≤ a) (h15 : a ≤ 15) (open_ : u.port.restarting = false) :
    t.station a = { r with step := some step } ∧
    t.calls.queue = u.calls.queue ++
      [{ tag := e.tag, owner := .enroll, station := a, order := .get, attr := attr, value := 0 }] ∧
    t.port.replies = u.port.replies ∧ ∀ o ∈ t.port.table, o.tag = e.tag → o.phase = .queued := by
  have writes := enrollNext_writes station h1 h15 (by rw [port, ended.port, open_]) step attr
  rwa [← ht, self, calls, port, ended.queue, ended.port] at writes

/-- The last passed test makes the station ACTIVE and answers the ENROLL (R74, R89). -/
theorem enrollStep_completes (up : s.upSlotComes u j a slot x) (owner : x.entry.owner = .enroll)
    (joining : (u.station a).state = .joining) (ended : AttemptOver j a 0 u v) (self : v.station a = r) (value : Nat)
    {t : State} (ht : t = enrollCompletes a (v.onStation a (EnrollStep.latency.record value))) :
    t.station a = { r with state := .active, step := none, operation := none, latency := some value } ∧
    (t.account a).countdown = r.interval.getD 0 * 16 ∧ t.calls.queue = u.calls.queue ∧
    stationTold a .active .enrolled u t ∧
    (PortBounded u → WorkOwned u → t.port.replies = u.port.replies ++
      [deferredReply .enroll x.entry.tag .ok
        (.enroll a (r.identity.getD 0) (r.interval.getD 0) (r.quiet.getD 0) value)]) := by
  subst ht
  obtain ⟨h1, h15⟩ := up.good
  have record : (v.onStation a (EnrollStep.latency.record value)).station a = { r with latency := some value } := by
    simp [EnrollStep.record, h1, h15, self]
  have same : (v.onStation a (EnrollStep.latency.record value)).port = u.port := ended.port
  have queue : (v.onStation a (EnrollStep.latency.record value)).calls.queue = u.calls.queue := ended.queue
  have number : (v.onStation a (EnrollStep.latency.record value)).engine.frameNumber = u.engine.frameNumber :=
    ended.number
  have room : (v.onStation a (EnrollStep.latency.record value)).notices.entries.length ≤
    u.notices.entries.length + 2 := ended.room
  have was : r.state = (u.station a).state ∧ r.operation = (u.station a).operation := by
    rw [← self, ended.station]
    exact ⟨rfl, rfl⟩
  generalize v.onStation a (EnrollStep.latency.record value) = p at *
  obtain ⟨station, account, calls, notices, port⟩ := enrollCompletes_writes p h1 h15
  rw [record] at station account port
  refine ⟨station, account, by rw [calls, queue], ?_, fun bounded owned => ?_⟩
  · exact stationTold_of_move (v := p) (fun n hn => by rwa [notices]) (by rw [record]; exact was.1) number room
  · obtain ⟨operation, -⟩ := enroll_alone up owner joining owned
    have owns := ownsWork_of_invariants bounded owned up.released (mem_addresses.mpr ⟨h1, h15⟩)
    have pending : (p.station a).operation = some (.enroll, x.entry.tag) := by rw [record, ← operation]; exact was.2
    have answered := State.moveStation_endOperation_answered (s := p) (a := a) (by rw [same]; exact owns.differ)
      (by rw [same, pending, ← operation]; exact owns.operation) .active .enrolled .ok
      (.enroll a (r.identity.getD 0) (r.interval.getD 0) (r.quiet.getD 0) value)
    rw [port, Option.getD_some, answered.replies, same, State.operationReply, pending]
    rfl

/-- A failed test makes the station ABSENT (R73, R75). -/
theorem enrollDone_absent (up : s.upSlotComes u j a slot x) (joining : (u.station a).state = .joining)
    (hr : r = { u.station a with misses := 0, exchange := none }) (self : v.station a = r) {echo value : Nat}
    (bad : enrollBad r echo value) :
    enrollDone x.entry echo value v = v.enterAbsent a .enrollFailed .badStation .badStation := by
  have here := up.entry_station
  have record : v.station x.entry.station = r := by rw [here, self]
  have joins : r.state = .joining := by rw [hr]; exact joining
  rw [enrollDone_bad (by rw [record, joins]) (by rwa [record]), here]

end

/-- Settles O45, by the class of the line: a DONE runs the step of the chain, every failure ends in ABSENT. -/
theorem enrollChainAdvances : Obligations.EnrollChainAdvances := by
  intro s u j a slot x line r up owner joining open_ hr queueWith badDone hqueue hbad
  obtain ⟨h1, h15⟩ := up.good
  have station := up.entry_station
  have bad_of : ∀ w, badDone w → enrollBad r (payloadAttr (wordPayload w)) (payloadValue (wordPayload w)) := fun w bad => by
    obtain ⟨echo, value, rfl, rfl, bad⟩ := hbad w ▸ bad
    exact bad
  refine ⟨_, exec_commandUpSlot line up, by simp [beginSlot],
    fun b hb => commandAnswer_others (s := beginSlot slot u) j slot x _ (by rwa [station]), ?_, ?_⟩
  · rintro w _ _ rfl reply rfl rfl
    obtain ⟨v, ended, freed, faults, self, done⟩ := commandAnswer_enrollDone (slot := slot) up owner joining reply hr
    have atStep : ∀ step, r.step = some step → (v.station x.entry.station).step = some step :=
      fun step hstep => by rw [station, self, hstep]
    have recorded : ∀ f, (v.onStation x.entry.station f).station a = f r := fun f => by simp [station, h1, h15, self]
    rw [done]
    refine ⟨(enrollDone_within ..).freed j freed.pair, by rw [(enrollDone_frame ..).2.2.1, faults], fun next hnext => ?_,
      fun step echo low high => ?_, fun bad => ?_⟩
    · simp only [hnext, hqueue]
      refine ⟨fun step => ?_, fun step echo value => ?_, fun step echo low high => ?_,
        fun step echo low high fits => ?_⟩
      · exact enrollStep_advances (enrollDone_join (atStep _ step)) self ended rfl rfl station h1 h15 open_
      · exact enrollStep_advances (enrollDone_identity (atStep _ step) ⟨echo, value⟩) (recorded _) ended rfl rfl station
          h1 h15 open_
      · exact enrollStep_advances (enrollDone_interval (atStep _ step) ⟨echo, low, high⟩) (recorded _) ended rfl rfl
          station h1 h15 open_
      · exact enrollStep_advances (enrollDone_quiet (atStep _ step) ⟨echo, low, high, by rwa [station, self]⟩)
          (recorded _) ended rfl rfl station h1 h15 open_
    · exact enrollStep_completes up owner joining ended self _
        (station ▸ enrollDone_latency (atStep _ step) ⟨echo, low, high⟩)
    · rw [enrollDone_absent up joining hr self (bad_of w bad), State.enterAbsent_station, if_pos ⟨rfl, h1, h15⟩]
      exact ⟨rfl, rfl, rfl, rfl, rfl⟩
  · intro st fails bounded agree owned
    obtain ⟨m, v, attempt, answer⟩ : ∃ m v, AttemptOver j a m u v ∧
        commandAnswer j slot x (classify a .replyOrWait line) (beginSlot slot u) =
          v.enterAbsent a .enrollFailed st st := by
      rw [← or_assoc] at fails
      obtain fails | ⟨rfl, w, rfl, reply, bad⟩ := fails
      · exact commandAnswer_enrollLimit up owner joining fails
      · obtain ⟨v, ended, -, -, self, done⟩ := commandAnswer_enrollDone (slot := slot) up owner joining reply hr
        exact ⟨0, v, ended, done.trans (enrollDone_absent up joining hr self (bad_of w bad))⟩
    subst hr
    exact enrollFailed_leaves up owner joining attempt bounded agree owned answer

end Sys2Proof.Machine
end

section

namespace Sys2Proof.Machine

/-! ## The end of a DROWSE exchange (R68, R70, R79, R108) -/

section
variable {v : State} {e : Entry} {echo value : Nat} {a : Nat}

/-- The DROWSY station, its DROWSE and a host TRIM answered (R79). -/
def drowsed (a : Nat) (v : State) : State :=
  ((v.moveStation a .drowsy .drowse).endOperation a .ok (.address a)).endHostTrim a .state .short

theorem handOff_drowse_done (owner : e.owner = .drowse) (active : (v.station e.station).state = .active) :
    handOff e (.done echo value) v = drowsed e.station v := by
  simp only [handOff, owner, drowseEnds, if_pos active, drowsed]

theorem handOff_drowse_fails {r : Ending} (owner : e.owner = .drowse) (undone : ∀ echo value, r ≠ .done echo value) :
    handOff e r v = v.endOperation e.station r.status .short := by
  cases r with
  | done echo value => exact absurd rfl (undone echo value)
  | _ => simp only [handOff, owner, drowseEnds]

theorem drowsed_record (v : State) (h1 : 1 ≤ a) (h15 : a ≤ 15) :
    (drowsed a v).station a = { v.station a with
      state := .drowsy, operation := none, hostTrim := false,
      refusals := if (v.station a).hostTrim then 0 else (v.station a).refusals } := by
  cases flag : (v.station a).hostTrim <;> simp [drowsed, h1, h15, flag]

theorem drowsed_frame (a : Nat) (v : State) :
    (drowsed a v).account = v.account ∧ (drowsed a v).calls = v.calls ∧
    (drowsed a v).notices = (v.moveStation a .drowsy .drowse).notices := by
  refine ⟨?_, by simp [drowsed], by simp [drowsed]⟩
  funext b
  simp [drowsed, State.account]

/-- The DROWSE's answer is followed by that of the host TRIM (R68). -/
theorem drowsed_replies (differ : v.port.tagsDiffer)
    (owned : ∀ o ∈ (v.station a).operation, v.port.awaits o.2 o.1.request (some a)) :
    (drowsed a v).port.replies =
      v.port.replies ++ v.operationReply a .ok (.address a) ++ v.hostTrimReply a .state := by
  have first := State.moveStation_endOperation_answered differ owned .drowsy .drowse .ok (.address a)
  have second := State.endHostTrim_answered first.differ a .state
  have flag : (((v.moveStation a .drowsy .drowse).endOperation a .ok (.address a)).station a).hostTrim =
      (v.station a).hostTrim := by
    rw [State.endOperation_station, State.moveStation_station]
    repeat' split
    all_goals rfl
  rw [drowsed, second.replies, first.replies, State.hostTrimReply, flag, first.waiting .trim (some a) (by simp),
    State.hostTrimReply]

end

/-! ### The end of the operation alone -/

section
variable (s : State) (a : Nat) (st : Status) (b : ReplyBody)

@[simp] theorem State.endOperation_calls : (s.endOperation a st b).calls = s.calls :=
  (s.endOperation_frame a st b).2.2.2.2.1

@[simp] theorem State.endOperation_exchange (j : Nat) : (s.endOperation a st b).exchange j = s.exchange j := by
  simp only [State.exchange, State.endOperation_calls]

@[simp] theorem State.endOperation_account (n : Nat) : (s.endOperation a st b).account n = s.account n := by
  simp only [State.account, State.endOperation_frame]

/-- The answer of the operation leaves the station's entries (R67, step 4). -/
theorem State.endOperation_entries :
    (s.endOperation a st b).entryInFlight a = s.entryInFlight a ∧
    (s.endOperation a st b).workEntries a = s.workEntries a := by
  have flight : (s.endOperation a st b).entryInFlight a = s.entryInFlight a := by
    refine State.entryInFlight_congr ?_ (funext fun j => State.endOperation_exchange ..)
    rw [State.endOperation_station]
    split <;> rfl
  exact ⟨flight, by rw [State.workEntries, flight, State.endOperation_calls, State.workEntries]⟩

end

/-- The answer of the pending operation leaves the station's other work owned (R67). -/
theorem OwnsWork.endOperation {v : State} {a : Nat} (h : OwnsWork v a) (h1 : 1 ≤ a) (h15 : a ≤ 15) (st : Status)
    (b : ReplyBody) : OwnsWork (v.endOperation a st b) a := by
  have answered := State.endOperation_answered h.differ h.operation st b
  obtain ⟨-, entries⟩ := v.endOperation_entries a st b
  refine ⟨answered.differ, by simp [h1, h15], fun e he call => ?_, by rw [entries]; exact h.apart⟩
  exact answered.awaits _ _ _ (by simp) (h.calls e (entries ▸ he) call)

/-- The replies of a station whose operation is answered with one status and whose other work then fails with another. -/
theorem OwnsWork.endOperation_enterFaulted {v : State} {a : Nat} (h : OwnsWork v a) (h1 : 1 ≤ a) (h15 : a ≤ 15)
    (idle : v.entryInFlight a = none) (reason : Reason) (st o w : Status) :
    ((v.endOperation a st .short).enterFaulted a reason o w).port.replies =
      v.port.replies ++ v.operationReply a st .short ++ v.hostTrimReply a w ++ v.queueReplies a w := by
  have answered := State.endOperation_answered h.differ h.operation st .short
  have flag : ((v.endOperation a st .short).station a).hostTrim = (v.station a).hostTrim := by simp [h1, h15]
  have trim : (v.endOperation a st .short).hostTrimReply a w = v.hostTrimReply a w := by
    rw [State.hostTrimReply, flag, answered.waiting .trim (some a) (by simp), State.hostTrimReply]
  obtain ⟨flight, -⟩ := v.endOperation_entries a st .short
  have queue : (v.endOperation a st .short).queueReplies a w = v.queueReplies a w := by
    rw [State.queueReplies, State.endOperation_calls, State.queueReplies]
  have operation : (v.endOperation a st .short).operationReply a o .short = [] := by
    simp [State.operationReply, h1, h15]
  have faulted := State.enterFaulted_answered (h.endOperation h1 h15 st .short) reason o w
  rw [faulted.replies, State.workReplies, answered.replies, trim, flight, idle, queue, operation]
  simp

/-- Entry to FAULTED keeps the account (R84). -/
theorem State.enterFaulted_account (s : State) (a : Nat) (reason : Reason) (o w : Status) :
    (s.enterFaulted a reason o w).account = s.account := by
  funext b
  rw [State.enterFaulted_eq, State.disposeWork_account, (s.operationEnded_frame a .faulted reason o).2.2.2.2.2.1]

theorem State.enterFaulted_queue (s : State) (a : Nat) (reason : Reason) (o w : Status) :
    (s.enterFaulted a reason o w).calls.queue = s.calls.queue.filter (fun e => e.station != a) := by
  rw [State.enterFaulted_eq, State.disposeWork_queue, (s.operationEnded_frame a .faulted reason o).2.2.2.1]

/-- No entry of the station is left in the queue (R127). -/
theorem State.enterFaulted_cleared (s : State) (a : Nat) (reason : Reason) (o w : Status) :
    ∀ e ∈ (s.enterFaulted a reason o w).calls.queue, e.station ≠ a := by
  intro e he
  rw [State.enterFaulted_queue] at he
  simpa using (List.mem_filter.mp he).2

/-! ### What the statement says of a DROWSE -/

section
variable {s u v t : State} {j a m slot : Nat} {x : Exchange} {line : Option Word} {w : Word}

/-- The record after a REPLY to a DROWSE (R79). -/
theorem drowse_replied {status : Nat} {r : Ending} (up : s.upSlotComes u j a slot x) (owner : x.entry.owner = .drowse)
    (active : (u.station a).state = .active) (ended : AttemptOver j a 0 u v) (freed : Freed j a v)
    (done : status = 1 → ∃ echo value, r = .done echo value)
    (undone : status ≠ 1 → ∀ echo value, r ≠ .done echo value) (ht : t = handOff x.entry r v) :
    (t.station a).operation = none ∧ (t.station a).exchange = none ∧ (t.station a).misses = 0 ∧
    t.account a = u.account a ∧
    (status = 1 → (t.station a).state = .drowsy ∧ (t.station a).hostTrim = false) ∧
    (status ≠ 1 → (t.station a).state = .active ∧ (t.station a).hostTrim = (u.station a).hostTrim) := by
  subst ht
  obtain ⟨h1, h15⟩ := up.good
  have self := ended.station
  rw [freed.field] at self
  by_cases one : status = 1
  · obtain ⟨echo, value, rfl⟩ := done one
    rw [handOff_drowse_done owner (by rw [up.entry_station, self]; exact active), up.entry_station,
      drowsed_record v h1 h15, self, (drowsed_frame a v).1, ended.account]
    exact ⟨rfl, rfl, rfl, rfl, fun _ => ⟨rfl, rfl⟩, fun other => absurd one other⟩
  · rw [handOff_drowse_fails owner (undone one), up.entry_station, State.endOperation_account, ended.account, State.endOperation_station,
      if_pos ⟨rfl, h1, h15⟩, self]
    exact ⟨rfl, rfl, rfl, rfl, fun same => absurd same one, fun _ => ⟨active, rfl⟩⟩

/-- What a DONE of the DROWSE queues, tells and answers (R79, R108). -/
theorem drowse_done_tells (up : s.upSlotComes u j a slot x) (owner : x.entry.owner = .drowse)
    (active : (u.station a).state = .active) (reply : isReply a 1 w) (owns : OwnsWork u a)
    (ht : t = commandAnswer j slot x (classify a .replyOrWait (some w)) (beginSlot slot u)) :
    t.calls.queue = u.calls.queue ∧ stationTold a .drowsy .drowse u t ∧
    t.port.replies = u.port.replies ++ u.operationReply a .ok (.address a) ++ u.hostTrimReply a .state := by
  obtain ⟨h1, h15⟩ := up.good
  have ended := replyTaken_over (u := u) (j := j) (slot := slot) h1 h15
  rw [commandAnswer_done up reply] at ht
  generalize replyTaken j a slot u = v at *
  rw [handOff_drowse_done owner (by rw [up.entry_station, ended.station]; exact active), up.entry_station] at ht
  subst ht
  refine ⟨by rw [(drowsed_frame a v).2.1, ended.queue], ended.told fun n hn => by rwa [(drowsed_frame a v).2.2], ?_⟩
  have operation : (v.station a).operation = (u.station a).operation := by rw [ended.station]
  have flag : (v.station a).hostTrim = (u.station a).hostTrim := by rw [ended.station]
  rw [drowsed_replies (by rw [ended.port]; exact owns.differ) (by rw [operation, ended.port]; exact owns.operation)]
  simp only [State.operationReply, State.hostTrimReply, operation, flag, ended.port]

/-- A failed DROWSE leaves the station ACTIVE, unless it fails at the miss limit, which makes it FAULTED (R70, R79). -/
theorem drowse_fails_leaves {st : Status} (up : s.upSlotComes u j a slot x) (owner : x.entry.owner = .drowse)
    (active : (u.station a).state = .active) (fails : x.failsWith a line st) (agree : ExchangesAgree u)
    (owns : OwnsWork u a)
    (ht : t = commandAnswer j slot x (classify a .replyOrWait line) (beginSlot slot u)) :
    t.exchange j = none ∧ (t.station a).operation = none ∧ (t.station a).exchange = none ∧
    (¬ (st = .noReply ∧ ¬ u.belowMissLimit a) →
      (t.station a).state = .active ∧ (t.station a).hostTrim = (u.station a).hostTrim ∧
      t.calls.queue = u.calls.queue ∧ t.port.replies = u.port.replies ++ u.operationReply a st .short) ∧
    (st = .noReply → ¬ u.belowMissLimit a →
      (t.station a).state = .faulted ∧ (t.station a).hostTrim = false ∧ (∀ e ∈ t.calls.queue, e.station ≠ a) ∧
      stationTold a .faulted .misses u t ∧
      t.port.replies = u.port.replies ++ u.operationReply a .noReply .short ++ u.hostTrimReply a .faulted ++
        u.queueReplies a .faulted) := by
  obtain ⟨h1, h15⟩ := up.good
  obtain ⟨r, m, v, rfl, failed⟩ := commandAnswer_fails up fails
  rw [← ht] at failed
  have ended := failed.attempt
  have owns := ended.ownsWork up agree owns
  have handed : handOff x.entry r v = v.endOperation a r.status .short := by
    rw [handOff_drowse_fails owner failed.undone, up.entry_station]
  have operation : v.operationReply a r.status .short = u.operationReply a r.status .short := by
    rw [State.operationReply, ended.station, State.operationReply]
  have exchange : (v.endOperation a r.status .short).exchange j = none := by
    rw [State.endOperation_exchange, failed.freed.pair]
  have record : (v.endOperation a r.status .short).station a = { v.station a with operation := none } := by
    rw [State.endOperation_station, if_pos ⟨rfl, h1, h15⟩]
  by_cases limit : r.status = .noReply ∧ ¬ u.belowMissLimit a
  · obtain ⟨status, reached⟩ := limit
    have stays : ((v.endOperation a r.status .short).station a).state = .active := by
      rw [record, ended.station]
      exact active
    have out : t = (v.endOperation a r.status .short).enterFaulted a .misses .faulted .faulted := by
      rw [failed.limit status reached, handed, active, State.missLimit, if_pos stays]
    rw [out]
    refine ⟨by rw [State.enterFaulted_exchange, exchange, ite_self], ?_⟩
    rw [State.enterFaulted_station, if_pos ⟨rfl, h1, h15⟩]
    refine ⟨rfl, rfl, fun other => absurd ⟨status, reached⟩ other, fun _ _ => ⟨rfl, rfl,
      State.enterFaulted_cleared _ a _ _ _, ?_, ?_⟩⟩
    · refine stationTold_of_move (v := v.endOperation a r.status .short) (fun n hn => by rwa [State.enterFaulted_notices])
        (stays.trans active.symm) ?_ ?_
      · rw [(State.endOperation_frame ..).1, ended.number]
      · rw [(State.endOperation_frame ..).2.2.2.2.2.2.1]
        exact ended.room
    · rw [owns.endOperation_enterFaulted h1 h15 failed.freed.entryInFlight, operation, ended.port, status]
      simp only [State.hostTrimReply, State.queueReplies, ended.queue, ended.port]
      rw [ended.station]
  · have answered := State.endOperation_answered owns.differ owns.operation r.status .short
    rw [failed.stays limit, handed, exchange, record, State.endOperation_calls, answered.replies, operation, ended.port, ended.queue, ended.station, failed.freed.field]
    exact ⟨rfl, rfl, rfl, fun _ => ⟨active, rfl, rfl, rfl⟩, fun status reached => absurd ⟨status, reached⟩ limit⟩

end

end Sys2Proof.Machine
end

section

namespace Sys2Proof.Machine

/-! ## The end of a PROBE exchange (R70, R83) -/

section
variable {v : State} {e : Entry} {echo value : Nat} {a : Nat}

/-- The woken station, its WAKE answered (R83). -/
def wokenUp (a : Nat) (v : State) : State := (v.moveStation a .active .woken).endOperation a .ok (.address a)

theorem handOff_wake_done (owner : e.owner = .wake) (waking : (v.station e.station).state = .waking)
    (test : echo = 240 ∧ (v.station e.station).identity = some value) :
    handOff e (.done echo value) v = wokenUp e.station v := by
  simp only [handOff, owner, probeEnds, if_pos waking, if_pos test, wokenUp]

theorem handOff_wake_bad (owner : e.owner = .wake) (waking : (v.station e.station).state = .waking)
    (test : ¬ (echo = 240 ∧ (v.station e.station).identity = some value)) :
    handOff e (.done echo value) v = v.enterFaulted e.station .wakeFailed .badStation .faulted := by
  simp only [handOff, owner, probeEnds, if_pos waking, if_neg test]

theorem handOff_wake_fails {r : Ending} (owner : e.owner = .wake) (waking : (v.station e.station).state = .waking)
    (undone : ∀ echo value, r ≠ .done echo value) :
    handOff e r v = v.enterFaulted e.station .wakeFailed r.status .faulted := by
  cases r with
  | done echo value => exact absurd rfl (undone echo value)
  | _ => simp only [handOff, owner, probeEnds, if_pos waking]

theorem wokenUp_record (v : State) (h1 : 1 ≤ a) (h15 : a ≤ 15) :
    (wokenUp a v).station a = { v.station a with state := .active, operation := none } := by
  simp [wokenUp, h1, h15]

theorem wokenUp_frame (a : Nat) (v : State) :
    (wokenUp a v).account = v.account ∧ (wokenUp a v).calls = v.calls ∧
    (wokenUp a v).notices = (v.moveStation a .active .woken).notices := by
  refine ⟨?_, by simp [wokenUp], by simp [wokenUp]⟩
  funext b
  simp [wokenUp, State.account]

end

section
variable {s u v t : State} {j a m slot : Nat} {x : Exchange} {line : Option Word} {w : Word} {st : Status}
  {reason : Reason}

/-- The PROBE's answer names the station and its recorded identity (R83). -/
def wakes (u : State) (a : Nat) (w : Word) : Prop :=
  payloadAttr (wordPayload w) = 240 ∧ (u.station a).identity = some (payloadValue (wordPayload w))

/-- A DONE of a PROBE wakes the station if it names it and fails the WAKE if not (R83). -/
theorem commandAnswer_probeDone (up : s.upSlotComes u j a slot x) (owner : x.entry.owner = .wake)
    (waking : (u.station a).state = .waking) (reply : isReply a 1 w) :
    (wakes u a w → commandAnswer j slot x (classify a .replyOrWait (some w)) (beginSlot slot u) =
      wokenUp a (replyTaken j a slot u)) ∧
    (¬ wakes u a w → commandAnswer j slot x (classify a .replyOrWait (some w)) (beginSlot slot u) =
      (replyTaken j a slot u).enterFaulted a .wakeFailed .badStation .faulted) := by
  obtain ⟨h1, h15⟩ := up.good
  have ended := replyTaken_over (u := u) (j := j) (slot := slot) h1 h15
  rw [commandAnswer_done up reply]
  generalize replyTaken j a slot u = v at *
  have state : (v.station x.entry.station).state = .waking := by
    rw [up.entry_station, ended.station]
    exact waking
  have identity : (v.station x.entry.station).identity = (u.station a).identity := by rw [up.entry_station, ended.station]
  refine ⟨fun test => ?_, fun test => ?_⟩
  · rw [handOff_wake_done owner state (by rw [identity]; exact test), up.entry_station]
  · rw [handOff_wake_bad owner state (by rw [identity]; exact test), up.entry_station]

/-- Every failure of a PROBE makes the WAKING station FAULTED; the miss limit then finds it so (R70, R83). -/
theorem commandAnswer_probeFails (up : s.upSlotComes u j a slot x) (owner : x.entry.owner = .wake)
    (waking : (u.station a).state = .waking) (fails : x.failsWith a line st) :
    ∃ m v, AttemptOver j a m u v ∧ commandAnswer j slot x (classify a .replyOrWait line) (beginSlot slot u) =
      v.enterFaulted a .wakeFailed st .faulted := by
  obtain ⟨r, m, v, rfl, failed⟩ := commandAnswer_fails up fails
  have state : (v.station x.entry.station).state = .waking := by
    rw [up.entry_station, failed.attempt.station]
    exact waking
  have faulted := up.entry_station ▸ handOff_wake_fails owner state failed.undone
  refine ⟨m, v, failed.attempt, ?_⟩
  by_cases limit : r.status = .noReply ∧ ¬ u.belowMissLimit a
  · rw [failed.limit limit.1 limit.2, faulted, waking, State.missLimit_of_left]
    simp [State.enterFaulted_station, up.good]
  · rw [failed.stays limit, faulted]

/-- The three ways in which a WAKE fails at an up slot, with its status and the reason of the change (R70, R83). -/
def probeFails (u : State) (a : Nat) (x : Exchange) (line : Option Word) (st : Status) (reason : Reason) : Prop :=
  x.failsWith a line st ∧ reason = .wakeFailed ∨
  (x.misses a line ∧ x.attempt < 3 ∧ ¬ u.belowMissLimit a ∧ st = .noReply ∧ reason = .misses) ∨
  (st = .badStation ∧ reason = .wakeFailed ∧ ∃ w, line = some w ∧ isReply a 1 w ∧ ¬ wakes u a w)

theorem commandAnswer_probeFaulted (up : s.upSlotComes u j a slot x) (owner : x.entry.owner = .wake)
    (waking : (u.station a).state = .waking) (fails : probeFails u a x line st reason) :
    ∃ m v, AttemptOver j a m u v ∧ commandAnswer j slot x (classify a .replyOrWait line) (beginSlot slot u) =
      v.enterFaulted a reason st .faulted := by
  obtain ⟨fails, rfl⟩ | ⟨misses, early, reached, rfl, rfl⟩ | ⟨rfl, rfl, w, rfl, reply, other⟩ := fails
  · exact commandAnswer_probeFails up owner waking fails
  · obtain ⟨v, ended, answer⟩ := commandAnswer_limit up misses early reached
    have state : (v.station a).state = .waking := by rw [ended.station, waking]
    exact ⟨_, v, ended, answer.trans (by rw [waking, State.missLimit, if_pos state])⟩
  · exact ⟨0, _, replyTaken_over up.good.1 up.good.2, (commandAnswer_probeDone up owner waking reply).2 other⟩

/-- What a failed WAKE leaves (R68, R83, R84). -/
theorem probeFaulted_leaves (up : s.upSlotComes u j a slot x) (owner : x.entry.owner = .wake)
    (waking : (u.station a).state = .waking) (ended : AttemptOver j a m u v) (bounded : PortBounded u)
    (agree : ExchangesAgree u) (owned : WorkOwned u) (ht : t = v.enterFaulted a reason st .faulted) :
    t.exchange j = none ∧ (t.station a).state = .faulted ∧ (t.station a).operation = none ∧
    (t.station a).exchange = none ∧ (t.station a).identity = (u.station a).identity ∧
    (∀ e ∈ t.calls.queue, e.station ≠ a) ∧ stationTold a .faulted reason u t ∧
    t.port.replies = u.port.replies ++ u.operationReply a st .short ++ u.queueReplies a .faulted := by
  subst ht
  obtain ⟨h1, h15⟩ := up.good
  have owns := ended.ownsWork up agree (ownsWork_of_invariants bounded owned up.released (mem_addresses.mpr ⟨h1, h15⟩))
  have flag := owned.no_hostTrim up.released h1 h15 (by simp [waking]) (by simp [waking])
  refine ⟨?_, ?_⟩
  · rw [State.enterFaulted_exchange]
    exact ended.released up agree
  · rw [State.enterFaulted_station, if_pos ⟨rfl, h1, h15⟩]
    refine ⟨rfl, rfl, rfl, ?_, State.enterFaulted_cleared _ a _ _ _,
      ended.told fun n hn => by rwa [State.enterFaulted_notices], ?_⟩
    · rw [ended.station]
    · rw [(State.enterFaulted_answered owns ..).replies, ended.workReplies up agree (by simp [owner]), ended.port]
      simp [State.hostTrimReply, flag]

/-- The record after a REPLY to a PROBE (R83). -/
theorem probe_replied {status : Nat} (up : s.upSlotComes u j a slot x) (owner : x.entry.owner = .wake)
    (waking : (u.station a).state = .waking) (reply : isReply a status w) (low : 1 ≤ status) (high : status ≤ 3)
    (ht : t = commandAnswer j slot x (classify a .replyOrWait (some w)) (beginSlot slot u)) :
    (t.station a).operation = none ∧ (t.station a).exchange = none ∧ (t.station a).misses = 0 ∧
    t.account a = u.account a ∧ (isReply a 1 w ∧ wakes u a w → (t.station a).state = .active) ∧
    (¬ (isReply a 1 w ∧ wakes u a w) → (t.station a).state = .faulted) := by
  obtain ⟨h1, h15⟩ := up.good
  have ended := replyTaken_over (u := u) (j := j) (slot := slot) h1 h15
  have freed := replyTaken_freed (u := u) (j := j) (slot := slot) h1 h15
  have self := ended.station
  rw [freed.field] at self
  by_cases woken : isReply a 1 w ∧ wakes u a w
  · rw [(commandAnswer_probeDone up owner waking woken.1).1 woken.2] at ht
    rw [ht, wokenUp_record _ h1 h15, self, (wokenUp_frame ..).1, ended.account]
    exact ⟨rfl, rfl, rfl, rfl, fun _ => rfl, fun other => absurd woken other⟩
  · obtain ⟨st, out⟩ : ∃ st, t = (replyTaken j a slot u).enterFaulted a .wakeFailed st .faulted := by
      by_cases one : status = 1
      · subst one
        exact ⟨_, ht.trans ((commandAnswer_probeDone up owner waking reply).2 fun test => woken ⟨reply, test⟩)⟩
      · obtain ⟨r, answer, -, undone⟩ := commandAnswer_reply (slot := slot) up reply low high
        have state : ((replyTaken j a slot u).station x.entry.station).state = .waking := by
          rw [up.entry_station, self]
          exact waking
        rw [answer, handOff_wake_fails owner state (undone one), up.entry_station] at ht
        exact ⟨_, ht⟩
    rw [out, State.enterFaulted_station, if_pos ⟨rfl, h1, h15⟩, self, State.enterFaulted_account, ended.account]
    exact ⟨rfl, rfl, rfl, rfl, fun yes => absurd yes woken, fun _ => rfl⟩

/-- What the awakening queues, tells and answers (R83). -/
theorem probe_woken_tells (up : s.upSlotComes u j a slot x) (owner : x.entry.owner = .wake)
    (waking : (u.station a).state = .waking) (reply : isReply a 1 w) (woken : wakes u a w) (owns : OwnsWork u a)
    (ht : t = commandAnswer j slot x (classify a .replyOrWait (some w)) (beginSlot slot u)) :
    t.calls.queue = u.calls.queue ∧ stationTold a .active .woken u t ∧
    t.port.replies = u.port.replies ++ u.operationReply a .ok (.address a) := by
  obtain ⟨h1, h15⟩ := up.good
  have ended := replyTaken_over (u := u) (j := j) (slot := slot) h1 h15
  rw [(commandAnswer_probeDone up owner waking reply).1 woken] at ht
  generalize replyTaken j a slot u = v at *
  subst ht
  have operation : (v.station a).operation = (u.station a).operation := by rw [ended.station]
  have answered := State.moveStation_endOperation_answered (s := v) (a := a) (by rw [ended.port]; exact owns.differ)
    (by rw [operation, ended.port]; exact owns.operation) .active .woken .ok (.address a)
  refine ⟨by rw [(wokenUp_frame a v).2.1, ended.queue], ended.told fun n hn => by rwa [(wokenUp_frame a v).2.2], ?_⟩
  rw [wokenUp, answered.replies, ended.port, State.operationReply, operation, State.operationReply]

end

/-! ### The statement -/

/-- Settles O46, by the owner of the exchange and the class of the line. -/
theorem drowseAndProbeRepliesMoveStation : Obligations.DrowseAndProbeRepliesMoveStation := by
  intro s u j a slot x line up woken hwoken
  obtain ⟨h1, h15⟩ := up.good
  have station := up.entry_station
  have woken_iff : ∀ w, woken w ↔ isReply a 1 w ∧ wakes u a w := fun w => Iff.of_eq (hwoken w)
  refine ⟨_, exec_commandUpSlot line up, by simp [beginSlot],
    fun b hb => commandAnswer_others (s := beginSlot slot u) j slot x _ (by rwa [station]), ?_, ?_⟩
  · rintro w status rfl reply low high
    obtain ⟨r, answer, done, undone⟩ := commandAnswer_reply (slot := slot) up reply low high
    have freed := replyTaken_freed (u := u) (j := j) (slot := slot) h1 h15
    refine ⟨?_, ?_, fun owner active => ?_, fun owner waking => ?_⟩
    · rw [answer]
      exact (handOff_within ..).freed j freed.pair
    · rw [answer, (handOff_frame ..).2.2.1, replyTaken_faults]
    · exact drowse_replied up owner active (replyTaken_over h1 h15) freed (fun one => ⟨_, _, done one⟩) undone answer
    · rw [woken_iff]
      exact probe_replied up owner waking reply low high rfl
  · intro bounded agree owned
    have owns := ownsWork_of_invariants bounded owned up.released (mem_addresses.mpr ⟨h1, h15⟩)
    have state := up.state_needed owned
    refine ⟨fun owner => ?_, fun owner => ?_⟩
    · have active : (u.station a).state = .active := by rw [state, owner]; rfl
      refine ⟨fun w hw reply => ?_, fun st fails => drowse_fails_leaves up owner active fails agree owns rfl⟩
      subst hw
      exact drowse_done_tells up owner active reply owns rfl
    · have waking : (u.station a).state = .waking := by rw [state, owner]; rfl
      refine ⟨fun w hw yes => ?_, fun st reason fails => ?_⟩
      · subst hw
        obtain ⟨reply, test⟩ := (woken_iff w).mp yes
        exact probe_woken_tells up owner waking reply test owns rfl
      · have fails : probeFails u a x line st reason := by
          obtain fails | misses | ⟨status, why, w, hw, reply, other⟩ := fails
          · exact .inl fails
          · exact .inr (.inl misses)
          · exact .inr (.inr ⟨status, why, w, hw, reply, fun test => other ((woken_iff w).mpr ⟨reply, test⟩)⟩)
        obtain ⟨m, v, ended, answer⟩ := commandAnswer_probeFaulted up owner waking fails
        exact probeFaulted_leaves up owner waking ended bounded agree owned answer

end Sys2Proof.Machine
end

section

namespace Sys2Proof.Machine

/-! ## TRIM, POLICY and STATION INFO (R85, R87, R105) -/

section
variable {f : ReqFrame} {s : State} {a d : Nat}

theorem trim_taken (ha : f.param 0 = a) (taken : s.takesRequest .trim f) :
    exec .trim s = .next (
      if ¬ (1 ≤ a ∧ a ≤ 15) then s.refused .trim f .badParam
      else if (s.station a).state ≠ .active then s.refused .trim f .state
      else if (s.station a).hostTrim = true then s.refused .trim f .inProgress
      else if (s.account a).balance ≤ -8 then s.refused .trim f .aheadLimit
      else { s.entered .trim f (some a) .awaitingFrame none with
        stations := s.stations.set a { s.station a with hostTrim := true, refusals := 0 } }) := by
  have run : exec .trim s = .next (serveTrim f s.popIntake) := takesRequest_served serveTrim taken
  have limit : -Config.balanceLimit = (-8 : Int) := rfl
  rw [run]
  simp only [serveTrim, ha, limit, ← goodStation_iff, State.popIntake_refuse, State.popIntake_station,
    State.popIntake_account, Bool.not_eq_true, Bool.not_eq_eq_eq_not, Bool.not_true]
  rfl

theorem policy_taken (ha : f.param 0 = a) (hd : f.param 1 = d) (taken : s.takesRequest .policy f) :
    exec .policy s = .next (
      if ¬ (1 ≤ a ∧ a ≤ 15 ∧ 1 ≤ d ∧ d ≤ 8) then s.refused .policy f .badParam
      else if (s.station a).state = .absent then s.refused .policy f .state
      else { s.repliedOk .policy f (.policy a d) with
        stations := s.stations.set a { s.station a with depth := d } }) := by
  have run : exec .policy s = .next (servePolicy f s.popIntake) := takesRequest_served servePolicy taken
  have test : (!(goodStation a && 1 ≤ d && d ≤ 8)) = true ↔ ¬ (1 ≤ a ∧ a ≤ 15 ∧ 1 ≤ d ∧ d ≤ 8) := by
    rw [Bool.not_eq_true', ← Bool.not_eq_true, not_congr]
    simp only [Bool.and_eq_true, goodStation_iff, decide_eq_true_eq, and_assoc]
  rw [run]
  simp only [servePolicy, ha, hd, test, State.popIntake_refuse, State.popIntake_station]
  rfl

/-- The report's count of queued CALLs is that of the station's entries with owner CALL (R87, log entry 5). -/
theorem stationReport_eq (a : Nat) (s : State) : stationReport a s =
    { station := s.station a, account := s.account a, exchangeOrder := s.exchangeOrder a,
      wakePosition := s.stations.wakePosition a,
      queuedCalls := (s.calls.queue.filter (fun e => e.station == a && e.owner == .call)).length } := by
  rw [stationReport, List.countP_eq_length_filter]

theorem stationInfo_taken (ha : f.param 0 = a) (taken : s.takesRequest .stationInfo f) :
    exec .stationInfo s = .next (if 15 < a then s.refused .stationInfo f .badParam
      else s.repliedOk .stationInfo f
        (.stationInfo a (if a = 0 then none else some (stationReport a s)) (s.faultCell a))) := by
  have run : exec .stationInfo s = .next (serveStationInfo f s.popIntake) :=
    takesRequest_served serveStationInfo taken
  rw [run]
  simp only [serveStationInfo, ha, State.popIntake_refuse]
  rfl

end

/-- Settles O18: the tests of R105, R85 and R87 at the take, each with what its request writes. -/
theorem trimPolicyAndStationInfo : Obligations.TrimPolicyAndStationInfo := by
  intro f s a d ha hd
  refine ⟨trim_taken ha, policy_taken ha hd, fun taken => ?_⟩
  rw [stationInfo_taken ha taken, stationReport_eq]

end Sys2Proof.Machine
end

section

namespace Sys2Proof.Machine

/-! ## The service arbiter (R94 to R97) -/

/-- A frame start that is due is FRAME_START's (R4). -/
theorem exec_frameStart {s : State} (starts : s.startsFrame) : exec .frameStart s = .next (frameStart s) := by
  obtain ⟨low, due⟩ := State.startsFrame_due starts
  show execFrameStart s = _
  simp [execFrameStart, low, due]

section
variable (s : State)

/-! ### Eligibility (R94, R95) -/

theorem State.hasLiveStream_eq_false_iff (a : Nat) : s.hasLiveStream a = false ↔
    ∀ id st, id ∈ s.plans.active.streams → s.stream id = some st → st.station ≠ a := by
  simp only [State.hasLiveStream, List.any_eq_false, beq_iff_eq, Option.map_eq_some_iff, not_exists, not_and]
  exact ⟨fun h id st hid => h id hid st, fun h id hid st => h id st hid⟩

/-- The four grounds of R94. -/
def State.trimGround (a : Nat) : Prop :=
  (s.account a).balance = 8 ∨ ((s.station a).hostTrim = true ∧ -8 < (s.account a).balance) ∨
  ((s.station a).depth : Int) ≤ (s.account a).balance ∨
  (1 ≤ (s.account a).balance ∧ ∀ id st, id ∈ s.plans.active.streams → s.stream id = some st → st.station ≠ a)

theorem State.trimEligible_iff (a : Nat) : s.trimEligible a = true ↔
    (s.station a).state = .active ∧ (s.station a).exchange = none ∧ s.trimGround a := by
  simp only [State.trimEligible, State.trimGround, Config.balanceLimit, Bool.and_eq_true, Bool.or_eq_true, beq_iff_eq,
    Option.isNone_iff_eq_none, decide_eq_true_eq, Bool.not_eq_true', State.hasLiveStream_eq_false_iff, or_assoc,
    and_assoc]

theorem State.mem_ranked {a : Nat} : a ∈ s.ranked ↔ a ∈ addresses ∧ s.trimEligible a = true := by
  rw [State.ranked_perm.mem_iff, List.mem_filter]

theorem State.ranked_nodup : s.ranked.Nodup := State.ranked_perm.nodup_iff.mpr (addresses_nodup.filter _)

/-! ### The order of the ranked stations (R96) -/

/-- The four keys of R96, each deciding among stations equal in those before it. -/
def State.outranks (a b : Nat) : Prop :=
  ((s.account a).balance = 8 ∧ (s.account b).balance ≠ 8) ∨
  (((s.account a).balance = 8 ↔ (s.account b).balance = 8) ∧
    (((s.station a).hostTrim = true ∧ (s.station b).hostTrim = false) ∨
     ((s.station a).hostTrim = (s.station b).hostTrim ∧
       ((s.account b).balance < (s.account a).balance ∨
        ((s.account a).balance = (s.account b).balance ∧ a < b)))))

theorem State.ranksBefore_iff (a b : Nat) : s.ranksBefore a b = true ↔
    ((s.account a).balance = 8 ∧ (s.account b).balance ≠ 8) ∨
    (((s.account a).balance = 8 ↔ (s.account b).balance = 8) ∧
      (((s.station a).hostTrim = true ∧ (s.station b).hostTrim = false) ∨
       ((s.station a).hostTrim = (s.station b).hostTrim ∧ (s.account b).balance ≤ (s.account a).balance))) := by
  simp only [State.ranksBefore, Config.balanceLimit]
  grind

variable {s} {a b c : Nat}

theorem State.outranks_of_ranksBefore (h : s.ranksBefore a b = true) (lower : a < b) : s.outranks a b := by
  rw [State.ranksBefore_iff] at h
  unfold State.outranks
  grind

theorem State.outranks_of_not_ranksBefore (h : ¬ s.ranksBefore a b = true) : s.outranks b a := by
  rw [State.ranksBefore_iff] at h
  unfold State.outranks
  grind

theorem State.outranks_trans (h : s.outranks a b) (k : s.outranks b c) : s.outranks a c := by
  unfold State.outranks at *
  grind

/-- A station of lower address takes its place among those ranked. -/
theorem State.rankInto_sorted : ∀ {l : List Nat}, l.Pairwise s.outranks → (∀ b ∈ l, a < b) →
    (s.rankInto a l).Pairwise s.outranks
  | [], _, _ => List.pairwise_singleton ..
  | b :: rest, sorted, lower => by
    obtain ⟨first, sorted⟩ := List.pairwise_cons.mp sorted
    unfold State.rankInto
    split
    · next before =>
      have ahead := State.outranks_of_ranksBefore before (lower b List.mem_cons_self)
      refine List.pairwise_cons.mpr ⟨fun c hc => ?_, List.pairwise_cons.mpr ⟨first, sorted⟩⟩
      obtain rfl | hc := List.mem_cons.mp hc
      · exact ahead
      · exact State.outranks_trans ahead (first c hc)
    · next behind =>
      refine List.pairwise_cons.mpr ⟨fun c hc => ?_,
        State.rankInto_sorted sorted fun c hc => lower c (List.mem_cons_of_mem b hc)⟩
      obtain rfl | hc := List.mem_cons.mp ((State.rankInto_perm a rest).mem_iff.mp hc)
      · exact State.outranks_of_not_ranksBefore behind
      · exact first c hc

/-- Stations in ascending order are ranked in the order of the keys. -/
theorem State.foldr_rankInto_sorted : ∀ {l : List Nat}, l.Pairwise (· < ·) →
    (l.foldr s.rankInto []).Perm l ∧ (l.foldr s.rankInto []).Pairwise s.outranks
  | [], _ => ⟨.refl _, .nil⟩
  | a :: l, ascending => by
    obtain ⟨lower, ascending⟩ := List.pairwise_cons.mp ascending
    obtain ⟨perm, sorted⟩ := State.foldr_rankInto_sorted ascending
    exact ⟨(State.rankInto_perm a _).trans (perm.cons a),
      State.rankInto_sorted sorted fun b hb => lower b (perm.mem_iff.mp hb)⟩

theorem addresses_ascending : addresses.Pairwise (· < ·) := by decide

theorem State.ranked_sorted (s : State) : s.ranked.Pairwise s.outranks :=
  (State.foldr_rankInto_sorted (addresses_ascending.filter _)).2

end

/-! ### The grants of the service pairs (R96, R97) -/

/-- Service pairs that take up trim exchanges, one after another. -/
def PairView.grantTrims (grants : List (Nat × Nat)) (v : PairView) : PairView :=
  grants.foldl (fun v g => v.grantTrim g.1 g.2) v

theorem grantService_foldl_pairView : ∀ (grants : List (Nat × Nat)) (s : State),
    (∀ g ∈ grants, g.1 ∈ pairNumbers ∧ g.2 ∈ addresses) →
    (grants.foldl grantService s).pairView = s.pairView.grantTrims grants
  | [], _, _ => rfl
  | g :: grants, s, good => by
    obtain ⟨pair, station⟩ := good g List.mem_cons_self
    rw [List.foldl_cons, grantService_foldl_pairView grants _ fun g' h => good g' (List.mem_cons_of_mem g h),
      grantService_pairView pair station]
    rfl

/-- A pair that is not granted holds what it held. -/
theorem PairView.grantTrims_held_of_not_mem {k : Nat} (grants : List (Nat × Nat)) (v : PairView)
    (out : ∀ g ∈ grants, g.1 ≠ k) : (v.grantTrims grants).held k = v.held k := by
  refine foldl_keeps_mem (P := fun w : PairView => w.held k = v.held k) grants v (fun w g hg kept => ?_) rfl
  simpa [PairView.grantTrim, out g hg] using kept

theorem PairView.grantTrims_field_of_not_mem {a : Nat} (grants : List (Nat × Nat)) (v : PairView)
    (out : ∀ g ∈ grants, g.2 ≠ a) : (v.grantTrims grants).field a = v.field a := by
  refine foldl_keeps_mem (P := fun w : PairView => w.field a = v.field a) grants v (fun w g hg kept => ?_) rfl
  simpa [PairView.grantTrim, out g hg] using kept

/-- Different pairs granted to different stations: each pair holds its station and each station names its pair. -/
theorem PairView.grantTrims_granted {k a : Nat} : ∀ (ks as : List Nat) (v : PairView), ks.Nodup → as.Nodup →
    (k, a) ∈ ks.zip as →
    (v.grantTrims (ks.zip as)).held k = some a ∧ (v.grantTrims (ks.zip as)).field a = some (.service k)
  | [], _, _, _, _, mem => absurd mem List.not_mem_nil
  | _ :: _, [], _, _, _, mem => absurd mem List.not_mem_nil
  | j :: ks, b :: as, v, pairs, stations, mem => by
    obtain ⟨pair, pairs⟩ := List.nodup_cons.mp pairs
    obtain ⟨station, stations⟩ := List.nodup_cons.mp stations
    have later : ∀ g ∈ ks.zip as, g.1 ≠ j ∧ g.2 ≠ b := fun g hg =>
      have ⟨first, second⟩ := List.of_mem_zip hg
      ⟨fun e => pair (e ▸ first), fun e => station (e ▸ second)⟩
    obtain ⟨rfl, rfl⟩ | mem := (List.mem_cons.mp mem).imp_left Prod.mk.inj
    · refine ⟨(PairView.grantTrims_held_of_not_mem _ _ fun g hg => (later g hg).1).trans ?_,
        (PairView.grantTrims_field_of_not_mem _ _ fun g hg => (later g hg).2).trans ?_⟩
      · exact if_pos rfl
      · exact if_pos rfl
    · exact PairView.grantTrims_granted ks as _ pairs stations mem

/-- What a pair holds after the grants it held before, or was granted. -/
theorem PairView.grantTrims_held {k a : Nat} : ∀ (grants : List (Nat × Nat)) (v : PairView),
    (v.grantTrims grants).held k = some a → v.held k = some a ∨ (k, a) ∈ grants
  | [], _, held => .inl held
  | g :: grants, v, held => by
    obtain before | mem := PairView.grantTrims_held grants _ held
    · by_cases here : g.1 = k
      · refine .inr (List.mem_cons.mpr (.inl ?_))
        subst here
        simp only [PairView.grantTrim, if_true, Option.some.injEq] at before
        rw [← before]
      · exact .inl (by simpa [PairView.grantTrim, here] using before)
    · exact .inr (List.mem_cons_of_mem g mem)

section
variable (s : State)

/-- The pairs in force, each with the station ranked at its place (R96). -/
def State.serviceGrants : List (Nat × Nat) := (pairNumbers.take s.engine.setup.service).zip s.ranked

theorem State.mem_serviceGrants {k a : Nat} : (k, a) ∈ s.serviceGrants ↔
    1 ≤ k ∧ k ≤ s.engine.setup.service ∧ k ≤ 4 ∧ s.ranked[k - 1]? = some a := by
  have place : ∀ i, (pairNumbers.take s.engine.setup.service)[i]? = some k ↔
      i < s.engine.setup.service ∧ i < 4 ∧ i + 1 = k := fun i => by
    simp only [pairNumbers, List.getElem?_take, List.getElem?_map]
    grind
  simp only [State.serviceGrants, List.mem_iff_getElem?, List.getElem?_zip_eq_some, place]
  constructor
  · rintro ⟨i, ⟨inForce, four, rfl⟩, ranked⟩
    exact ⟨by omega, inForce, four, ranked⟩
  · rintro ⟨first, inForce, four, ranked⟩
    exact ⟨k - 1, ⟨by omega, by omega, by omega⟩, ranked⟩

theorem grantServices_pairView : (grantServices s).pairView = s.pairView.grantTrims s.serviceGrants :=
  grantService_foldl_pairView _ s fun g hg => by
    obtain ⟨first, -, four, ranked⟩ := s.mem_serviceGrants.mp hg
    exact ⟨mem_pairNumbers.mpr ⟨first, four⟩, (s.mem_ranked.mp (List.mem_of_getElem? ranked)).1⟩

/-- Pair k goes to the k-th station ranked (R96, R97). -/
theorem grantServices_granted {k a : Nat} (grant : (k, a) ∈ s.serviceGrants) :
    (grantServices s).trims.held k = some a ∧ ((grantServices s).station a).exchange = some (.service k) := by
  have pairs : (pairNumbers.take s.engine.setup.service).Nodup :=
    (by decide : pairNumbers.Nodup).sublist (List.take_sublist ..)
  have granted := PairView.grantTrims_granted _ _ s.pairView pairs s.ranked_nodup grant
  rw [← State.serviceGrants] at granted
  rwa [← grantServices_pairView] at granted

/-- What a service pair holds after the grants it held before, or was granted. -/
theorem grantServices_held {k a : Nat} (held : (grantServices s).trims.held k = some a) :
    s.trims.held k = some a ∨ (k, a) ∈ s.serviceGrants := by
  have view : (grantServices s).pairView.held k = some a := held
  rw [grantServices_pairView] at view
  exact PairView.grantTrims_held _ _ view

end

/-! ### A station's record through the grants of a frame start (R69, R97, R114) -/

/-- A station to which no command pair is granted: one with an exchange in flight, or FAULTED (R115). -/
def Station.shut (r : Station) : Prop := r.exchange ≠ none ∨ r.state = .faulted

theorem Entry.needs_ne_faulted (e : Entry) : e.needs ≠ .faulted := by
  unfold Entry.needs
  split <;> simp

/-- The grant of a command pair leaves a record or writes its exchange-in-flight field. -/
theorem grantPair_station (s : State) (j a : Nat) : (grantPair s j).station a = s.station a ∨
    (¬ (s.station a).shut ∧ (grantPair s j).station a = { s.station a with exchange := some (.command j) }) := by
  unfold grantPair
  split
  · split
    · exact .inl rfl
    · next e he =>
      have eligible := List.find?_some he
      simp only [State.entryEligible, Bool.and_eq_true, Option.isNone_iff_eq_none, beq_iff_eq] at eligible
      obtain ⟨⟨⟨free, state⟩, -⟩, -⟩ := eligible
      by_cases here : e.station = a ∧ 1 ≤ e.station ∧ e.station ≤ 15
      · obtain ⟨rfl, range⟩ := here
        refine .inr ⟨by simp [Station.shut, free, state, e.needs_ne_faulted], ?_⟩
        rw [State.setPhase_station, State.onStation_station, if_pos ⟨rfl, range⟩]
        rfl
      · refine .inl ?_
        rw [State.setPhase_station, State.onStation_station, if_neg here]
        rfl
  · exact .inl rfl

theorem grantCommands_station_of_shut {s : State} {a : Nat} (shut : (s.station a).shut) :
    (grantCommands s).station a = s.station a := by
  refine foldl_keeps (P := fun t : State => t.station a = s.station a) (fun t j same => ?_) pairNumbers s rfl
  obtain kept | ⟨opened, -⟩ := grantPair_station t j a
  · exact kept.trans same
  · exact absurd (same ▸ shut) opened

theorem nameWake_exchange_field (s : State) (a : Nat) :
    ((nameWake s).station a).exchange = (s.station a).exchange :=
  congrFun (congrArg PairView.field (nameWake_pairView s)) a

/-- In RUNNING the k-th station ranked in the state that the accrual leaves has pair k in the frame that starts (R97). -/
theorem frameStart_granted {s : State} {k a : Nat} (running : s.engine.trunk = .running)
    (grant : (k, a) ∈ s.beforeGrants.serviceGrants) :
    (frameStart s).trims.held k = some a ∧ ((frameStart s).station a).exchange = some (.service k) := by
  obtain ⟨held, field⟩ := grantServices_granted s.beforeGrants grant
  have shut : ((grantServices s.beforeGrants).station a).shut := .inl (by simp [field])
  rw [frameStart_eq, if_pos running, grantFrame, (nameWake_frame _).2.2.1, (grantCommands_frame _).2.2.2.1,
    nameWake_exchange_field, grantCommands_station_of_shut shut]
  exact ⟨held, field⟩

theorem frameStart_held {s : State} {k a : Nat} (running : s.engine.trunk = .running)
    (held : (frameStart s).trims.held k = some a) :
    s.beforeGrants.trims.held k = some a ∨ (k, a) ∈ s.beforeGrants.serviceGrants := by
  rw [frameStart_eq, if_pos running, grantFrame, (nameWake_frame _).2.2.1, (grantCommands_frame _).2.2.2.1] at held
  exact grantServices_held _ held

/-- Settles O33: the arbiter's test and keys read off `ranked`, and its grants through the pairs' view. -/
theorem serviceArbiterOrder : Obligations.ServiceArbiterOrder := by
  refine ⟨fun s => ⟨fun a => ?_, s.ranked_sorted, fun k first inForce four a ranked =>
    grantServices_granted s (s.mem_serviceGrants.mpr ⟨first, inForce, four, ranked⟩)⟩, ?_⟩
  · rw [State.mem_ranked, mem_addresses, State.trimEligible_iff, and_assoc]
    rfl
  · intro s u starts running before
    rw [before]
    have inForce : s.beforeGrants.engine.setup.service = s.engine.setup.service := by rw [beforeGrants_engine]; rfl
    refine ⟨frameStart s, exec_frameStart starts, fun k a first below four ranked => ?_, fun k a held => ?_⟩
    · exact frameStart_granted running (s.beforeGrants.mem_serviceGrants.mpr ⟨first, below.trans_eq inForce.symm, four, ranked⟩)
    · obtain before | grant := frameStart_held running held
      · exact .inl before
      · obtain ⟨first, below, -, ranked⟩ := s.beforeGrants.mem_serviceGrants.mp grant
        exact .inr ⟨first, below.trans_eq inForce, ranked⟩

end Sys2Proof.Machine
end

section

namespace Sys2Proof.Machine

/-! ## What the events of other stations spare (R90, R91, R103)

A frame start deals with the stations one after another. `Spared a` says that a step leaves station a out: its record,
its trim account and the streams that name it. -/

structure Spared (a : Nat) (s t : State) : Prop where
  station : t.station a = s.station a
  account : t.account a = s.account a
  streams : ∀ id st, st.station = a → (t.stream id = some st ↔ s.stream id = some st)

namespace Spared

variable {a b : Nat} {s t u : State}

theorem refl : Spared a s s := ⟨rfl, rfl, fun _ _ _ => .rfl⟩

theorem trans (h : Spared a s t) (k : Spared a t u) : Spared a s u :=
  ⟨k.station.trans h.station, k.account.trans h.account,
    fun id st hst => (k.streams id st hst).trans (h.streams id st hst)⟩

theorem of_eq (station : t.station a = s.station a) (account : t.account a = s.account a)
    (streams : t.streams = s.streams) : Spared a s t :=
  ⟨station, account, fun id st _ => by simp only [State.stream, streams]⟩

theorem foldl {f : State → Nat → State} (l : List Nat) (s : State) (h : ∀ t, ∀ b ∈ l, Spared a t (f t b)) :
    Spared a s (l.foldl f s) :=
  foldl_keeps_mem (P := Spared a s) l s (fun t b hb kept => kept.trans (h t b hb)) refl

section
variable (s) (other : b ≠ a)
include other

theorem onStation (f : Station → Station) : Spared a s (s.onStation b f) :=
  .of_eq (by simp [other]) rfl rfl

theorem onAccount (f : TrimAccount → TrimAccount) : Spared a s (s.onAccount b f) :=
  .of_eq rfl (by simp [other]) rfl

theorem moveStation (new : StationState) (reason : Reason) : Spared a s (s.moveStation b new reason) where
  station := by simp [other]
  account := by simp
  streams id st hst := by
    rw [State.moveStation_eq, State.followStation_stream]
    simp only [State.offer_stream, State.onStation_stream, Option.map_eq_some_iff, Stream.followed_eq]
    constructor
    · rintro ⟨st', hst', rfl⟩
      have away : st'.station ≠ b := fun here => other (by simpa [here] using hst)
      rwa [if_neg away]
    · exact fun present => ⟨st, present, if_neg (hst ▸ other.symm)⟩

theorem endHostTrim (st : Status) (body : ReplyBody) : Spared a s (s.endHostTrim b st body) :=
  .of_eq (by simp [other]) (by simp) (by simp)

theorem quietSpanEnds : Spared a s (quietSpanEnds b s) := by
  unfold Machine.quietSpanEnds
  exact ((Spared.moveStation s other .active .trimEnd).trans (Spared.endHostTrim _ other ..)).trans
    (Spared.onAccount _ other _)

theorem enterFaulted (reason : Reason) (o w : Status) : Spared a s (s.enterFaulted b reason o w) where
  station := by rw [State.enterFaulted_station, if_neg fun h => other h.1]
  account := by rw [State.enterFaulted_account]
  streams id st hst := by
    rw [State.stream, State.enterFaulted_streams]
    exact (Spared.moveStation s other .faulted reason).streams id st hst

theorem accrueStation : Spared a s (accrueStation s b) := by
  have due : Spared a s (trimFallsDue b s) := by
    simp only [trimFallsDue, breach]
    repeat' split
    · exact (Spared.onAccount s other _).trans (Spared.onAccount _ other _)
    · exact (Spared.onAccount s other _).trans (Spared.enterFaulted _ other ..)
    · exact Spared.onAccount s other _
  unfold Machine.accrueStation
  repeat' split
  · exact due
  · exact Spared.onAccount s other _
  · exact .refl

end

end Spared

/-! ### A station's turn among the others -/

theorem addresses_around : ∀ a ∈ addresses,
    addresses = addresses.filter (· < a) ++ a :: addresses.filter (a < ·) := by decide

/-- A pass over the stations: those of lower address, the station itself, those of higher address. -/
theorem addresses_foldl {a : Nat} (ha : a ∈ addresses) (f : State → Nat → State) (s : State) :
    addresses.foldl f s =
      (addresses.filter (a < ·)).foldl f (f ((addresses.filter (· < a)).foldl f s) a) := by
  conv_lhs => rw [addresses_around a ha]
  rw [List.foldl_append, List.foldl_cons]

theorem ne_of_mem_lower {a b : Nat} (h : b ∈ addresses.filter (· < a)) : b ≠ a :=
  Nat.ne_of_lt (by simpa using (List.mem_filter.mp h).2)

theorem ne_of_mem_higher {a b : Nat} (h : b ∈ addresses.filter (a < ·)) : b ≠ a :=
  Nat.ne_of_gt (by simpa using (List.mem_filter.mp h).2)

/-! ## Quiet spans that end (R103, R106) -/

/-- Step 1 of R93 for one station. -/
def endQuietSpan (s : State) (a : Nat) : State :=
  if s.quietEnds s.engine.frameNumber a then quietSpanEnds a s else s

theorem endQuietSpans_eq (s : State) : endQuietSpans s = addresses.foldl endQuietSpan s := rfl

theorem endQuietSpan_engine (s : State) (a : Nat) : (endQuietSpan s a).engine = s.engine := by
  unfold endQuietSpan
  split <;> simp

theorem endQuietSpan_edits (s : State) (a : Nat) : Edits s (endQuietSpan s a) := by
  unfold endQuietSpan
  split
  · exact quietSpanEnds_edits s a
  · exact .refl s

theorem endQuietSpan_spared {a b : Nat} (s : State) (other : b ≠ a) : Spared a s (endQuietSpan s b) := by
  unfold endQuietSpan
  split
  · exact .quietSpanEnds s other
  · exact .refl

/-- The state in which station a's turn comes: the quiet spans of the stations before it have ended. -/
def State.beforeQuietEnd (a : Nat) (s : State) : State := (addresses.filter (· < a)).foldl endQuietSpan s

theorem State.beforeQuietEnd_spared (a : Nat) (s : State) : Spared a s (s.beforeQuietEnd a) :=
  .foldl _ s fun t _ hb => endQuietSpan_spared t (ne_of_mem_lower hb)

theorem State.beforeQuietEnd_engine (a : Nat) (s : State) : (s.beforeQuietEnd a).engine = s.engine :=
  foldl_same (p := State.engine) endQuietSpan_engine _ _

theorem endQuietSpans_after {a : Nat} (ha : a ∈ addresses) (s : State) :
    Spared a (endQuietSpan (s.beforeQuietEnd a) a) (endQuietSpans s) ∧
    Edits (endQuietSpan (s.beforeQuietEnd a) a) (endQuietSpans s) := by
  rw [endQuietSpans_eq, addresses_foldl ha]
  exact ⟨.foldl _ _ fun t _ hb => endQuietSpan_spared t (ne_of_mem_higher hb), .foldl endQuietSpan_edits _ _⟩

/-- At its turn a station's quiet span ends exactly where it did before the others (R103). -/
theorem State.beforeQuietEnd_quietEnds (a : Nat) (s : State) :
    (s.beforeQuietEnd a).quietEnds (s.beforeQuietEnd a).engine.frameNumber a = s.quietEnds s.engine.frameNumber a := by
  have spared := s.beforeQuietEnd_spared a
  simp only [State.quietEnds, spared.station, spared.account, s.beforeQuietEnd_engine]

/-- A station whose quiet span does not end is left out. -/
theorem endQuietSpans_spared {a : Nat} (ha : a ∈ addresses) {s : State}
    (goes : s.quietEnds s.engine.frameNumber a = false) : Spared a s (endQuietSpans s) := by
  have stays : endQuietSpan (s.beforeQuietEnd a) a = s.beforeQuietEnd a := by
    rw [endQuietSpan, State.beforeQuietEnd_quietEnds, goes]
    rfl
  exact (s.beforeQuietEnd_spared a).trans (stays ▸ (endQuietSpans_after ha s).1)

/-- The quiet span of a station ends, and the others leave it out. -/
theorem endQuietSpans_ends {a : Nat} (ha : a ∈ addresses) {s : State}
    (ends : s.quietEnds s.engine.frameNumber a = true) :
    Spared a (quietSpanEnds a (s.beforeQuietEnd a)) (endQuietSpans s) ∧
    Edits (quietSpanEnds a (s.beforeQuietEnd a)) (endQuietSpans s) := by
  have turn : endQuietSpan (s.beforeQuietEnd a) a = quietSpanEnds a (s.beforeQuietEnd a) := by
    rw [endQuietSpan, State.beforeQuietEnd_quietEnds, ends]
    rfl
  exact turn ▸ endQuietSpans_after ha s

section
variable (s : State) {a : Nat} (h1 : 1 ≤ a) (h15 : a ≤ 15)
include h1 h15

/-- The record after the quiet end: ACTIVE, with no host TRIM (R103, R106). -/
theorem quietSpanEnds_station : (quietSpanEnds a s).station a =
    { s.station a with
      state := .active, hostTrim := false,
      refusals := if (s.station a).hostTrim then 0 else (s.station a).refusals } := by
  unfold quietSpanEnds
  rw [State.endQuiet_station, State.endHostTrim_station, State.moveStation_station]
  cases flag : (s.station a).hostTrim <;> simp [h1, h15, flag]

/-- The quiet end and the acknowledged pair are removed; the balance and the countdown stay (R103). -/
theorem quietSpanEnds_account : (quietSpanEnds a s).account a =
    { s.account a with quietEnd := none, ackPair := none } := by
  simp [quietSpanEnds, State.endQuiet, h1, h15]

/-- The streams of the active plan that name the station are LIVE (R47, R103). -/
theorem quietSpanEnds_stream (id : Nat) :
    (quietSpanEnds a s).stream id = (s.stream id).map (Stream.followed a true) := by
  have streams : (quietSpanEnds a s).streams = (s.moveStation a .active .trimEnd).streams := by simp [quietSpanEnds]
  rw [State.stream, streams]
  exact s.moveStation_stream a id .active .trimEnd (goodStation_iff.mpr ⟨h1, h15⟩)

end

/-! ## Accrual (R90, R91) -/

/-- One frame start of the account of a station that accrues, below a breach or at it (R90, R91). -/
def TrimAccount.accrued (reload : Nat) (c : TrimAccount) : TrimAccount :=
  if c.countdown - 1 = 0 then
    { c with countdown := reload, balance := if c.balance < 8 then c.balance + 1 else c.balance }
  else { c with countdown := c.countdown - 1 }

/-- The trim of an ACTIVE station falls due with the balance at its limit (R91). -/
def State.breaches (s : State) (a : Nat) : Prop :=
  (s.station a).state = .active ∧ (s.account a).countdown - 1 = 0 ∧ ¬ (s.account a).balance < 8

/-- The countdown is reloaded (R90). -/
def State.reloaded (a : Nat) (s : State) : State :=
  s.onAccount a (fun c => { c with countdown := (s.station a).interval.getD 0 * 16 })

section
variable {s : State} {a : Nat}

theorem trimFallsDue_eq (h1 : 1 ≤ a) (h15 : a ≤ 15) : trimFallsDue a s =
    if (s.account a).balance < 8 then (s.reloaded a).onAccount a (fun c => { c with balance := c.balance + 1 })
    else breach a (s.reloaded a) := by
  have balance : ((s.reloaded a).account a).balance = (s.account a).balance := by simp [State.reloaded, h1, h15]
  rw [← balance]
  rfl

theorem accrueStation_of_breaches (h1 : 1 ≤ a) (h15 : a ≤ 15) (h : s.breaches a) :
    accrueStation s a = (s.reloaded a).enterFaulted a .breach .faulted .faulted := by
  obtain ⟨active, due, limit⟩ := h
  have state : ((s.reloaded a).station a).state = .active := active
  have accrues : s.accrues a = true := by simp [State.accrues, active]
  rw [accrueStation, if_pos accrues, if_pos due, trimFallsDue_eq h1 h15, if_neg limit, breach, if_pos state]

/-- Where the station does not breach accrual writes its account alone (R90). -/
theorem accrueStation_of_not_breaches (h1 : 1 ≤ a) (h15 : a ≤ 15) (h : ¬ s.breaches a) :
    accrueStation s a = { s with trims := (accrueStation s a).trims } := by
  unfold accrueStation
  split
  · split
    · next due =>
      rw [trimFallsDue_eq h1 h15]
      split
      · rfl
      · next limit =>
        have idle : ((s.reloaded a).station a).state ≠ .active := fun active => h ⟨active, due, limit⟩
        rw [breach, if_neg idle]
        rfl
    · rfl
  · rfl

theorem accrueStation_account (h1 : 1 ≤ a) (h15 : a ≤ 15) (accrues : s.accrues a = true) :
    (accrueStation s a).account a = (s.account a).accrued ((s.station a).interval.getD 0 * 16) := by
  have breached : ∀ t : State, (breach a t).account = t.account := fun t => by
    unfold breach
    split
    · rw [State.enterFaulted_account]
    · rfl
  unfold TrimAccount.accrued accrueStation
  rw [if_pos accrues]
  split
  · rw [trimFallsDue_eq h1 h15]
    split
    · simp [State.reloaded, h1, h15]
    · rw [breached]
      simp [State.reloaded, h1, h15]
  · simp [h1, h15]

theorem accrueStation_queue (s : State) (a : Nat) :
    ∀ e ∈ (accrueStation s a).calls.queue, e ∈ s.calls.queue := by
  have due : ∀ e ∈ (trimFallsDue a s).calls.queue, e ∈ s.calls.queue := by
    simp only [trimFallsDue, breach]
    repeat' split
    · exact fun _ h => h
    · rw [State.enterFaulted_queue]
      exact fun _ h => List.mem_of_mem_filter h
    · exact fun _ h => h
  unfold accrueStation
  repeat' split
  · exact due
  · exact fun _ h => h
  · exact fun _ h => h

theorem State.beforeAccrual_spared (s : State) (a : Nat) :
    Spared a (endQuietSpans (planSwap (assignFrame s))) (s.beforeAccrual a) :=
  .foldl _ _ fun t _ hb => .accrueStation t (ne_of_mem_lower hb)

theorem State.beforeAccrual_low (s : State) (a : Nat) : (s.beforeAccrual a).port.rstnLow = s.port.rstnLow := by
  have accrued : EngineKept _ (s.beforeAccrual a) := .foldl accrueStation_kept _ _
  rw [accrued.low, (endQuietSpans_kept _).low, (planSwap_kept _).low]
  rfl

theorem State.beforeGrants_at (s : State) (ha : a ∈ addresses) : s.beforeGrants =
    (addresses.filter (a < ·)).foldl accrueStation (accrueStation (s.beforeAccrual a) a) := by
  rw [State.beforeGrants, accrue, addresses_foldl ha]
  rfl

theorem State.beforeGrants_spared (s : State) (ha : a ∈ addresses) :
    Spared a (accrueStation (s.beforeAccrual a) a) s.beforeGrants := by
  rw [s.beforeGrants_at ha]
  exact .foldl _ _ fun t _ hb => .accrueStation t (ne_of_mem_higher hb)

theorem State.beforeGrants_queue (s : State) (ha : a ∈ addresses) :
    ∀ e ∈ s.beforeGrants.calls.queue, e ∈ (accrueStation (s.beforeAccrual a) a).calls.queue := by
  rw [s.beforeGrants_at ha]
  exact foldl_keeps (P := fun t : State => ∀ e ∈ t.calls.queue,
    e ∈ (accrueStation (s.beforeAccrual a) a).calls.queue)
    (fun t b kept e he => kept e (accrueStation_queue t b e he)) _ _ fun _ h => h

end

/-! ## The grants of a frame start, as a station sees them (R97, R114) -/

/-- Two records differ in the exchange-in-flight field and the wake countdown at most. -/
def Station.sameButGrant (r r' : Station) : Prop :=
  r' = { r with exchange := r'.exchange, wakeCountdown := r'.wakeCountdown }

theorem Station.sameButGrant.trans {r r' r'' : Station} (h : r.sameButGrant r') (k : r'.sameButGrant r'') :
    r.sameButGrant r'' := by
  unfold Station.sameButGrant at *
  rw [k, h]

section
variable (s : State) (a : Nat)

theorem State.onStation_sameButGrant (b : Nat) (f : Station → Station)
    (h : ∀ r : Station, r.sameButGrant (f r) := by exact fun _ => rfl) :
    (s.station a).sameButGrant ((s.onStation b f).station a) := by
  rw [State.onStation_station]
  split
  · next here => exact here.1 ▸ h _
  · rfl

theorem grantServices_record : (s.station a).sameButGrant ((grantServices s).station a) :=
  foldl_keeps (P := fun t : State => (s.station a).sameButGrant (t.station a)) (f := grantService)
    (fun t g same => same.trans ((t.holdTrim g.1 (some g.2)).onStation_sameButGrant a g.2
      fun r => { r with exchange := some (.service g.1) })) _ s rfl

theorem grantCommands_record : (s.station a).sameButGrant ((grantCommands s).station a) := by
  refine foldl_keeps (P := fun t : State => (s.station a).sameButGrant (t.station a)) (fun t j same => ?_) _ s rfl
  obtain kept | ⟨-, granted⟩ := grantPair_station t j a
  · rwa [kept]
  · rw [granted]
    exact same.trans rfl

theorem nameWake_record : (s.station a).sameButGrant ((nameWake s).station a) := by
  unfold nameWake
  split
  · rfl
  · exact State.onStation_sameButGrant _ a _ _

theorem frameStart_record : (s.beforeGrants.station a).sameButGrant ((frameStart s).station a) := by
  rw [frameStart_eq]
  split
  · exact ((grantServices_record _ a).trans (grantCommands_record _ a)).trans (nameWake_record _ a)
  · rfl

/-- A station that is not ranked is granted no service pair. -/
theorem grantServices_exchange_of_not_ranked (out : a ∉ s.ranked) :
    ((grantServices s).station a).exchange = (s.station a).exchange := by
  have view := PairView.grantTrims_field_of_not_mem (a := a) s.serviceGrants s.pairView
    fun g hg here => out (here ▸ (List.of_mem_zip hg).2)
  rwa [← grantServices_pairView] at view

/-- A FAULTED station is granted nothing (R94, R115). -/
theorem frameStart_exchange_of_faulted (faulted : (s.beforeGrants.station a).state = .faulted) :
    ((frameStart s).station a).exchange = (s.beforeGrants.station a).exchange := by
  rw [frameStart_eq]
  split
  · have out : a ∉ s.beforeGrants.ranked := fun ranked => by
      have active := ((State.trimEligible_iff _ a).mp (s.beforeGrants.mem_ranked.mp ranked).2).1
      simp [faulted] at active
    have shut : ((grantServices s.beforeGrants).station a).shut := by
      rw [Station.shut, grantServices_record s.beforeGrants a]
      exact .inr faulted
    rw [grantFrame, nameWake_exchange_field, grantCommands_station_of_shut shut,
      grantServices_exchange_of_not_ranked _ _ out]
  · rfl

theorem grantPair_queue (j : Nat) : ∀ e ∈ (grantPair s j).calls.queue, e ∈ s.calls.queue := by
  unfold grantPair
  split
  · split
    · exact fun _ h => h
    · intro e he
      rw [State.setPhase_calls, State.onStation_calls, State.setExchange_calls, CallUnit.set_queue] at he
      exact List.mem_of_mem_erase he
  · exact fun _ h => h

theorem grantCommands_queue : ∀ e ∈ (grantCommands s).calls.queue, e ∈ s.calls.queue :=
  foldl_keeps (P := fun t : State => ∀ e ∈ t.calls.queue, e ∈ s.calls.queue)
    (fun t j kept e he => kept e (grantPair_queue t j e he)) _ s fun _ h => h

/-- The grants take entries from the command queue and add none (R114). -/
theorem frameStart_queue : ∀ e ∈ (frameStart s).calls.queue, e ∈ s.beforeGrants.calls.queue := by
  rw [frameStart_eq]
  split
  · intro e he
    rw [grantFrame, (nameWake_frame _).2.2.2.1] at he
    have granted := grantCommands_queue _ e he
    rwa [(grantServices_frame _).2.2.2.1] at granted
  · exact fun _ h => h

/-- The grants change no trim account, no stream and no notice. -/
theorem frameStart_granting : (frameStart s).account = s.beforeGrants.account ∧
    (frameStart s).streams = s.beforeGrants.streams ∧ Edits s.beforeGrants (frameStart s) := by
  have services : (grantServices s.beforeGrants).account = s.beforeGrants.account :=
    foldl_same (p := State.account) (fun t g => by funext b; simp [grantService]) _ _
  have rest : ∀ t : State, (nameWake (grantCommands t)).account = t.account := fun t => by
    simp only [funext_iff, State.account, nameWake_frame, grantCommands_frame, implies_true]
  rw [frameStart_eq]
  split
  · exact ⟨(rest _).trans services, by simp,
      ((grantServices_edits _).trans (grantCommands_edits _)).trans (nameWake_edits _)⟩
  · exact ⟨rfl, rfl, .refl _⟩

end

/-! ## Notices and markers that stay (R165, R166) -/

/-- No edit takes a marker or a notice from the queue. -/
theorem Edits.marked {s t : State} (h : Edits s t) : ∀ id, s.notices.marked id = true → t.notices.marked id = true := by
  induction h with
  | aside h => exact fun id marked => by rwa [h.notices]
  | moved s a new reason =>
    intro id marked
    rw [State.moveStation_eq]
    refine (State.followStreams_grow a streamIds _).1 id ?_
    rwa [State.offer_notices, NoticeQueue.offer_marked]
  | worked | held => exact fun _ marked => marked
  | noticed s => exact fun id marked => by rwa [State.offer_notices, NoticeQueue.offer_marked]
  | data | space => exact fun id marked => (NoticeQueue.offerMarker_grows ..).1 id marked
  | trans _ _ h k => exact fun id marked => k id (h id marked)

theorem Edits.noticed_stays {s t : State} (h : Edits s t) {n : Notice} (mem : n ∈ s.notices.entries) :
    n ∈ t.notices.entries := by
  obtain ⟨more, entries, -⟩ := h.grows.entries
  exact entries ▸ List.mem_append_left more mem

end Sys2Proof.Machine
end

section

namespace Sys2Proof.Machine

/-! ## A station behind its accrual (R4, R93) -/

/-- What is left of a frame start behind the accrual of station a: its record but for a grant, its account and its
streams stay, and of the rest there are edits alone. -/
structure SparedButGrants (a : Nat) (s t : State) : Prop where
  record : (s.station a).sameButGrant (t.station a)
  faulted : (s.station a).state = .faulted → (t.station a).exchange = (s.station a).exchange
  account : t.account a = s.account a
  streams : ∀ id st, st.station = a → (t.stream id = some st ↔ s.stream id = some st)
  queue : ∀ e ∈ t.calls.queue, e ∈ s.calls.queue
  edits : Edits s t

theorem frameStart_behind_accrual (s : State) {a : Nat} (ha : a ∈ addresses) :
    SparedButGrants a (accrueStation (s.beforeAccrual a) a) (frameStart s) := by
  obtain ⟨station, account, streams⟩ := s.beforeGrants_spared ha
  obtain ⟨accounts, granted, edits⟩ := frameStart_granting s
  have later : Edits (accrueStation (s.beforeAccrual a) a) s.beforeGrants :=
    s.beforeGrants_at ha ▸ Edits.foldl accrueStation_edits _ _
  refine ⟨station ▸ frameStart_record s a, fun faulted => ?_, by rw [accounts, account], fun id st hst => ?_,
    fun e he => s.beforeGrants_queue ha e (frameStart_queue s e he), later.trans edits⟩
  · rw [← station] at faulted ⊢
    exact frameStart_exchange_of_faulted s a faulted
  · rw [← streams id st hst, State.stream, granted, State.stream]

/-! ### A breach (R91) -/

section
variable {s : State} {a : Nat} (h1 : 1 ≤ a) (h15 : a ≤ 15)
include h1 h15

theorem accrueStation_breached_station (h : s.breaches a) : (accrueStation s a).station a =
    { s.station a with
      state := .faulted, operation := none, exchange := none, hostTrim := false,
      refusals := if (s.station a).hostTrim then 0 else (s.station a).refusals } := by
  rw [accrueStation_of_breaches h1 h15 h, State.enterFaulted_station, if_pos ⟨rfl, h1, h15⟩]
  rfl

theorem accrueStation_sound_station (h : ¬ s.breaches a) : (accrueStation s a).station a = s.station a := by
  rw [accrueStation_of_not_breaches h1 h15 h]
  rfl

theorem accrueStation_sound_stream (h : ¬ s.breaches a) (id : Nat) : (accrueStation s a).stream id = s.stream id := by
  rw [accrueStation_of_not_breaches h1 h15 h]
  rfl

theorem accrueStation_hostTrim (h : (s.station a).hostTrim = false) :
    ((accrueStation s a).station a).hostTrim = false := by
  by_cases breaches : s.breaches a
  · rw [accrueStation_breached_station h1 h15 breaches]
  · rwa [accrueStation_sound_station h1 h15 breaches]

end

theorem TrimAccount.accrued_quiet (reload : Nat) (c : TrimAccount) :
    (c.accrued reload).quietEnd = c.quietEnd ∧ (c.accrued reload).ackPair = c.ackPair := by
  unfold TrimAccount.accrued
  split <;> exact ⟨rfl, rfl⟩

/-! ## The reply of a host TRIM at the quiet end (R103, R106) -/

/-- The acknowledgement that the quiet end of a station reports (R106). -/
def State.trimReport (a : Nat) (s : State) : ReplyBody :=
  .trim a ((s.account a).quietEnd.getD 0 - (s.station a).quiet.getD 0) ((s.account a).ackPair.getD 0)
    (s.account a).balance

/-- The reply of the station's pending host TRIM at its quiet end, if there is one (R106). -/
def State.trimReportReply (a : Nat) (s : State) : List Reply :=
  if (s.station a).hostTrim then
    (s.port.waiting .trim (some a)).toList.map (fun tag => deferredReply .trim tag .ok (s.trimReport a))
  else []

/-- A pending host TRIM is answered with a body (R106, R107, R108). -/
theorem State.endHostTrim_answered_body {s : State} (differ : s.port.tagsDiffer) (a : Nat) (st : Status)
    (body : ReplyBody) : Answered (fun k t => k = .trim ∧ t = some a)
      (if (s.station a).hostTrim then
        (s.port.waiting .trim (some a)).toList.map (fun tag => deferredReply .trim tag st body) else [])
      s.port (s.endHostTrim a st body).port := by
  unfold State.endHostTrim
  split
  · exact State.answerKind_answered (s := s.onStation a _) differ .trim (some a) st body
  · exact .refl differ

theorem quietSpanEnds_answered {s : State} (differ : s.port.tagsDiffer) (a : Nat) :
    Answered (fun k t => k = .trim ∧ t = some a) (s.trimReportReply a) s.port (quietSpanEnds a s).port := by
  have port : (s.moveStation a .active .trimEnd).port = s.port := (s.moveStation_frame a .active .trimEnd).2.2.2.2.2.1
  have record : ((s.moveStation a .active .trimEnd).station a).hostTrim = (s.station a).hostTrim ∧
      ((s.moveStation a .active .trimEnd).station a).quiet = (s.station a).quiet := by
    rw [State.moveStation_station]
    split <;> exact ⟨rfl, rfl⟩
  have answered := State.endHostTrim_answered_body (s := s.moveStation a .active .trimEnd) (by rwa [port]) a .ok
    (s.trimReport a)
  have ended : (quietSpanEnds a s).port =
      ((s.moveStation a .active .trimEnd).endHostTrim a .ok (s.trimReport a)).port := by
    simp only [quietSpanEnds, State.endQuiet_frame, State.moveStation_account, record.2, State.trimReport]
  rw [port, record.1, ← ended] at answered
  exact answered

/-- The quiet ends of other stations leave the requests for a station unanswered. -/
theorem State.beforeQuietEnd_answered {s : State} (differ : s.port.tagsDiffer) (a : Nat) :
    ∃ rs, Answered (fun _ t => t ≠ some a) rs s.port (s.beforeQuietEnd a).port := by
  refine foldl_keeps_mem (P := fun t : State => ∃ rs, Answered (fun _ t => t ≠ some a) rs s.port t.port) _ s
    (fun t b hb kept => ?_) ⟨[], .refl differ⟩
  obtain ⟨rs, answered⟩ := kept
  unfold endQuietSpan
  split
  · refine ⟨_, answered.trans ((quietSpanEnds_answered answered.differ b).mono fun _ target here => ?_)⟩
    rw [here.2]
    exact fun e => ne_of_mem_lower hb (Option.some.inj e)
  · exact ⟨rs, answered⟩

/-! ## The frame start of a quiet end (R103) -/

/-- A station's record and account stay while the number is assigned and the plans swap. -/
theorem planSwap_assignFrame_records (s : State) :
    (planSwap (assignFrame s)).station = s.station ∧ (planSwap (assignFrame s)).account = s.account ∧
    (planSwap (assignFrame s)).engine.frameNumber = s.engine.frameNumber + 1 := by
  refine ⟨?_, ?_, ?_⟩
  · funext a; simp only [State.station, planSwap_frame, assignFrame_frame]
  · funext a; simp only [State.account, planSwap_frame, assignFrame_frame]
  · rw [(planSwap_frame _).1]; rfl

/-- No plan swap is due at the frame start of another frame (R34). -/
theorem planSwap_not_due {s : State} (h : s.plans.commit.map (·.target) ≠ some (s.engine.frameNumber + 1)) :
    planSwap (assignFrame s) = assignFrame s := by
  unfold planSwap
  rw [(assignFrame_frame s).1]
  split
  · next c commit =>
    have other : c.target ≠ (assignFrame s).engine.frameNumber := fun here => h (by rw [commit, Option.map_some, here]; rfl)
    rw [if_neg other]
  · rfl

/-- The state in which the quiet span of station a ends at a frame start. -/
def State.atQuietEnd (a : Nat) (s : State) : State := (planSwap (assignFrame s)).beforeQuietEnd a

theorem State.atQuietEnd_records (s : State) (a : Nat) :
    (s.atQuietEnd a).station a = s.station a ∧ (s.atQuietEnd a).account a = s.account a := by
  have spared := (planSwap (assignFrame s)).beforeQuietEnd_spared a
  obtain ⟨stations, accounts, -⟩ := planSwap_assignFrame_records s
  exact ⟨by rw [State.atQuietEnd, spared.station, stations], by rw [State.atQuietEnd, spared.account, accounts]⟩

section
variable {s : State} {a : Nat} (h1 : 1 ≤ a) (h15 : a ≤ 15) (ends : s.quietEnds (s.engine.frameNumber + 1) a = true)
include h1 h15 ends

/-- From its quiet end to its accrual the station is left out. -/
theorem beforeAccrual_of_quietEnd : Spared a (quietSpanEnds a (s.atQuietEnd a)) (s.beforeAccrual a) ∧
    Edits (quietSpanEnds a (s.atQuietEnd a)) (s.beforeAccrual a) := by
  obtain ⟨stations, accounts, number⟩ := planSwap_assignFrame_records s
  have here : (planSwap (assignFrame s)).quietEnds (planSwap (assignFrame s)).engine.frameNumber a = true := by
    rw [State.quietEnds, stations, accounts, number]
    exact ends
  obtain ⟨spared, edits⟩ := endQuietSpans_ends (mem_addresses.mpr ⟨h1, h15⟩) here
  exact ⟨spared.trans (s.beforeAccrual_spared a), edits.trans (.foldl accrueStation_edits _ _)⟩

theorem beforeAccrual_station_of_quietEnd : (s.beforeAccrual a).station a =
    { s.station a with
      state := .active, hostTrim := false,
      refusals := if (s.station a).hostTrim then 0 else (s.station a).refusals } := by
  rw [(beforeAccrual_of_quietEnd h1 h15 ends).1.station, quietSpanEnds_station _ h1 h15, (s.atQuietEnd_records a).1]

theorem beforeAccrual_account_of_quietEnd :
    (s.beforeAccrual a).account a = { s.account a with quietEnd := none, ackPair := none } := by
  rw [(beforeAccrual_of_quietEnd h1 h15 ends).1.account, quietSpanEnds_account _ h1 h15, (s.atQuietEnd_records a).2]

/-- The station's streams of the active plan are LIVE (R47). -/
theorem beforeAccrual_live_of_quietEnd {id : Nat} {st : Stream} (station : st.station = a)
    (hst : (s.beforeAccrual a).stream id = some st) : st.state = .staged ∨ st.state = .live := by
  rw [(beforeAccrual_of_quietEnd h1 h15 ends).1.streams id st station, quietSpanEnds_stream _ h1 h15,
    Option.map_eq_some_iff] at hst
  obtain ⟨st', -, rfl⟩ := hst
  rw [Stream.followed_eq] at station ⊢
  split
  · by_cases staged : st'.state = .staged
    · exact .inl ((Stream.follow_staged true st').mpr staged)
    · exact .inr ((Stream.follow_live staged).mpr rfl)
  · next away =>
    rw [if_neg away] at station
    exact absurd station away

theorem beforeAccrual_stream_of_quietEnd (still : s.plans.commit.map (·.target) ≠ some (s.engine.frameNumber + 1))
    {id : Nat} {st : Stream} (hst : s.stream id = some st) (station : st.station = a) :
    (s.beforeAccrual a).stream id = some (st.follow true) := by
  have follows : (st.follow true).station = a := (Stream.follow_station true st).trans station
  have before : (s.atQuietEnd a).stream id = some st := by
    rw [State.atQuietEnd, planSwap_not_due still, ((assignFrame s).beforeQuietEnd_spared a).streams id st station]
    exact hst
  rw [(beforeAccrual_of_quietEnd h1 h15 ends).1.streams id _ follows, quietSpanEnds_stream _ h1 h15, before,
    Option.map_some, Stream.followed_eq, if_pos station]

/-- The pending host TRIM is answered OK with its acknowledgement (R106). -/
theorem beforeAccrual_reply_of_quietEnd (still : s.plans.commit.map (·.target) ≠ some (s.engine.frameNumber + 1))
    (differ : s.port.tagsDiffer) {tag : Byte} (flag : (s.station a).hostTrim = true)
    (waits : s.port.waiting .trim (some a) = some tag) :
    deferredReply .trim tag .ok (s.trimReport a) ∈ (s.beforeAccrual a).port.replies := by
  obtain ⟨rs, others⟩ := State.beforeQuietEnd_answered (s := assignFrame s) differ a
  rw [← planSwap_not_due still, ← State.atQuietEnd] at others
  obtain ⟨station, account⟩ := s.atQuietEnd_records a
  have reply : (s.atQuietEnd a).trimReportReply a = [deferredReply .trim tag .ok (s.trimReport a)] := by
    have waiting : (s.atQuietEnd a).port.waiting .trim (some a) = some tag := by
      rw [others.waiting .trim (some a) (by simp), planSwap_not_due still]
      exact waits
    simp [State.trimReportReply, State.trimReport, station, account, flag, waiting]
  refine (beforeAccrual_of_quietEnd h1 h15 ends).2.grows.replies.subset ?_
  rw [(quietSpanEnds_answered others.differ a).replies, reply]
  exact List.mem_append_right _ (List.mem_singleton.mpr rfl)

end

theorem exec_quietSpanEnd {s : State} {a : Nat} (starts : s.startsFrame) (h1 : 1 ≤ a) (h15 : a ≤ 15)
    (ends : s.quietEnds (s.engine.frameNumber + 1) a = true) :
    exec (.quietSpanEnd a) s = .next (frameStart s) := by
  obtain ⟨low, due⟩ := State.startsFrame_due starts
  show execQuietSpanEnd a s = _
  simp [execQuietSpanEnd, forStation, goodStation_iff.mpr ⟨h1, h15⟩, low, due, ends]

/-- Settles O36: the quiet end, then the station's accrual, which alone can make it FAULTED. -/
theorem quietSpanEndReturnsToActive : Obligations.QuietSpanEndReturnsToActive := by
  intro s a starts h1 h15 trimming quiet
  have ends : s.quietEnds (s.engine.frameNumber + 1) a = true := by simp [State.quietEnds, trimming, quiet]
  have behind := frameStart_behind_accrual s (mem_addresses.mpr ⟨h1, h15⟩)
  have record := beforeAccrual_station_of_quietEnd h1 h15 ends
  have account := beforeAccrual_account_of_quietEnd h1 h15 ends
  have accrues : (s.beforeAccrual a).accrues a = true := by simp [State.accrues, record]
  have accrued := accrueStation_account h1 h15 accrues
  obtain ⟨quietEnd, ackPair⟩ := TrimAccount.accrued_quiet (((s.beforeAccrual a).station a).interval.getD 0 * 16)
    ((s.beforeAccrual a).account a)
  refine ⟨frameStart s, exec_quietSpanEnd starts h1 h15 ends, exec_frameStart starts, ?_, ?_, ?_, fun sound => ?_,
    fun limit due => ?_, fun tag flag waits differ still => ?_⟩
  · rw [behind.record]
    exact accrueStation_hostTrim h1 h15 (by rw [record])
  · rw [behind.account, accrued, quietEnd, account]
  · rw [behind.account, accrued, ackPair, account]
  · have keeps : ¬ (s.beforeAccrual a).breaches a := fun ⟨_, due, limit⟩ => by
      rw [account] at due limit
      simp only at due limit
      omega
    have streams : ∀ id st, st.station = a →
        ((frameStart s).stream id = some st ↔ (s.beforeAccrual a).stream id = some st) := fun id st station => by
      rw [behind.streams id st station, accrueStation_sound_stream h1 h15 keeps]
    refine ⟨?_, fun id st hst station => ?_, fun still id st hst station => ?_⟩
    · rw [behind.record, accrueStation_sound_station h1 h15 keeps, record]
    · exact beforeAccrual_live_of_quietEnd h1 h15 ends station ((streams id st station).mp hst)
    · exact (streams id _ ((Stream.follow_station true st).trans station)).mpr
        (beforeAccrual_stream_of_quietEnd h1 h15 ends still hst station)
  · have breaches : (s.beforeAccrual a).breaches a := by
      refine ⟨by rw [record], ?_, ?_⟩ <;> rw [account]
      · simp [due]
      · simp [limit]
    rw [behind.record, accrueStation_breached_station h1 h15 breaches]
  · have reply := beforeAccrual_reply_of_quietEnd h1 h15 ends still differ flag waits
    rw [State.trimReport, quiet] at reply
    exact ((accrueStation_edits _ a).trans behind.edits).grows.replies.subset reply

end Sys2Proof.Machine
end

section

namespace Sys2Proof.Machine

/-! ## The frame start at which a trim falls due (R90, R91) -/

theorem exec_trimDue {s : State} {a : Nat} (starts : s.startsFrame) (h1 : 1 ≤ a) (h15 : a ≤ 15)
    (accrues : s.accrues a = true) (due : (s.account a).countdown = 1) :
    exec (.trimDue a) s = .next (frameStart s) := by
  obtain ⟨low, frame⟩ := State.startsFrame_due starts
  show execTrimDue a s = _
  simp [execTrimDue, forStation, goodStation_iff.mpr ⟨h1, h15⟩, low, frame, accrues, due]

section
variable {s : State} {a : Nat} (h1 : 1 ≤ a) (h15 : a ≤ 15)
include h1 h15

/-- An ACTIVE station comes to its accrual as it was. -/
theorem beforeAccrual_of_active (active : (s.station a).state = .active) :
    (s.beforeAccrual a).station a = s.station a ∧ (s.beforeAccrual a).account a = s.account a := by
  obtain ⟨stations, accounts, -⟩ := planSwap_assignFrame_records s
  have goes : (planSwap (assignFrame s)).quietEnds (planSwap (assignFrame s)).engine.frameNumber a = false := by
    simp [State.quietEnds, stations, active]
  have spared := (endQuietSpans_spared (mem_addresses.mpr ⟨h1, h15⟩) goes).trans (s.beforeAccrual_spared a)
  exact ⟨by rw [spared.station, stations], by rw [spared.account, accounts]⟩

/-- A station that accrues comes to its accrual with its interval, its balance and its countdown, its quiet span ended or
not. -/
theorem beforeAccrual_of_accrues (accrues : s.accrues a = true) :
    (s.beforeAccrual a).accrues a = true ∧ ((s.beforeAccrual a).station a).interval = (s.station a).interval ∧
    ((s.beforeAccrual a).account a).balance = (s.account a).balance ∧
    ((s.beforeAccrual a).account a).countdown = (s.account a).countdown := by
  by_cases ends : s.quietEnds (s.engine.frameNumber + 1) a = true
  · rw [State.accrues, beforeAccrual_station_of_quietEnd h1 h15 ends, beforeAccrual_account_of_quietEnd h1 h15 ends]
    exact ⟨rfl, rfl, rfl, rfl⟩
  · obtain ⟨stations, accounts, number⟩ := planSwap_assignFrame_records s
    have goes : (planSwap (assignFrame s)).quietEnds (planSwap (assignFrame s)).engine.frameNumber a = false := by
      rw [State.quietEnds, stations, accounts, number]
      exact Bool.eq_false_iff.mpr ends
    have spared := (endQuietSpans_spared (mem_addresses.mpr ⟨h1, h15⟩) goes).trans (s.beforeAccrual_spared a)
    rw [State.accrues, spared.station, spared.account, stations, accounts]
    exact ⟨accrues, rfl, rfl, rfl⟩

/-! ### What a breach tells and answers (R47, R66, R68) -/

variable {u t : State} (breaches : u.breaches a) (edits : Edits (accrueStation u a) t)
include breaches

theorem accrueStation_breached_move :
    (accrueStation u a).streams = ((u.reloaded a).moveStation a .faulted .breach).streams ∧
    (accrueStation u a).notices = ((u.reloaded a).moveStation a .faulted .breach).notices := by
  rw [accrueStation_of_breaches h1 h15 breaches, State.enterFaulted_streams, State.enterFaulted_notices]
  exact ⟨rfl, rfl⟩

theorem accrueStation_breached_stream {id : Nat} {st : Stream} (hst : u.stream id = some st)
    (station : st.station = a) : (accrueStation u a).stream id = some (st.follow false) := by
  have before : (u.reloaded a).stream id = some st := hst
  rw [State.stream, (accrueStation_breached_move h1 h15 breaches).1]
  refine ((u.reloaded a).moveStation_stream a id .faulted .breach (goodStation_iff.mpr ⟨h1, h15⟩)).trans ?_
  rw [before, Option.map_some, Stream.followed_eq, if_pos station]
  rfl

include edits

theorem breach_told : stationTold a .faulted .breach u t :=
  stationTold_of_move (v := u.reloaded a)
    (fun n hn => edits.noticed_stays (by rwa [(accrueStation_breached_move h1 h15 breaches).2])) rfl rfl
    (Nat.le_add_right _ 2)

theorem breach_marked {id : Nat} {st : Stream} (few : u.notices.entries.length ≤ 5) (hst : u.stream id = some st)
    (station : st.station = a) (live : st.state = .live) (up : st.direction = .up) (words : st.buffer ≠ []) :
    t.notices.marked id = true := by
  refine edits.marked id ?_
  rw [(accrueStation_breached_move h1 h15 breaches).2]
  exact State.moveStation_marked (s := u.reloaded a) .breach (goodStation_iff.mpr ⟨h1, h15⟩) (by decide)
    (Nat.le_trans few (by decide)) hst station live up words

/-- The work of the station is answered FAULTED, in the order of R68. -/
theorem breach_replies (owns : OwnsWork u a) :
    ∃ more, t.port.replies = u.port.replies ++ u.workReplies a .faulted .faulted ++ more := by
  have owns' : OwnsWork (u.reloaded a) a := owns.congr rfl rfl rfl
  have answered := (State.enterFaulted_answered owns' .breach .faulted .faulted).replies
  rw [← accrueStation_of_breaches h1 h15 breaches] at answered
  obtain ⟨more, later⟩ := edits.grows.replies
  exact ⟨more, by rw [← later, answered]; rfl⟩

end

/-- Settles O37: the accrual of the station in the state its turn finds, and a breach as its entry to FAULTED. -/
theorem trimDueRaisesBalanceOrBreaches : Obligations.TrimDueRaisesBalanceOrBreaches := by
  intro s a starts h1 h15 state due
  have ha := mem_addresses.mpr ⟨h1, h15⟩
  have accrues : s.accrues a = true := by simpa [State.accrues] using state
  have behind := frameStart_behind_accrual s ha
  obtain ⟨accrues', interval, balance, countdown⟩ := beforeAccrual_of_accrues h1 h15 accrues
  have account : (frameStart s).account a = { (s.beforeAccrual a).account a with
      countdown := (s.station a).interval.getD 0 * 16
      balance := if (s.account a).balance < 8 then (s.account a).balance + 1 else (s.account a).balance } := by
    rw [behind.account, accrueStation_account h1 h15 accrues', TrimAccount.accrued, countdown, due, balance, interval]
    rfl
  refine ⟨frameStart s, exec_trimDue starts h1 h15 accrues due, exec_frameStart starts, ?_, fun below => ?_,
    fun limit => ⟨?_, fun active => ?_⟩⟩
  · rw [account]
  · rw [account, if_pos below]
  · rw [account, limit]
    rfl
  · obtain ⟨station, -⟩ := beforeAccrual_of_active h1 h15 active
    have breaches : (s.beforeAccrual a).breaches a :=
      ⟨by rw [station, active], by rw [countdown, due], by rw [balance, limit]; decide⟩
    have breached := accrueStation_breached_station h1 h15 breaches
    have field := behind.faulted (by rw [breached])
    refine ⟨?_, ?_, ?_, ?_, ?_, ?_, ?_⟩
    · rw [behind.record, breached]
    · rw [field, breached]
    · rw [behind.record, breached]
    · rw [behind.record, breached]
    · intro e he
      have queued := behind.queue e he
      rw [accrueStation_of_breaches h1 h15 breaches] at queued
      exact State.enterFaulted_cleared _ a _ _ _ e queued
    · rw [State.faultCell, (frameStart_frame s).1, State.faultCell]
    · intro u hu
      rw [hu]
      refine ⟨breach_told h1 h15 breaches behind.edits, fun id st hst names => ⟨?_, fun few live up words => ?_⟩,
        fun bounded _ owned => ?_⟩
      · exact (behind.streams id _ ((Stream.follow_station false st).trans names)).mpr
          (accrueStation_breached_stream h1 h15 breaches hst names)
      · exact breach_marked h1 h15 breaches behind.edits few hst names live up words
      · exact breach_replies h1 h15 breaches behind.edits
          (ownsWork_of_invariants bounded owned ((s.beforeAccrual_low a).trans starts.1) ha)

end Sys2Proof.Machine
end

section

namespace Sys2Proof.Machine

/-! ## CALL (R123, R124) -/

section
variable {f : ReqFrame} {s : State} {a op attr value : Nat} {order : Order}

/-- The order of a CALL's operation byte is GET or PUT, or the byte names none (10.4). -/
theorem callOrder_eq_none_iff : callOrder op = none ↔ ¬ (op = 2 ∨ op = 3) := by
  unfold callOrder
  split
  · next get => simp [get]
  · next other => split <;> simp_all

theorem callOrder_eq_some (h : callOrder op = some order) :
    (order = if op = 2 then .get else .put) ∧ (op = 2 ∨ op = 3) ∧ (order = .put ↔ op = 3) := by
  unfold callOrder at h
  split at h
  · next get => simp [get, ← Option.some.inj h]
  · next other =>
    split at h
    · next put => simp [put, ← Option.some.inj h]
    · simp at h

/-- Tests 1 and 2 of R123, both refused BAD_PARAM. -/
theorem callInRange_iff : callInRange a order attr value = true ↔
    (1 ≤ a ∧ a ≤ 15) ∧ value ≤ 4095 ∧ ¬ (order = .put ∧ 240 ≤ attr ∧ attr ≤ 243) := by
  simp only [callInRange, Bool.and_eq_true, Bool.not_eq_true', ← Bool.not_eq_true, goodStation_iff, decide_eq_true_eq,
    beq_iff_eq, and_assoc]

/-- The states of test 3 of R123 as a list. -/
theorem StationState.takesCalls_iff (st : StationState) :
    st.takesCalls = true ↔ st ∈ [.active, .trimming, .drowsy, .waking] := by
  cases st <;> simp [StationState.takesCalls]

/-- The entry of an accepted CALL joins the tail of the command queue, the request the table (R112, R123). -/
theorem beginCall_eq (open_ : s.port.restarting = false) : beginCall f order s.popIntake =
    { s.entered .call f (some (f.param 0)) .queued
        (some { order := order, attr := f.param 2, value := f.param16 3 }) with
      calls := { s.calls with queue := s.calls.queue ++
        [{ tag := f.tag, owner := .call, station := f.param 0, order := order, attr := f.param 2,
           value := if order = .put then f.param16 3 else 0 }] } } := by
  have open' : s.popIntake.port.restarting = false := open_
  simp only [beginCall, State.enqueue, open', Bool.false_eq_true, if_false]
  rfl

end

/-- Settles O19: the operation byte gives the order or fails test 1, then the tests of R123 one after another. -/
theorem callTestsThenQueues : Obligations.CallTestsThenQueues := by
  rintro f s a op attr value taken rfl rfl rfl rfl
  have run : exec .call s = .next (serveCall f s.popIntake) := takesRequest_served serveCall taken
  have open_ := taken.not_restarting
  rw [run]
  congr 1
  cases hop : callOrder (f.param 1) with
  | none =>
    have other := callOrder_eq_none_iff.mp hop
    rw [if_pos fun h => other h.2.2.1]
    simp only [serveCall, hop]
    rfl
  | some order =>
    obtain ⟨named, known, put⟩ := callOrder_eq_some hop
    have ranges : (!callInRange (f.param 0) order (f.param 2) (f.param16 3)) = true ↔
        ¬ (1 ≤ f.param 0 ∧ f.param 0 ≤ 15 ∧ (f.param 1 = 2 ∨ f.param 1 = 3) ∧ f.param16 3 ≤ 4095) ∨
        f.param 1 = 3 ∧ 240 ≤ f.param 2 ∧ f.param 2 ≤ 243 := by
      rw [Bool.not_eq_true', ← Bool.not_eq_true, callInRange_iff, put]
      tauto
    have takes : (!(s.station (f.param 0)).state.takesCalls) = true ↔
        (s.station (f.param 0)).state ∉ [.active, .trimming, .drowsy, .waking] := by
      rw [Bool.not_eq_true', ← Bool.not_eq_true, StationState.takesCalls_iff]
    have held : s.engine.setup.mode = .strict ∧ (s.faultCell (f.param 0)).record.isSome = true ↔
        s.engine.setup.mode ≠ .lenient ∧ (s.faultCell (f.param 0)).record ≠ none := by
      rw [Option.isSome_iff_ne_none]
      cases s.engine.setup.mode <;> simp
    simp only [serveCall, hop]
    rw [← ite_or]
    refine if_congr ranges rfl (if_congr takes rfl (if_congr held rfl (if_congr .rfl rfl ?_)))
    rw [beginCall_eq open_, named]
    obtain get | put := known
    · simp [get]
    · simp [put]

end Sys2Proof.Machine
end

section

namespace Sys2Proof.Machine

/-! ## The grants of the command pairs (R114, R115) -/

/-- The four tests of R115 are those of the statements. -/
theorem State.entryEligible_iff {s : State} {e : Entry} : s.entryEligible e = true ↔ s.mayGrant e := by
  have hold : (!(e.owner == .call && s.strictHold e.station)) = true ↔
      ¬ (e.owner = .call ∧ s.engine.setup.mode = .strict ∧ (s.faultCell e.station).record ≠ none) := by
    rw [Bool.not_eq_true', ← Bool.not_eq_true, not_iff_not]
    simp only [State.strictHold, Bool.and_eq_true, beq_iff_eq, Option.isSome_iff_ne_none]
  have balance : ((s.account e.station).balance != Config.balanceLimit) = true ↔ (s.account e.station).balance ≠ 8 :=
    bne_iff_ne
  simp only [State.entryEligible, Bool.and_eq_true, hold, balance, Option.isNone_iff_eq_none, beq_iff_eq, and_assoc]
  rfl

/-- An entry that fails a test may leave the list without a change to what is found first. -/
theorem find?_erase_of_fails {α : Type} [BEq α] [LawfulBEq α] {p : α → Bool} {x : α} (l : List α)
    (fails : ¬ p x = true) : (l.erase x).find? p = l.find? p := by
  by_cases mem : x ∈ l
  · obtain ⟨before, behind, -, whole, erased⟩ := List.exists_erase_eq mem
    rw [erased, whole, List.find?_append, List.find?_append, List.find?_cons_of_neg fails]
  · rw [List.erase_of_not_mem mem]

/-- The exchange of an entry that has just been granted (R114). -/
def Entry.granted (window : Nat) (e : Entry) : Exchange :=
  { entry := e, attempt := 1, waits := 0, framesLeft := window, sendDue := true }

/-- Pair j takes up an entry of the queue (R114). -/
def State.grantEntry (j : Nat) (e : Entry) (s : State) : State :=
  ((({ s with calls := { s.calls with queue := s.calls.queue.erase e } }.setExchange j
    (some (e.granted s.engine.setup.window))).onStation e.station
      (fun r => { r with exchange := some (.command j) })).setPhase e.tag .inFlight)

section
variable {s u t : State} {i j : Nat} {e q : Entry}

theorem State.grantEntry_exchange (h1 : 1 ≤ j) (h4 : j ≤ 4) : (s.grantEntry j e).exchange i =
    if j = i then some (e.granted s.engine.setup.window) else s.exchange i := by
  have others : ({ s with calls := { s.calls with queue := s.calls.queue.erase e } } : State).exchange = s.exchange :=
    rfl
  simp only [State.grantEntry, State.setPhase_exchange, State.onStation_exchange, State.setExchange_exchange, others,
    h1, h4, and_true]

theorem State.grantEntry_queue : (s.grantEntry j e).calls.queue = s.calls.queue.erase e := by simp [State.grantEntry]

theorem State.grantEntry_station (good : e.station ∈ addresses) (a : Nat) : (s.grantEntry j e).station a =
    if e.station = a then { s.station a with exchange := some (.command j) } else s.station a := by
  obtain ⟨h1, h15⟩ := mem_addresses.mp good
  have others : ∀ x, (({ s with calls := { s.calls with queue := s.calls.queue.erase e } } : State).setExchange j
    x).station = s.station := fun _ => rfl
  simp only [State.grantEntry, State.setPhase_station, State.onStation_station, others, h1, h15, and_true]
  split
  · next here => rw [here]
  · rfl

/-- After a grant the eligible entries are those of the other stations (R69, R115). -/
theorem State.grantEntry_mayGrant (good : e.station ∈ addresses) :
    (s.grantEntry j e).mayGrant q ↔ s.mayGrant q ∧ e.station ≠ q.station := by
  have account : (s.grantEntry j e).account = s.account := rfl
  have rest : (s.grantEntry j e).engine = s.engine ∧ (s.grantEntry j e).faultCell = s.faultCell := ⟨rfl, rfl⟩
  simp only [State.mayGrant, State.grantEntry_station good, account, rest]
  by_cases here : e.station = q.station <;> simp [here]

/-- One command pair: it stays, being out of force, busy or without an eligible entry, or takes the oldest (R114). -/
theorem grantPair_cases (s : State) (j : Nat) :
    (grantPair s j = s ∧ (j ≤ s.engine.setup.command → s.exchange j = none →
      s.calls.queue.find? s.entryEligible = none)) ∨
    ∃ e, j ≤ s.engine.setup.command ∧ s.exchange j = none ∧ s.calls.queue.find? s.entryEligible = some e ∧
      grantPair s j = s.grantEntry j e := by
  unfold grantPair
  split
  · next free =>
    rw [Option.isNone_iff_eq_none] at free
    split
    · next found => exact .inl ⟨rfl, fun _ _ => found⟩
    · next e found => exact .inr ⟨e, free.1, free.2, found, rfl⟩
  · next busy => exact .inl ⟨rfl, fun inForce free => absurd ⟨inForce, Option.isNone_iff_eq_none.mpr free⟩ busy⟩

/-! ### What the pairs below have been granted -/

theorem passedOver_congr (same : ∀ i, i < j → t.exchange i = s.exchange i) :
    passedOver u t j q ↔ passedOver u s j q := by
  unfold passedOver
  refine or_congr .rfl (exists₂_congr fun i x => and_congr_right fun _ => and_congr_right fun below => ?_)
  rw [same i below]

theorem passedOver_succ : passedOver u t (j + 1) q ↔ passedOver u t j q ∨
    (1 ≤ j ∧ u.exchange j = none ∧ ∃ x, t.exchange j = some x ∧ x.entry.station = q.station) := by
  unfold passedOver
  simp only [Nat.lt_succ_iff_lt_or_eq]
  grind

/-- The grant of pair j between u and t, in the words of the statement (R114, R115). -/
structure GrantedTo (u t : State) (j : Nat) (x : Exchange) : Prop where
  first : x.attempt = 1 ∧ x.waits = 0 ∧ x.framesLeft = u.engine.setup.window ∧ x.sendDue = true
  tests : u.mayGrant x.entry
  spared : ¬ passedOver u t j x.entry
  oldest : ∃ older younger, u.calls.queue = older ++ x.entry :: younger ∧ ∀ q ∈ older, passedOver u t j q
  left : u.calls.queue.Nodup → x.entry ∉ t.calls.queue
  field : (t.station x.entry.station).exchange = some (.command j)
  phase : ∀ o ∈ t.port.table, o.tag = x.entry.tag → o.phase = .inFlight

/-- What comes after the grant and takes from the queue alone keeps it. -/
theorem GrantedTo.after {t' : State} {x : Exchange} (h : GrantedTo u t j x)
    (exchange : ∀ i, i < j → t'.exchange i = t.exchange i) (queue : ∀ q ∈ t'.calls.queue, q ∈ t.calls.queue)
    (field : (t'.station x.entry.station).exchange = (t.station x.entry.station).exchange)
    (phase : ∀ o ∈ t'.port.table, o.tag = x.entry.tag → o.phase = .inFlight ∨ o ∈ t.port.table) :
    GrantedTo u t' j x where
  first := h.first
  tests := h.tests
  spared := by rw [passedOver_congr exchange]; exact h.spared
  oldest := by simpa only [passedOver_congr exchange] using h.oldest
  left := fun apart mem => h.left apart (queue _ mem)
  field := field.trans h.field
  phase := fun o mem tag => (phase o mem tag).elim id fun before => h.phase o before tag

/-- Between u and t the command pairs below n have been granted, in ascending order (R114). -/
structure GrantsBelow (n : Nat) (u t : State) : Prop where
  setup : t.engine.setup = u.engine.setup
  later : ∀ i, n ≤ i → t.exchange i = u.exchange i
  /-- who is eligible still -/
  tests : ∀ q, t.mayGrant q ↔ ¬ passedOver u t n q
  /-- of those that are eligible still none has left the queue -/
  queue : ∀ p : Entry → Bool, (∀ q, p q = true → t.mayGrant q) → t.calls.queue.find? p = u.calls.queue.find? p
  sub : t.calls.queue.Sublist u.calls.queue
  source : ∀ i x, t.exchange i = some x → u.exchange i = some x ∨
    (1 ≤ i ∧ i < n ∧ i ≤ u.engine.setup.command ∧ u.exchange i = none)
  granted : ∀ i x, 1 ≤ i → i < n → u.exchange i = none → t.exchange i = some x → GrantedTo u t i x
  free : ∀ i, 1 ≤ i → i < n → i ≤ u.engine.setup.command → u.exchange i = none → t.exchange i = none →
    ∀ q ∈ u.calls.queue, passedOver u t i q

theorem grantsBelow_one (u : State) : GrantsBelow 1 u u where
  setup := rfl
  later := fun _ _ => rfl
  tests := fun q => by
    simp [passedOver]
  queue := fun _ _ => rfl
  sub := .refl _
  source := fun _ _ => .inl
  granted := fun i _ low high => by omega
  free := fun i low high => by omega

/-- A pair that stays leaves the rest as it is. -/
theorem GrantsBelow.stays {n : Nat} (h : GrantsBelow n u t)
    (idle : n ≤ u.engine.setup.command → u.exchange n = none → ∀ q ∈ u.calls.queue, passedOver u t n q) :
    GrantsBelow (n + 1) u t where
  setup := h.setup
  later := fun i below => h.later i (by omega)
  tests := fun q => by
    have here : ¬ (1 ≤ n ∧ u.exchange n = none ∧ ∃ x, t.exchange n = some x ∧ x.entry.station = q.station) := by
      rintro ⟨-, free, x, held, -⟩
      rw [h.later n le_rfl, free] at held
      simp at held
    rw [passedOver_succ, or_iff_left here]
    exact h.tests q
  queue := h.queue
  sub := h.sub
  source := fun i x held => (h.source i x held).imp_right fun ⟨low, high, rest⟩ => ⟨low, by omega, rest⟩
  granted := fun i x low high free held => by
    obtain below | rfl := Nat.lt_succ_iff_lt_or_eq.mp high
    · exact h.granted i x low below free held
    · rw [h.later i le_rfl, free] at held
      simp at held
  free := fun i low high inForce free held => by
    obtain below | rfl := Nat.lt_succ_iff_lt_or_eq.mp high
    · exact h.free i low below inForce free held
    · exact idle inForce free

/-- A grant leaves the grants of the pairs below as they are. -/
theorem GrantedTo.grantEntry {x : Exchange} (h : GrantedTo u t i x) (below : i < j) (h1 : 1 ≤ j) (h4 : j ≤ 4)
    (eligible : t.mayGrant e) (good : e.station ∈ addresses) : GrantedTo u (t.grantEntry j e) i x := by
  refine h.after (fun k hk => ?_) (fun q mem => ?_) ?_ fun o mem tag => ?_
  · rw [State.grantEntry_exchange h1 h4, if_neg (by omega)]
  · rw [State.grantEntry_queue] at mem
    exact List.mem_of_mem_erase mem
  · have other : e.station ≠ x.entry.station := fun same => by
      have free := eligible.1
      rw [same, h.field] at free
      simp at free
    rw [State.grantEntry_station good, if_neg other]
  · obtain ⟨o', mem', rfl⟩ := List.mem_map.mp mem
    split
    · exact .inl rfl
    · exact .inr mem'

/-- The next pair's grant, to the entry that its search finds (R114, R115). -/
theorem GrantsBelow.grantEntry {n : Nat} (h : GrantsBelow n u t) (h1 : 1 ≤ n) (h4 : n ≤ 4)
    (found : t.calls.queue.find? t.entryEligible = some e) :
    GrantedTo u (t.grantEntry n e) n (e.granted t.engine.setup.window) := by
  have test := List.find?_some found
  have spared := (h.tests e).mp (State.entryEligible_iff.mp test)
  have before : ∀ i, i < n → (t.grantEntry n e).exchange i = t.exchange i := fun i below => by
    rw [State.grantEntry_exchange h1 h4, if_neg (by omega)]
  rw [h.queue _ fun q => State.entryEligible_iff.mp] at found
  obtain ⟨-, older, younger, split, failing⟩ := List.find?_eq_some_iff_append.mp found
  refine ⟨⟨rfl, rfl, by rw [h.setup]; rfl, rfl⟩, ?_, ?_, ⟨older, younger, split, fun q mem => ?_⟩, fun apart => ?_, ?_,
    HostPort.setPhase_self t.port e.tag .inFlight⟩
  · exact not_not.mp fun fails => spared (.inl fails)
  · rwa [passedOver_congr before]
  · have fails : ¬ t.mayGrant q := by simpa [← State.entryEligible_iff] using failing q mem
    rw [passedOver_congr before]
    exact not_not.mp fun eligible => fails ((h.tests q).mpr eligible)
  · rw [State.grantEntry_queue]
    exact (apart.sublist h.sub).not_mem_erase
  · rw [State.grantEntry_station (State.mem_of_entryEligible test).1]
    exact congrArg _ (if_pos rfl)

/-- With that grant the pairs up to n have been granted (R114). -/
theorem GrantsBelow.takes {n : Nat} (h : GrantsBelow n u t) (h1 : 1 ≤ n) (h4 : n ≤ 4)
    (inForce : n ≤ u.engine.setup.command) (free : u.exchange n = none)
    (found : t.calls.queue.find? t.entryEligible = some e) : GrantsBelow (n + 1) u (t.grantEntry n e) := by
  have test := List.find?_some found
  have good := (State.mem_of_entryEligible test).1
  have exchange : ∀ i, (t.grantEntry n e).exchange i = if n = i then some (e.granted t.engine.setup.window)
      else t.exchange i := fun i => State.grantEntry_exchange h1 h4
  have here := (exchange n).trans (if_pos rfl)
  have before : ∀ i, i < n → (t.grantEntry n e).exchange i = t.exchange i := fun i below => by
    rw [exchange, if_neg (by omega)]
  have tests : ∀ q, (t.grantEntry n e).mayGrant q ↔ t.mayGrant q ∧ e.station ≠ q.station :=
    fun q => State.grantEntry_mayGrant good
  exact {
    setup := h.setup
    later := fun i below => by rw [exchange, if_neg (by omega), h.later i (by omega)]
    tests := fun q => by
      rw [tests, h.tests, passedOver_succ, passedOver_congr before, here]
      simp [h1, free, Entry.granted, not_or]
    queue := fun p eligible => by
      have fails : ¬ p e = true := fun yes => ((tests e).mp (eligible e yes)).2 rfl
      rw [State.grantEntry_queue, find?_erase_of_fails _ fails]
      exact h.queue p fun q yes => ((tests q).mp (eligible q yes)).1
    sub := by
      rw [State.grantEntry_queue]
      exact List.erase_sublist.trans h.sub
    source := fun i x held => by
      by_cases same : n = i
      · exact .inr ⟨by omega, by omega, same ▸ inForce, same ▸ free⟩
      · rw [exchange, if_neg same] at held
        exact (h.source i x held).imp_right fun ⟨low, high, rest⟩ => ⟨low, by omega, rest⟩
    granted := fun i x low high free held => by
      obtain below | rfl := Nat.lt_succ_iff_lt_or_eq.mp high
      · rw [before i below] at held
        exact (h.granted i x low below free held).grantEntry below h1 h4 (State.entryEligible_iff.mp test) good
      · obtain rfl := Option.some.inj (here.symm.trans held)
        exact h.grantEntry h1 h4 found
    free := fun i low high inForce free held => by
      obtain below | rfl := Nat.lt_succ_iff_lt_or_eq.mp high
      · rw [before i below] at held
        simpa only [passedOver_congr fun k hk => before k (hk.trans below)] using h.free i low below inForce free held
      · simp [here] at held }

/-- One pair after those below it (R114). -/
theorem GrantsBelow.step {n : Nat} (h : GrantsBelow n u t) (h1 : 1 ≤ n) (h4 : n ≤ 4) :
    GrantsBelow (n + 1) u (grantPair t n) := by
  obtain ⟨stays, idle⟩ | ⟨e, inForce, free, found, takes⟩ := grantPair_cases t n
  · rw [stays]
    refine h.stays fun inForce free q mem => ?_
    have none := idle (by rwa [h.setup]) (by rwa [h.later n le_rfl])
    rw [h.queue _ fun q => State.entryEligible_iff.mp] at none
    have fails := List.find?_eq_none.mp none q mem
    rw [State.entryEligible_iff, h.tests] at fails
    exact not_not.mp fails
  · rw [takes]
    exact h.takes h1 h4 (by rwa [← h.setup]) (by rwa [← h.later n le_rfl]) found

/-- The grants of a frame start, one pair after another. -/
theorem grantCommands_grants (u : State) : GrantsBelow 5 u (grantCommands u) :=
  ((((grantsBelow_one u).step le_rfl (by decide)).step (by decide) (by decide)).step (by decide) (by decide)).step
    (by decide) le_rfl

end

/-! ### The frame start -/

section
variable {s u : State} {j : Nat} {x : Exchange}

theorem frameStart_running (running : s.engine.trunk = .running) :
    frameStart s = nameWake (grantCommands (grantServices s.beforeGrants)) := by
  rw [frameStart_eq, if_pos running, grantFrame]

/-- The wake naming leaves what the pairs were granted (R81). -/
theorem GrantedTo.nameWake {t : State} (h : GrantedTo u t j x) : GrantedTo u (nameWake t) j x := by
  obtain ⟨-, -, -, calls, -, -, port, -⟩ := nameWake_frame t
  refine h.after (fun i _ => ?_) (fun q mem => by rwa [calls] at mem) (nameWake_exchange_field ..)
    fun o mem _ => .inr (by rwa [port] at mem)
  simp only [State.exchange, calls]

theorem nameWake_exchange (t : State) : (nameWake t).exchange = t.exchange := by
  funext i
  simp only [State.exchange, nameWake_frame]

/-- Up to the grants no entry joins the command queue. -/
theorem State.mem_queue_of_beforeGrants {q : Entry} (mem : q ∈ s.beforeGrants.calls.queue) : q ∈ s.calls.queue := by
  have accrued : ∀ t : State, ∀ q ∈ (accrue t).calls.queue, q ∈ t.calls.queue := fun t => by
    unfold accrue
    exact foldl_keeps (P := fun v : State => ∀ q ∈ v.calls.queue, q ∈ t.calls.queue)
      (fun v a kept q mem => kept q (accrueStation_queue v a q mem)) _ _ fun _ mem => mem
  rw [State.beforeGrants] at mem
  have queued := accrued _ q mem
  rwa [(endQuietSpans_frame _).2.2.1, (planSwap_frame _).2.2.2.1, (assignFrame_frame _).2.2.2.2.1] at queued

/-- The command pairs are granted among the station states, the balances and the faults of the frame that starts (R93,
R114). -/
theorem frameStart_behind_services (hu : u = grantServices s.beforeGrants) :
    u.engine.setup = s.engine.setup ∧ u.calls = s.beforeGrants.calls ∧
    (∀ a, ((frameStart s).station a).state = (u.station a).state) ∧ (frameStart s).account = u.account ∧
    (frameStart s).faultCell = u.faultCell ∧ s.faultCell = u.faultCell := by
  rw [hu]
  obtain ⟨engine, -, -, calls, faults, -⟩ := grantServices_frame s.beforeGrants
  have before : s.beforeGrants.faults = s.faults := by simp [State.beforeGrants]
  have services : (grantServices s.beforeGrants).account = s.beforeGrants.account :=
    foldl_same (p := State.account) (fun t g => by funext b; simp [grantService]) _ _
  refine ⟨by rw [engine, beforeGrants_engine]; rfl, calls, fun a => ?_, ?_, ?_, ?_⟩
  · rw [frameStart_record s a, grantServices_record s.beforeGrants a]
  · rw [(frameStart_granting s).1, services]
  · funext a
    simp only [State.faultCell, frameStart_frame, faults, before]
  · funext a
    simp only [State.faultCell, faults, before]

/-- Where the trunk is RUNNING a pair holds what it held or what it was granted. -/
theorem frameStart_exchange (running : s.engine.trunk = .running) (held : (frameStart s).exchange j = some x) :
    s.exchange j = some x ∨ (1 ≤ j ∧ j ≤ s.engine.setup.command ∧
      GrantedTo (grantServices s.beforeGrants) (frameStart s) j x) := by
  obtain ⟨setup, calls, -⟩ := frameStart_behind_services (s := s) rfl
  rw [frameStart_running running] at held ⊢
  have grants := grantCommands_grants (grantServices s.beforeGrants)
  rw [nameWake_exchange] at held
  obtain before | ⟨low, high, inForce, free⟩ := grants.source j x held
  · exact .inl (s.beforeGrants_onlyFreed.1 j x (by rwa [State.exchange, calls] at before))
  · exact .inr ⟨low, by rwa [← setup], (grants.granted j x low high free held).nameWake⟩

end

/-- Settles O34, pair after pair: who is eligible at each grant is who was not passed over before it. -/
theorem commandGrantsAreEligible : Obligations.CommandGrantsAreEligible := by
  refine ⟨fun s starts => ⟨_, exec_frameStart starts, fun j x held => ?_⟩, ?_⟩
  · by_cases running : s.engine.trunk = .running
    · refine (frameStart_exchange running held).imp_right fun ⟨low, inForce, granted⟩ => ?_
      obtain ⟨setup, calls, states, accounts, faults, same⟩ := frameStart_behind_services (s := s) rfl
      obtain ⟨first, waits, left, due⟩ := granted.first
      obtain ⟨-, state, balance, hold⟩ := granted.tests
      obtain ⟨older, younger, split, -⟩ := granted.oldest
      have queued : x.entry ∈ s.beforeGrants.calls.queue := by
        rw [← calls, split]
        exact List.mem_append_right _ List.mem_cons_self
      refine ⟨running, low, inForce, State.mem_queue_of_beforeGrants queued, first, waits, by rw [left, setup], due, ?_,
        by rwa [accounts], by rwa [same, ← setup]⟩
      rw [states, state]
      cases x.entry.owner <;> rfl
    · rw [frameStart_eq, if_neg running] at held
      exact .inl (s.beforeGrants_onlyFreed.1 j x held)
  · intro s u starts running hu
    rw [hu]
    obtain ⟨setup, -⟩ := frameStart_behind_services (s := s) rfl
    refine ⟨_, exec_frameStart starts, fun j low inForce high free => ⟨fun x held => ?_, fun none => ?_⟩⟩
    · rw [frameStart_running running] at held ⊢
      rw [nameWake_exchange] at held
      have granted := ((grantCommands_grants _).granted j x low (by omega) free held).nameWake
      obtain ⟨first, waits, left, due⟩ := granted.first
      exact ⟨first, waits, by rw [left, setup], due, granted.tests, granted.spared, granted.oldest, granted.left,
        granted.field, granted.phase⟩
    · rw [frameStart_running running] at none ⊢
      rw [nameWake_exchange] at none
      have passed := (grantCommands_grants _).free j low (by omega) (by rwa [setup]) free none
      simpa only [passedOver_congr fun i _ => congrFun (nameWake_exchange _) i] using passed

end Sys2Proof.Machine
end

section

namespace Sys2Proof.Machine

/-! ## An up slot changes the state of its station at most once (R47, R67, R121)

The owner of an exchange may change the station's state, and the miss limit is claimed from the state that the station
had before, so a second change never comes. -/

/-- Between s and t the streams and the state of station a stay, and n notices at most were offered. -/
structure Still (n a : Nat) (s t : State) : Prop where
  streams : t.streams = s.streams
  state : (t.station a).state = (s.station a).state
  idle : (s.station a).exchange = none → (t.station a).exchange = none
  room : t.notices.entries.length ≤ s.notices.entries.length + n

/-- Between s and t station a changed its state once or not at all, after n notices at most; an exchange-in-flight field
that was absent is so still. -/
inductive OneMove (n a : Nat) (s t : State) : Prop
  | stays (same : Still n a s t)
  | moved {p : State} {new : StationState} {reason : Reason} (before : Still n a s p)
      (streams : t.streams = (p.moveStation a new reason).streams)
      (notices : t.notices = (p.moveStation a new reason).notices)
      (state : (t.station a).state = new)
      (idle : (p.station a).exchange = none → (t.station a).exchange = none)
      (differs : new ≠ (p.station a).state)

section
variable {n m a : Nat} {s p t : State}

theorem Still.refl : Still 0 a s s := ⟨rfl, rfl, id, le_rfl⟩

theorem Still.trans (h : Still n a s p) (k : Still m a p t) : Still (n + m) a s t :=
  ⟨k.streams.trans h.streams, k.state.trans h.state, fun none => k.idle (h.idle none),
    k.room.trans (by have := h.room; omega)⟩

theorem Still.mono (h : Still n a s t) (less : n ≤ m) : Still m a s t :=
  ⟨h.streams, h.state, h.idle, h.room.trans (by omega)⟩

/-- A change of the station's record beside its state and its exchange-in-flight field. -/
theorem Still.of_record (streams : t.streams = s.streams) (notices : t.notices = s.notices)
    (state : (t.station a).state = (s.station a).state)
    (exchange : (t.station a).exchange = none ∨ (t.station a).exchange = (s.station a).exchange) : Still 0 a s t :=
  ⟨streams, state, fun none => exchange.elim id fun same => same.trans none, by rw [notices]; exact le_rfl⟩

theorem Still.of_stations (streams : t.streams = s.streams) (notices : t.notices = s.notices)
    (stations : t.stations = s.stations) : Still 0 a s t :=
  .of_record streams notices (by simp only [State.station, stations]) (.inr (by simp only [State.station, stations]))

theorem Still.reportFault (s : State) (b : Nat) (kind : FaultKind) (slot : Nat) (raw : Option Word) :
    Still 1 a s (s.reportFault b kind slot raw) :=
  ⟨by simp, by simp only [State.station, State.reportFault_frame], by
    simp only [State.station, State.reportFault_frame, imp_self], s.reportFault_room b kind slot raw⟩

theorem Still.reportValid (s : State) : Still 0 a s (s.reportValid a) := by
  refine .of_record (by simp) (by simp) ?_ (.inr ?_)
  all_goals
    simp only [State.reportValid, State.onStation_station]
    split <;> rfl

theorem Still.reportMiss (s : State) : Still 0 a s (s.reportMiss a) := by
  refine .of_record (by simp) (by simp) ?_ (.inr ?_)
  all_goals
    simp only [State.reportMiss, State.onStation_station]
    split <;> rfl

theorem Still.freePair (s : State) (j : Nat) : Still 0 a s (s.freePair j a) := by
  by_cases range : 1 ≤ a ∧ a ≤ 15
  · exact .of_record (by simp) (by simp) (by simp [range]) (.inl (by simp [range]))
  · exact .of_record (by simp) (by simp) (by simp [range]) (.inr (by simp [range]))

theorem Still.setExchange (s : State) (j : Nat) (x : Option Exchange) : Still 0 a s (s.setExchange j x) :=
  .of_stations rfl rfl rfl

theorem Still.after (h : Still n a s p) (k : OneMove m a p t) : OneMove (n + m) a s t := by
  cases k with
  | stays same => exact .stays (h.trans same)
  | moved before streams notices state idle differs =>
    exact .moved (h.trans before) streams notices state idle differs

theorem OneMove.mono (h : OneMove n a s t) (less : n ≤ m) : OneMove m a s t := by
  cases h with
  | stays same => exact .stays (same.mono less)
  | moved before streams notices state idle differs =>
    exact .moved (before.mono less) streams notices state idle differs

theorem OneMove.idle (h : OneMove n a s t) (free : (s.station a).exchange = none) :
    (t.station a).exchange = none := by
  cases h with
  | stays same => exact same.idle free
  | moved before _ _ _ idle _ => exact idle (before.idle free)

/-- A change of state, and what follows it of the station's work. -/
theorem OneMove.of_move {new : StationState} {reason : Reason} (differs : new ≠ (s.station a).state)
    (streams : t.streams = (s.moveStation a new reason).streams)
    (notices : t.notices = (s.moveStation a new reason).notices) (state : (t.station a).state = new)
    (idle : (s.station a).exchange = none → (t.station a).exchange = none) : OneMove 0 a s t :=
  .moved .refl streams notices state idle differs

theorem OneMove.enterAbsent (h1 : 1 ≤ a) (h15 : a ≤ 15) (reason : Reason) (o w : Status)
    (differs : (s.station a).state ≠ .absent) : OneMove 0 a s (s.enterAbsent a reason o w) := by
  refine .of_move differs.symm (s.enterAbsent_streams ..) (s.enterAbsent_notices ..) ?_ fun _ => ?_
  all_goals rw [State.enterAbsent_station, if_pos ⟨rfl, h1, h15⟩]

theorem OneMove.enterFaulted (h1 : 1 ≤ a) (h15 : a ≤ 15) (reason : Reason) (o w : Status)
    (differs : (s.station a).state ≠ .faulted) : OneMove 0 a s (s.enterFaulted a reason o w) := by
  refine .of_move differs.symm (s.enterFaulted_streams ..) (s.enterFaulted_notices ..) ?_ fun _ => ?_
  all_goals rw [State.enterFaulted_station, if_pos ⟨rfl, h1, h15⟩]

/-- The miss limit, claimed from the state before, finds the station moved or moves it (R67, R70, R121). -/
theorem OneMove.missLimit (h : OneMove n a s t) (h1 : 1 ≤ a) (h15 : a ≤ 15) :
    OneMove n a s (t.missLimit a (s.station a).state) := by
  cases h with
  | moved before streams notices state idle differs =>
    rw [State.missLimit_of_left (by rw [state, ← before.state]; exact differs)]
    exact .moved before streams notices state idle differs
  | stays same =>
    have here := same.state
    refine same.after (m := 0) ?_
    unfold State.missLimit
    rw [if_pos here]
    split
    · next was => exact .enterAbsent h1 h15 _ _ _ (by simp [here, was])
    · next was => exact .enterFaulted h1 h15 _ _ _ (by simp [here, was])
    · next was => exact .enterFaulted h1 h15 _ _ _ (by simp [here, was])
    all_goals exact .stays .refl

end

/-! ### The owners (R122) -/

section
variable {e : Entry} {v : State} (h1 : 1 ≤ e.station) (h15 : e.station ≤ 15)
include h1 h15

theorem enrollFails_oneMove (st : Status) : OneMove 0 e.station v (enrollFails e.station st v) := by
  unfold enrollFails
  split
  · next joining => exact .enterAbsent h1 h15 _ _ _ (by simp [joining])
  · exact .stays .refl

theorem enrollNext_oneMove (step : EnrollStep) (attr : Nat) : OneMove 0 e.station v (enrollNext e step attr v) := by
  refine .stays (.of_record (by simp) (by simp) ?_ (.inr ?_))
  all_goals simp [enrollNext, h1, h15]

theorem enrollCompletes_oneMove (joining : (v.station e.station).state = .joining) :
    OneMove 0 e.station v (enrollCompletes e.station v) := by
  obtain ⟨station, -, -, notices, -⟩ := enrollCompletes_writes v h1 h15
  exact .of_move (by simp [joining]) (by simp [enrollCompletes]) notices (by rw [station]) fun idle => by
    rw [station]
    exact idle

theorem enrollDone_oneMove (joining : (v.station e.station).state = .joining) (echo value : Nat) :
    OneMove 0 e.station v (enrollDone e echo value v) := by
  have kept : ∀ step, Still 0 e.station v (v.onStation e.station (EnrollStep.record step value)) := fun step => by
    refine .of_record rfl rfl ?_ (.inr ?_)
    all_goals
      rw [State.onStation_station, if_pos ⟨rfl, h1, h15⟩]
      cases step <;> rfl
  have bad := enrollFails_oneMove (v := v) h1 h15 .badStation
  simp only [enrollDone]
  split
  · exact .stays .refl
  · exact enrollNext_oneMove h1 h15 ..
  · split
    · exact (kept .identity).after (enrollNext_oneMove h1 h15 ..)
    · exact bad
  · split
    · exact (kept .interval).after (enrollNext_oneMove h1 h15 ..)
    · exact bad
  · split
    · exact (kept .quiet).after (enrollNext_oneMove h1 h15 ..)
    · exact bad
  · split
    · exact (kept .latency).after (enrollCompletes_oneMove h1 h15 ((kept .latency).state.trans joining))
    · exact bad

theorem drowseEnds_oneMove (r : Ending) : OneMove 0 e.station v (drowseEnds e r v) := by
  have ends : ∀ st, OneMove 0 e.station v (v.endOperation e.station st .short) := fun st => by
    refine .stays (.of_record (by simp) (by simp) ?_ (.inr ?_))
    all_goals simp [h1, h15]
  simp only [drowseEnds]
  split
  · split
    · next active =>
      have record := drowsed_record v h1 h15
      exact .of_move (t := drowsed e.station v) (by simp [active]) (by simp [drowsed]) (drowsed_frame ..).2.2
        (by rw [record]) fun idle => by
          rw [record]
          exact idle
    · exact .stays .refl
  all_goals exact ends _

theorem probeEnds_oneMove (r : Ending) : OneMove 0 e.station v (probeEnds e r v) := by
  simp only [probeEnds]
  split
  · next waking =>
    have fails : ∀ st, OneMove 0 e.station v (v.enterFaulted e.station .wakeFailed st .faulted) := fun st =>
      .enterFaulted h1 h15 _ _ _ (by simp [waking])
    split
    · split
      · have record := wokenUp_record v h1 h15
        exact .of_move (t := wokenUp e.station v) (by simp [waking]) (by simp [wokenUp]) (wokenUp_frame ..).2.2
          (by rw [record]) fun idle => by
            rw [record]
            exact idle
      · exact fails _
    all_goals exact fails _
  · exact .stays .refl

/-- The owner of an exchange that ends changes the state of its station at most once (R122). -/
theorem handOff_oneMove (r : Ending) : OneMove 0 e.station v (handOff e r v) := by
  unfold handOff
  split
  · exact .stays (.of_stations (by simp) (by simp) (by simp))
  · unfold enrollEnds
    split
    · next joining =>
      split
      · exact enrollDone_oneMove h1 h15 joining ..
      all_goals exact enrollFails_oneMove h1 h15 _
    · exact .stays .refl
  · exact drowseEnds_oneMove h1 h15 r
  · exact probeEnds_oneMove h1 h15 r

end

/-! ### The up slot -/

section
variable {s : State} {j slot : Nat} {x : Exchange} (h1 : 1 ≤ x.entry.station) (h15 : x.entry.station ≤ 15)
include h1 h15

theorem attemptMiss_oneMove : OneMove 1 x.entry.station s (attemptMiss j slot x s) := by
  have missed := Still.reportMiss (a := x.entry.station) s
  have attempt : OneMove 1 x.entry.station s (if x.attempt < 3 then
      (s.reportMiss x.entry.station).setExchange j (some { x with
        attempt := x.attempt + 1, framesLeft := (s.reportMiss x.entry.station).engine.setup.window, sendDue := true })
      else handOff x.entry .noReply (lastMissed j x.entry.station slot s)) := by
    split
    · exact .stays ((missed.trans (.setExchange ..)).mono (by decide))
    · exact ((missed.trans (.reportFault ..)).trans (.freePair ..)).after (handOff_oneMove h1 h15 .noReply)
  rw [attemptMiss_eq rfl, missed.state]
  split
  · exact attempt.missLimit h1 h15
  · exact attempt

theorem commandAnswer_oneMove (c : UpClass) : OneMove 2 x.entry.station s (commandAnswer j slot x c s) := by
  have valid := Still.reportValid (a := x.entry.station) s
  have ended : ∀ r, OneMove 2 x.entry.station s
      (handOff x.entry r ((s.reportValid x.entry.station).freePair j x.entry.station)) := fun r =>
    ((valid.trans (.freePair ..)).after (handOff_oneMove h1 h15 r)).mono (by decide)
  have miss : ∀ kind raw, OneMove 2 x.entry.station s
      (attemptMiss j slot x (s.reportFault x.entry.station kind slot raw)) := fun kind raw =>
    (Still.reportFault ..).after (attemptMiss_oneMove h1 h15)
  unfold commandAnswer
  split
  · simp only [exchangeSilent]
    split
    · exact .stays ((Still.setExchange ..).mono (by decide))
    · exact (attemptMiss_oneMove (x := { x with framesLeft := x.framesLeft - 1 }) h1 h15).mono (by decide)
  · exact miss ..
  · exact miss ..
  iterate 3 exact ended _
  · simp only [exchangeWait]
    split
    · exact .stays ((valid.trans (.setExchange ..)).mono (by decide))
    · exact ended _
  · exact .stays (Still.refl.mono (by decide))

end

/-- A station that keeps its state keeps its streams (R47). -/
theorem streamsFollow_of_same_state {s t : State} {a : Nat} (follow : StreamsFollowStations s)
    (state : (t.station a).state = (s.station a).state) (streams : t.streams = s.streams) : streamsFollow a s t := by
  have live : ∀ id st, s.stream id = some st → st.station = a → st.state ≠ .staged →
      (st.state = .live ↔ (t.station a).state = .active) := fun id st hst station staged => by
    rw [follow id (State.stream_mem hst) st hst staged, station, state]
  refine ⟨fun id => ?_, fun _ id st hst station is idle => absurd ((live id st hst station (by simp [is])).mp is) idle⟩
  have record : t.stream id = s.stream id := by simp only [State.stream, streams]
  rw [record]
  cases hst : s.stream id with
  | none => rfl
  | some st =>
    have stays := Stream.followed_of_follows (active := (t.station a).state == .active) a fun station staged => by
      rw [beq_iff_eq]
      exact live id st hst station staged
    rw [Stream.followed_eq] at stays
    rw [Option.map_some, stays]

/-- One change of state at most is what the streams of the station follow (R47). -/
theorem OneMove.streamsFollow {s t : State} {a : Nat} (h : OneMove 2 a s t) (good : goodStation a = true)
    (follow : StreamsFollowStations s) : streamsFollow a s t := by
  cases h with
  | stays same => exact streamsFollow_of_same_state follow same.state same.streams
  | moved before streams notices state =>
    exact streamsFollow_of_move good streams notices state before.streams before.room

end Sys2Proof.Machine
end

section

namespace Sys2Proof.Machine

/-! ## The course of an exchange at its up slot (R117 to R121, R124) -/

/-! ### The CALL reply (R124) -/

/-- The status, the echo and the value of the CALL reply for the outcome of its exchange (R124). -/
def Entry.callReply (e : Entry) : Ending → Status × Nat × Nat
  | .done echo value => (if echo = e.attr then .ok else .badStation, echo, value)
  | .refused value => (.refused, e.attr, value)
  | .unknownAttr => (.unknownAttr, 0, 0)
  | .stall => (.stall, 0, 0)
  | .noReply => (.noReply, 0, 0)

theorem handOff_call {e : Entry} (owner : e.owner = .call) (r : Ending) (v : State) : handOff e r v =
    v.answer e.tag (e.callReply r).1 (e.callBody (e.callReply r).2.1 (e.callReply r).2.2) := by
  simp only [handOff, owner, callEnds]
  cases r with
  | done echo value =>
    by_cases same : echo = e.attr
    · simp only [Entry.callReply, if_pos same]
    · simp only [Entry.callReply, if_neg same]
  | _ => rfl

/-- The outcome that a REPLY of a status gives (R117). -/
def replyEnding (status : Nat) (w : Word) : Ending :=
  if status = 1 then .done (payloadAttr (wordPayload w)) (payloadValue (wordPayload w))
  else if status = 2 then .refused (payloadValue (wordPayload w))
  else .unknownAttr

/-- The CALL reply to a REPLY, in the words of the statement (R124). -/
theorem callReply_replyEnding (e : Entry) (status : Nat) (w : Word) : e.callReply (replyEnding status w) =
    if status = 1 then
      (if payloadAttr (wordPayload w) = e.attr then Status.ok else Status.badStation,
        payloadAttr (wordPayload w), payloadValue (wordPayload w))
    else if status = 2 then (Status.refused, e.attr, payloadValue (wordPayload w))
    else (Status.unknownAttr, 0, 0) := by
  unfold replyEnding
  split
  · rfl
  · split <;> rfl

section
variable {s u t : State} {j a slot : Nat} {x : Exchange} {w : Word} {line : Option Word}

theorem commandAnswer_replies {status : Nat} (up : s.upSlotComes u j a slot x) (reply : isReply a status w)
    (low : 1 ≤ status) (high : status ≤ 3) :
    commandAnswer j slot x (classify a .replyOrWait (some w)) (beginSlot slot u) =
      handOff x.entry (replyEnding status w) (replyTaken j a slot u) := by
  obtain rfl := up.entry_station
  obtain rfl | rfl | rfl : status = 1 ∨ status = 2 ∨ status = 3 := by omega
  · exact commandAnswer_done up reply
  · rw [classify_order_refused reply]
    rfl
  · rw [classify_order_unknownAttr reply]
    rfl

theorem commandAnswer_waits_faults (wait : isWait a w) :
    (commandAnswer j slot x (classify a .replyOrWait (some w)) (beginSlot slot u)).faults = u.faults := by
  rw [classify_order_wait wait]
  exact (exchangeWait_frame ..).2.2.1

/-- A WAIT before the fifth restarts the window and clears the misses, and is all that it does (R70, R118). -/
theorem commandAnswer_waits (up : s.upSlotComes u j a slot x) (wait : isWait a w) (more : x.waits < 4)
    (ht : t = commandAnswer j slot x (classify a .replyOrWait (some w)) (beginSlot slot u)) :
    t.exchange j = some { x with waits := x.waits + 1, framesLeft := u.engine.setup.window } ∧
    t.station a = { u.station a with misses := 0 } ∧ t.trims = u.trims ∧ t.streams = u.streams ∧
    t.notices = u.notices ∧ t.calls.queue = u.calls.queue ∧ t.port = u.port := by
  have out : t = ((beginSlot slot u).reportValid a).setExchange j
      (some { x with waits := x.waits + 1, framesLeft := u.engine.setup.window }) := by
    obtain rfl := up.entry_station
    rw [ht, classify_order_wait wait, commandAnswer, exchangeWait, if_pos more]
    rfl
  obtain ⟨j1, j4, h1, h15, -⟩ := up
  have here : (beginSlot slot u).station a = u.station a := rfl
  rw [out]
  refine ⟨by simp [j1, j4], by simp [State.reportValid, h1, h15, here], rfl, rfl, rfl, ?_, rfl⟩
  simp [beginSlot]

theorem commandAnswer_stalls (up : s.upSlotComes u j a slot x) (wait : isWait a w) (fifth : 4 ≤ x.waits) :
    commandAnswer j slot x (classify a .replyOrWait (some w)) (beginSlot slot u) =
      handOff x.entry .stall (replyTaken j a slot u) := by
  obtain rfl := up.entry_station
  rw [classify_order_wait wait, commandAnswer, exchangeWait, if_neg (Nat.not_lt.mpr fifth)]
  rfl

theorem commandAnswer_silent (more : 1 < x.framesLeft) :
    commandAnswer j slot x (classify a .replyOrWait none) (beginSlot slot u) =
      (beginSlot slot u).setExchange j (some { x with framesLeft := x.framesLeft - 1 }) := by
  have left : 0 < x.framesLeft - 1 := by omega
  simp only [classify, commandAnswer, exchangeSilent, left, if_true]

/-- What an end by a REPLY or the fifth WAIT leaves, whoever owns the exchange (R117, R118). -/
theorem replyTaken_handedOff (up : s.upSlotComes u j a slot x) (r : Ending)
    (ht : t = handOff x.entry r (replyTaken j a slot u)) :
    t.exchange j = none ∧ (t.station a).exchange = none ∧ t.faults = u.faults := by
  obtain ⟨h1, h15⟩ := up.good
  have freed := replyTaken_freed (u := u) (j := j) (slot := slot) h1 h15
  obtain rfl := up.entry_station
  subst ht
  exact ⟨(handOff_within ..).freed j freed.pair, (handOff_oneMove h1 h15 r).idle freed.field,
    (handOff_frame ..).2.2.1.trans replyTaken_faults⟩

/-- Of a CALL that ends so nothing but the reply is left (R124). -/
theorem replyTaken_callEnds (up : s.upSlotComes u j a slot x) (owner : x.entry.owner = .call) (r : Ending)
    (ht : t = handOff x.entry r (replyTaken j a slot u)) :
    t.station a = { u.station a with misses := 0, exchange := none } ∧ t.trims = u.trims ∧ t.streams = u.streams ∧
    t.notices = u.notices ∧ t.calls.queue = u.calls.queue ∧
    ∀ e, u.port.table.find? (·.waits x.entry.tag) = some e → t.port.replies = u.port.replies ++ [{
      kind := e.kind.replyCode, tag := x.entry.tag, status := (x.entry.callReply r).1, deferred := true,
      body := .call a x.entry.order.code x.entry.attr (x.entry.callReply r).2.1 (x.entry.callReply r).2.2 }] := by
  obtain ⟨h1, h15⟩ := up.good
  have ended := replyTaken_over (u := u) (j := j) (slot := slot) h1 h15
  have freed := replyTaken_freed (u := u) (j := j) (slot := slot) h1 h15
  have record := ended.station
  rw [freed.field] at record
  rw [handOff_call owner] at ht
  subst ht
  refine ⟨record, ?_, ?_, ?_, ended.queue, fun e found => ?_⟩
  · simp [replyTaken, beginSlot, State.freePair]
  · simp [replyTaken, beginSlot]
  · simp [replyTaken, beginSlot]
  · rw [State.answer_port, ended.port, HostPort.answer_waiting _ _ found, Entry.callBody, up.entry_station]

/-! ### A miss (R119 to R121, R132) -/

/-- The up slot's word has been looked at: a CHECK or a FOREIGN word is a fault (R120, R134). -/
def missTaken (slot a : Nat) (line : Option Word) (u : State) : State :=
  match line with
  | none => beginSlot slot u
  | some w => (beginSlot slot u).reportFault a (if oddParity w then .check else .foreign) slot (some w)

theorem missTaken_taken (slot a : Nat) (line : Option Word) (u : State) :
    WordTaken u (missTaken slot a line u) ∧ (missTaken slot a line u).streams = u.streams := by
  cases line with
  | none => exact ⟨wordTaken_silent slot u, rfl⟩
  | some w => exact ⟨wordTaken_fault .., (State.reportFault_frame ..).2.2.1⟩

theorem missTaken_reported {kind : FaultKind} (h15 : a ≤ 15)
    (h : oddParity w = true ∧ kind = .check ∨ isForeign a w ∧ kind = .foreign) :
    faultReported a kind slot (some w) u (missTaken slot a (some w) u) := by
  have reported := ((beginSlot slot u).reportFault_reported h15 kind slot (some w)).congr (s' := u) rfl rfl
  obtain ⟨odd, rfl⟩ | ⟨⟨even, -⟩, rfl⟩ := h
  · rwa [missTaken, if_pos odd]
  · rwa [missTaken, if_neg (by simp [even])]

/-- The window left of the attempt that ends does not matter any more (R121). -/
theorem commandAnswer_miss (station : x.entry.station = a) (h : x.misses a line) :
    commandAnswer j slot x (classify a .replyOrWait line) (beginSlot slot u) =
      attemptMiss j slot x (missTaken slot a line u) := by
  subst station
  obtain ⟨rfl, last⟩ | ⟨w, rfl, odd | foreign⟩ := h
  · simp only [classify, commandAnswer, exchangeSilent, last, Nat.sub_self, Nat.lt_irrefl, if_false]
    rfl
  · rw [classify_odd _ odd, missTaken, if_pos odd]
    rfl
  · rw [classify_order_foreign foreign, missTaken, if_neg (by simp [foreign.1])]
    rfl

/-- The order is sent again (R121). -/
def Exchange.again (window : Nat) (x : Exchange) : Exchange :=
  { x with attempt := x.attempt + 1, framesLeft := window, sendDue := true }

section
variable {v : State} (taken : WordTaken u v) (h1 : 1 ≤ a) (h15 : a ≤ 15) (station : x.entry.station = a)
include taken h1 h15 station

/-- A miss before the last attempt (R70, R121). -/
theorem WordTaken.attempt_early (early : x.attempt < 3) :
    (u.belowMissLimit a → attemptMiss j slot x v =
      (v.reportMiss a).setExchange j (some (x.again u.engine.setup.window))) ∧
    (¬ u.belowMissLimit a → attemptMiss j slot x v =
      ((v.reportMiss a).setExchange j (some (x.again u.engine.setup.window))).missLimit a (u.station a).state) := by
  obtain ⟨state, limit⟩ := taken.missed h1 h15
  have window : (v.reportMiss a).engine.setup.window = u.engine.setup.window := by
    rw [(State.reportMiss_frame ..).1, taken.engine.2]
  rw [attemptMiss_eq station, if_pos early, window, state]
  exact ⟨fun below => if_neg fun reached => limit.mp reached below, fun reached => if_pos (limit.mpr reached)⟩

/-- The miss of the last attempt (R70, R121). -/
theorem WordTaken.attempt_last (third : 3 ≤ x.attempt) :
    (u.belowMissLimit a → attemptMiss j slot x v = handOff x.entry .noReply (lastMissed j a slot v)) ∧
    (¬ u.belowMissLimit a → attemptMiss j slot x v =
      (handOff x.entry .noReply (lastMissed j a slot v)).missLimit a (u.station a).state) := by
  obtain ⟨state, limit⟩ := taken.missed h1 h15
  rw [attemptMiss_eq station, if_neg (Nat.not_lt.mpr third), state]
  exact ⟨fun below => if_neg fun reached => limit.mp reached below, fun reached => if_pos (limit.mpr reached)⟩

/-- Before the last attempt a miss records no fault of its own (R121, R134). -/
theorem WordTaken.faults_early (early : x.attempt < 3) : (attemptMiss j slot x v).faults = v.faults := by
  obtain ⟨below, reached⟩ := taken.attempt_early (j := j) (slot := slot) h1 h15 station early
  by_cases limit : u.belowMissLimit a
  · rw [below limit]
    rfl
  · rw [reached limit, (State.missLimit_frame ..).2.2.1]
    rfl

/-- The last one is a NO_REPLY fault (R121, R134). -/
theorem WordTaken.faults_last (third : 3 ≤ x.attempt) :
    faultReported a .noReply slot none v (attemptMiss j slot x v) := by
  have reported := ((v.reportMiss a).reportFault_reported h15 .noReply slot none).congr (s' := v) rfl rfl
  have faults : (attemptMiss j slot x v).faults = ((v.reportMiss a).reportFault a .noReply slot none).faults := by
    obtain ⟨below, reached⟩ := taken.attempt_last (j := j) (slot := slot) h1 h15 station third
    by_cases limit : u.belowMissLimit a
    · rw [below limit, (handOff_frame ..).2.2.1, lastMissed, (State.freePair_frame ..).2.2.2.2.1]
    · rw [reached limit, (State.missLimit_frame ..).2.2.1, (handOff_frame ..).2.2.1, lastMissed,
        (State.freePair_frame ..).2.2.2.2.1]
  exact reported.after faults

end

end

end Sys2Proof.Machine
end

section

namespace Sys2Proof.Machine

/-! ## A miss at the miss limit, and the last miss of a CALL (R68, R70, R121, R124) -/

section
variable {s u v t : State} {j a m slot : Nat} {x : Exchange} {line : Option Word}

/-- The replies of a station's work depend on what it is made of alone (R68). -/
theorem State.workReplies_congr (operation : (v.station a).operation = (u.station a).operation)
    (flag : (v.station a).hostTrim = (u.station a).hostTrim) (flight : v.entryInFlight a = u.entryInFlight a)
    (queue : v.calls.queue = u.calls.queue) (port : v.port = u.port) (o w : Status) :
    v.workReplies a o w = u.workReplies a o w := by
  simp only [State.workReplies, State.operationReply, State.hostTrimReply, State.queueReplies, operation, flag, flight,
    queue, port]

/-- What a miss before the last attempt leaves to be sent again (R121). -/
theorem sendAgain_leaves (up : s.upSlotComes u j a slot x)
    (hv : v = ((missTaken slot a line u).reportMiss a).setExchange j (some (x.again u.engine.setup.window))) :
    v.exchange j = some (x.again u.engine.setup.window) ∧
    v.station a = { u.station a with misses := (u.station a).misses + 1 } ∧ v.trims = u.trims ∧
    v.streams = u.streams ∧ v.calls.queue = u.calls.queue ∧ v.port = u.port := by
  obtain ⟨taken, streams⟩ := missTaken_taken slot a line u
  obtain ⟨j1, j4, h1, h15, -⟩ := up
  have here : (missTaken slot a line u).station a = u.station a := by simp only [State.station, taken.stations]
  subst hv
  refine ⟨by simp [j1, j4], ?_, taken.trims, streams, ?_, taken.port⟩
  · simp [State.reportMiss, h1, h15, here]
  · simp [taken.calls]

/-- At the miss limit the ACTIVE station becomes FAULTED and its work, the exchange among it, ends (R68, R70). -/
theorem sendAgain_faulted (up : s.upSlotComes u j a slot x)
    (hv : v = ((missTaken slot a line u).reportMiss a).setExchange j (some (x.again u.engine.setup.window)))
    (active : (u.station a).state = .active) (field : (u.station a).exchange = some (.command j))
    (ht : t = v.missLimit a (u.station a).state) :
    t.exchange j = none ∧ (t.station a).state = .faulted ∧ (t.station a).exchange = none ∧
    (t.station a).misses = (u.station a).misses + 1 ∧ (∀ e ∈ t.calls.queue, e.station ≠ a) ∧
    stationTold a .faulted .misses u t ∧
    (PortBounded u → ExchangesAgree u → WorkOwned u →
      t.port.replies = u.port.replies ++ u.workReplies a .faulted .faulted) := by
  obtain ⟨h1, h15⟩ := up.good
  obtain ⟨exchange, record, -, -, queue, port⟩ := sendAgain_leaves up hv
  have ended : AttemptOver j a ((u.station a).misses + 1) u v := by
    obtain ⟨j1, j4, -, -, -, -, -, -, -, held, -⟩ := up
    exact hv ▸ (missTaken_taken slot a line u).1.again h1 h15 j1 j4 held rfl
  have faulted : t = v.enterFaulted a .misses .faulted .faulted := by
    rw [ht, active, State.missLimit, if_pos (by rw [record]; exact active)]
  rw [faulted, State.enterFaulted_station, if_pos ⟨rfl, h1, h15⟩, record]
  refine ⟨?_, rfl, rfl, rfl, State.enterFaulted_cleared _ a _ _ _,
    ended.told fun n hn => by rwa [State.enterFaulted_notices], fun bounded agree owned => ?_⟩
  · rw [State.enterFaulted_exchange, record, if_pos field]
  · have owns := ownsWork_of_invariants bounded owned up.released (mem_addresses.mpr ⟨h1, h15⟩)
    have flight : v.entryInFlight a = u.entryInFlight a := by
      rw [up.entryInFlight agree, State.entryInFlight, record, field]
      simp [exchange, Exchange.again]
    rw [(State.enterFaulted_answered (ended.ownsWork up agree owns) ..).replies, port,
      State.workReplies_congr (by rw [record]) (by rw [record]) flight queue port]

/-- The CALL whose exchange has ended is answered, the rest of the station's work stays owned (R124). -/
theorem OwnsWork.callAnswered (owns : OwnsWork u a) (flight : u.entryInFlight a = some x.entry)
    (owner : x.entry.owner = .call) (ended : AttemptOver j a m u v) (freed : Freed j a v) (st : Status)
    (b : ReplyBody) :
    OwnsWork (v.answer x.entry.tag st b) a ∧
    Answered (fun k target => k = .call ∧ target = some a) [deferredReply .call x.entry.tag st b] u.port
      (v.answer x.entry.tag st b).port := by
  have work : u.workEntries a = x.entry :: u.calls.queue.filter (fun e => e.station == a) := by
    rw [State.workEntries, flight]
    rfl
  have left : (v.answer x.entry.tag st b).workEntries a = u.calls.queue.filter (fun e => e.station == a) := by
    have none : (v.answer x.entry.tag st b).entryInFlight a = none := freed.entryInFlight
    rw [State.workEntries, none, State.answer_calls, ended.queue]
    rfl
  have awaited := owns.calls x.entry (by rw [work]; exact List.mem_cons_self) owner
  have answered : Answered (fun k target => k = .call ∧ target = some a) [deferredReply .call x.entry.tag st b] u.port
      (v.answer x.entry.tag st b).port := by
    rw [State.answer_port, ended.port]
    exact .one owns.differ awaited ⟨rfl, rfl⟩ st b
  have apart := owns.apart
  rw [work, List.map_cons, List.nodup_cons] at apart
  obtain ⟨fresh, apart⟩ := apart
  refine ⟨⟨answered.differ, fun o ho => ?_, fun e he call => ?_, by rwa [left]⟩, answered⟩
  · rw [State.answer_station, ended.station] at ho
    have kind : o.1.request ≠ .call := by cases o.1 <;> decide
    exact answered.awaits _ _ _ (by simp [kind]) (owns.operation o ho)
  · rw [left] at he
    have other : e.tag ≠ x.entry.tag := fun same => fresh (same ▸ List.mem_map_of_mem he)
    rw [State.answer_port, ended.port]
    exact HostPort.awaits_answer_of_ne other st b (owns.calls e (by rw [work]; exact List.mem_cons_of_mem _ he) call)

/-- p is u behind the last miss of the CALL e with station a: the CALL is answered NO_REPLY and the rest of the
station's work is owned as before (R121, R124). -/
structure CallMissed (a : Nat) (e : Entry) (u p : State) : Prop where
  record : p.station a = { u.station a with misses := (u.station a).misses + 1, exchange := none }
  queue : p.calls.queue = u.calls.queue
  number : p.engine.frameNumber = u.engine.frameNumber
  room : p.notices.entries.length ≤ u.notices.entries.length + 2
  owns : OwnsWork p a
  answered : Answered (fun k target => k = .call ∧ target = some a) (e.failReply .noReply) u.port p.port

theorem lastMissed_callMissed (up : s.upSlotComes u j a slot x) (owner : x.entry.owner = .call)
    (agree : ExchangesAgree u) (owns : OwnsWork u a) (taken : WordTaken u v) :
    CallMissed a x.entry u (handOff x.entry .noReply (lastMissed j a slot v)) := by
  obtain ⟨h1, h15⟩ := up.good
  have ended := taken.last (j := j) (slot := slot) h1 h15
  have freed := lastMissed_freed (j := j) (slot := slot) (s := v) h1 h15
  have reply : x.entry.failReply .noReply = [deferredReply .call x.entry.tag .noReply (x.entry.callBody 0 0)] :=
    if_pos owner
  obtain ⟨owns, answered⟩ := owns.callAnswered (up.entryInFlight agree) owner ended freed .noReply
    (x.entry.callBody 0 0)
  have handed : handOff x.entry .noReply (lastMissed j a slot v) =
      (lastMissed j a slot v).answer x.entry.tag .noReply (x.entry.callBody 0 0) := handOff_call owner .noReply _
  have record := ended.station
  rw [freed.field] at record
  rw [handed]
  exact ⟨record, ended.queue, ended.number, ended.room, owns, by rwa [reply]⟩

/-- The miss limit reached with that miss makes the station FAULTED, whose other work is answered after the CALL (R68,
R70). -/
theorem CallMissed.faulted {e : Entry} {p : State} (h : CallMissed a e u p) (h1 : 1 ≤ a) (h15 : a ≤ 15)
    (ht : t = p.enterFaulted a .misses .faulted .faulted) :
    (t.station a).misses = (u.station a).misses + 1 ∧ (t.station a).state = .faulted ∧
    (∀ e ∈ t.calls.queue, e.station ≠ a) ∧ stationTold a .faulted .misses u t ∧
    t.port.replies = u.port.replies ++ e.failReply .noReply ++ u.operationReply a .faulted .short ++
      u.hostTrimReply a .faulted ++ u.queueReplies a .faulted := by
  rw [ht, State.enterFaulted_station, if_pos ⟨rfl, h1, h15⟩, h.record]
  refine ⟨rfl, rfl, State.enterFaulted_cleared _ a _ _ _, ?_, ?_⟩
  · exact stationTold_of_move (v := p) (fun n hn => by rwa [State.enterFaulted_notices]) (by rw [h.record]) h.number
      h.room
  · have none : p.entryInFlight a = none := by simp [State.entryInFlight, h.record]
    rw [(State.enterFaulted_answered h.owns ..).replies, h.answered.replies, State.workReplies, none]
    simp only [State.operationReply, State.hostTrimReply, State.queueReplies, h.record, h.queue,
      h.answered.waiting .trim (some a) (by simp), Option.toList_none, List.flatMap_nil, List.append_nil,
      List.append_assoc]

/-- The third miss of a CALL: NO_REPLY, and at the miss limit the rest of the work after it (R68, R70, R124). -/
theorem attemptMiss_call (up : s.upSlotComes u j a slot x) (owner : x.entry.owner = .call) (bounded : PortBounded u)
    (agree : ExchangesAgree u) (owned : WorkOwned u) (third : 3 ≤ x.attempt)
    (ht : t = attemptMiss j slot x (missTaken slot a line u)) :
    (t.station a).misses = (u.station a).misses + 1 ∧
    (u.belowMissLimit a → (t.station a).state = .active ∧ t.calls.queue = u.calls.queue ∧
      t.port.replies = u.port.replies ++ x.entry.failReply .noReply) ∧
    (¬ u.belowMissLimit a → (t.station a).state = .faulted ∧ (∀ e ∈ t.calls.queue, e.station ≠ a) ∧
      stationTold a .faulted .misses u t ∧
      t.port.replies = u.port.replies ++ x.entry.failReply .noReply ++ u.operationReply a .faulted .short ++
        u.hostTrimReply a .faulted ++ u.queueReplies a .faulted) := by
  obtain ⟨h1, h15⟩ := up.good
  have taken := (missTaken_taken slot a line u).1
  have active : (u.station a).state = .active := by
    rw [up.state_needed owned, owner]
    rfl
  have owns := ownsWork_of_invariants bounded owned up.released (mem_addresses.mpr ⟨h1, h15⟩)
  have missed := lastMissed_callMissed up owner agree owns taken
  obtain ⟨below, reached⟩ := taken.attempt_last (j := j) (slot := slot) h1 h15 up.entry_station third
  by_cases limit : u.belowMissLimit a
  · rw [ht, below limit, missed.record]
    exact ⟨rfl, fun _ => ⟨active, missed.queue, missed.answered.replies⟩, fun most => absurd limit most⟩
  · have faulted := reached limit
    rw [active, State.missLimit, if_pos (by rw [missed.record]; exact active), ← ht] at faulted
    obtain ⟨misses, rest⟩ := missed.faulted h1 h15 faulted
    exact ⟨misses, fun least => absurd least limit, fun _ => rest⟩

/-- After the last miss no exchange is in flight, whoever owned it (R121). -/
theorem attemptMiss_freed (up : s.upSlotComes u j a slot x) (third : 3 ≤ x.attempt)
    (ht : t = attemptMiss j slot x (missTaken slot a line u)) :
    t.exchange j = none ∧ (t.station a).exchange = none := by
  obtain ⟨h1, h15⟩ := up.good
  have taken := (missTaken_taken slot a line u).1
  have freed := lastMissed_freed (j := j) (slot := slot) (s := missTaken slot a line u) h1 h15
  have state := (taken.last (j := j) (slot := slot) h1 h15).station
  obtain ⟨below, reached⟩ := taken.attempt_last (j := j) (slot := slot) h1 h15 up.entry_station third
  generalize lastMissed j a slot (missTaken slot a line u) = v at *
  have was : (v.station a).state = (u.station a).state := by rw [state]
  obtain rfl := up.entry_station
  have move := handOff_oneMove (v := v) h1 h15 .noReply
  have pair := (handOff_within x.entry v .noReply).freed j freed.pair
  by_cases limit : u.belowMissLimit x.entry.station
  · rw [ht, below limit]
    exact ⟨pair, move.idle freed.field⟩
  · rw [ht, reached limit, ← was]
    exact ⟨(Within.limit _).freed j pair, (move.missLimit h1 h15).idle freed.field⟩

end

/-! ## The statement -/

/-- RESPONSE_WINDOW_EXPIRY is the silent up slot with which the window ends (R119, log entry 9). -/
theorem exec_responseWindowExpiry {s u : State} {j a slot : Nat} {x : Exchange} (h : s.upSlotComes u j a slot x)
    (last : x.framesLeft = 1) : exec (.responseWindowExpiry j) s = exec (.commandUpSlot j none) s := by
  rw [exec_commandUpSlot none h]
  obtain ⟨j1, j4, -, -, rfl, reach, rfl, role, -, held, rfl⟩ := h
  have row := slotRow_comes (isRow := fun t => t.roleNow (commandUpIndex s j) == .commandUp j
    && ((t.exchange j).map (·.framesLeft)) == some 1) none reach (by
      simp only [commandUpIndex] at role held ⊢
      simp [role, held, last])
  refine (forPair_of j1 j4 _).trans (row.trans ?_)
  have held' : (beginSlot (commandUpIndex s j) (passSlots (commandUpIndex s j) s)).exchange j = some x := held
  simp only [commandUpIndex] at role held' ⊢
  simp only [slotEvent, role, serveSlot, held']

/-- Settles O44, by the class of the line: a REPLY, a WAIT, silence within the window, or a miss. -/
theorem callExchangeIsCarriedOn : Obligations.CallExchangeIsCarriedOn := by
  intro s u j a slot x line up
  obtain ⟨h1, h15⟩ := up.good
  have ⟨j1, j4, _⟩ := up
  have station := up.entry_station
  have run := exec_commandUpSlot line up
  have move := commandAnswer_oneMove (s := beginSlot slot u) (j := j) (slot := slot) (x := x) (by omega) (by omega)
    (classify a .replyOrWait line)
  rw [station] at move
  refine ⟨_, run, fun b hb => commandAnswer_others (beginSlot slot u) j slot x _ (by rwa [station]),
    by simp [beginSlot], fun follow => move.streamsFollow (goodStation_iff.mpr ⟨h1, h15⟩) follow, ?_, ?_, ?_, ?_, ?_, ?_⟩
  · rintro w status rfl reply low high
    have ended := commandAnswer_replies (slot := slot) up reply low high
    obtain ⟨pair, field, faults⟩ := replyTaken_handedOff up _ ended
    refine ⟨pair, field, faults, fun owner => ?_⟩
    obtain ⟨record, trims, streams, notices, queue, replies⟩ := replyTaken_callEnds up owner _ ended
    refine ⟨record, trims, streams, notices, queue, fun e found st echo value outcome => ?_⟩
    rw [replies e found, callReply_replyEnding, ← outcome]
  · rintro w rfl wait
    refine ⟨commandAnswer_waits_faults wait, fun more => commandAnswer_waits up wait more rfl, fun fifth => ?_⟩
    have ended := commandAnswer_stalls (slot := slot) up wait fifth
    obtain ⟨pair, field, -⟩ := replyTaken_handedOff up _ ended
    exact ⟨pair, field, fun owner => replyTaken_callEnds up owner _ ended⟩
  · rintro rfl more
    rw [commandAnswer_silent more]
    exact ⟨by simp [j1, j4], rfl, rfl, rfl, rfl, rfl, by simp [beginSlot], rfl⟩
  · rintro rfl last
    obtain ⟨taken, -⟩ := missTaken_taken slot a none u
    have missed := commandAnswer_miss (j := j) (slot := slot) (u := u) station (.inl ⟨rfl, last⟩)
    refine ⟨(exec_responseWindowExpiry up last).trans run, fun early => ?_, fun third => ?_⟩
    · rw [missed, taken.faults_early h1 h15 station early]
      rfl
    · rw [missed]
      exact (taken.faults_last h1 h15 station third).congr rfl rfl
  · rintro w kind rfl fault
    obtain ⟨taken, -⟩ := missTaken_taken slot a (some w) u
    have reported := missTaken_reported (u := u) (slot := slot) h15 fault
    rw [commandAnswer_miss station (.inr ⟨w, rfl, fault.imp And.left And.left⟩)]
    refine ⟨fun early => reported.after (taken.faults_early h1 h15 station early), fun third =>
      ⟨{ missTaken slot a (some w) u with engine := u.engine }, rfl, reported.after rfl, ?_⟩⟩
    exact (taken.faults_last h1 h15 station third).congr rfl taken.engine.1.symm
  · intro misses
    obtain ⟨taken, -⟩ := missTaken_taken slot a line u
    rw [commandAnswer_miss station misses]
    refine ⟨fun early below => ?_, fun early reached active field => ?_, fun third => attemptMiss_freed up third rfl,
      fun third owner bounded agree owned => attemptMiss_call up owner bounded agree owned third rfl⟩
    · rw [(taken.attempt_early h1 h15 station early).1 below]
      exact sendAgain_leaves up rfl
    · rw [(taken.attempt_early h1 h15 station early).2 reached]
      exact sendAgain_faulted up rfl active field rfl

end Sys2Proof.Machine
end

section

namespace Sys2Proof.Machine

/-! ## CLEAR FAULT (R140) -/

theorem clearFault_taken {f : ReqFrame} {s : State} {a : Nat} (ha : f.param 0 = a)
    (taken : s.takesRequest .clearFault f) :
    exec .clearFault s = .next (if 15 < a then s.refused .clearFault f .badParam
      else (s.setFault a {}).repliedOk .clearFault f (.clearFault a (s.faultCell a))) := by
  have run : exec .clearFault s = .next (serveClearFault f s.popIntake) := takesRequest_served serveClearFault taken
  rw [run]
  simp only [serveClearFault, ha, State.popIntake_refuse]
  rfl

/-- Settles O20: the reply is made of the cell as it stood, and the empty cell is all that is written. -/
theorem clearFaultRemovesRecord : Obligations.ClearFaultRemovesRecord := by
  intro f s a taken ha
  have run := clearFault_taken ha taken
  have cleared : ∀ b, (s.setFault a {}).faultCell b = if a = b ∧ a ≤ 15 then {} else s.faultCell b := fun b => by simp
  refine ⟨fun above => by rw [run, if_pos above], fun within => ⟨_, run, ?_⟩⟩
  rw [if_neg (Nat.not_lt.mpr within)]
  exact ⟨rfl, (cleared a).trans (if_pos ⟨rfl, within⟩),
    fun b other => (cleared b).trans (if_neg fun here => other here.1.symm)⟩

/-! ## Which fault cells are counted truly (R131, R132) -/

/-- A cell's count is at most 65535, and is 0 exactly while the cell has no record. -/
structure FaultCell.Counted (c : FaultCell) : Prop where
  bound : c.count ≤ Config.wordCount
  empty : c.record = none ↔ c.count = 0

/-- Every cell of the Fault Recorder is counted truly; the addresses that it has none for read as empty cells. -/
structure FaultRecorder.Counted (r : FaultRecorder) : Prop where
  cell : ∀ a, (r.get a).Counted

theorem FaultCell.cleared_counted : ({} : FaultCell).Counted := ⟨Nat.zero_le _, iff_of_true rfl rfl⟩

/-- A report saturates the count above 0 and leaves a record, whatever the count was (R132). -/
theorem FaultCell.reported_counted (record : FaultRecord) (n : Nat) :
    ({ record := some record, count := satSucc Config.wordCount n } : FaultCell).Counted := by
  have range : 0 < satSucc Config.wordCount n ∧ satSucc Config.wordCount n ≤ Config.wordCount := by
    simp only [satSucc, Config.wordCount]
    split <;> omega
  exact ⟨range.2, iff_of_false (by simp) (Nat.ne_of_gt range.1)⟩

theorem FaultRecorder.get_beyond (r : FaultRecorder) {a : Nat} (h : ¬ a < 16) : r.get a = {} := by
  simp [FaultRecorder.get, h]

theorem faultsCounted_iff {s : State} : FaultsCounted s ↔ s.faults.Counted := by
  constructor
  · refine fun h => ⟨fun a => ?_⟩
    by_cases within : a < 16
    · obtain ⟨bound, empty⟩ := h a (List.mem_range.mpr within)
      exact ⟨bound, empty⟩
    · rw [s.faults.get_beyond within]
      exact FaultCell.cleared_counted
  · exact fun h a _ => ⟨(h.cell a).bound, (h.cell a).empty⟩

theorem FaultRecorder.reset_counted : FaultRecorder.reset.Counted where
  cell a := (FaultRecorder.reset_get a).symm ▸ FaultCell.cleared_counted

section
variable {s : State} (h : s.faults.Counted)
include h

theorem State.setFault_counted (a : Nat) {c : FaultCell} (counted : c.Counted) :
    (s.setFault a c).faults.Counted := by
  refine ⟨fun b => ?_⟩
  change ((s.setFault a c).faultCell b).Counted
  rw [State.setFault_faultCell]
  split
  · exact counted
  · exact h.cell b

theorem State.reportFault_counted (a : Nat) (kind : FaultKind) (slot : Nat) (raw : Option Word) :
    (s.reportFault a kind slot raw).faults.Counted := by
  refine ⟨fun b => ?_⟩
  change ((s.reportFault a kind slot raw).faultCell b).Counted
  rw [State.reportFault_faultCell]
  split
  · exact FaultCell.reported_counted ..
  · exact h.cell b

/-! ### The slots: a fault is reported, or the records stay (R14, R19, R57, R101, R120, R121) -/

theorem drive_counted (slot : Nat) (w : Word) (line : Option Word) : (drive slot w line s).faults.Counted := by
  simp only [drive]
  split
  · exact h
  · split
    · exact h
    · exact State.reportFault_counted (s := { s with engine := { s.engine with line := some w } }) h ..

theorem unexpected_counted (slot : Nat) (line : Option Word) : (unexpected slot line s).faults.Counted := by
  unfold unexpected
  split
  · exact h
  · exact State.reportFault_counted h ..

theorem trimAnswer_counted (k slot a : Nat) (c : UpClass) : (trimAnswer k slot a c s).faults.Counted := by
  have freed : (s.freeService k a).faults.Counted := h
  simp only [trimAnswer]
  generalize s.freeService k a = t at freed
  have missed : ∀ kind raw, (trimMiss a (t.reportFault a kind slot raw)).faults.Counted := fun kind raw => by
    rw [(trimMiss_frame ..).2.2.1]
    exact State.reportFault_counted freed ..
  split
  case h_2 => exact missed ..
  case h_3 => exact missed ..
  all_goals simpa using freed

theorem attemptMiss_counted (j slot : Nat) (x : Exchange) : (attemptMiss j slot x s).faults.Counted := by
  have reported := State.reportFault_counted (s := s.reportMiss x.entry.station) h x.entry.station .noReply slot none
  simp only [attemptMiss]
  repeat' split
  · simpa using h
  · simpa using reported
  · exact h
  · simpa using reported

theorem commandAnswer_counted (j slot : Nat) (x : Exchange) (c : UpClass) :
    (commandAnswer j slot x c s).faults.Counted := by
  unfold commandAnswer
  split
  · simp only [exchangeSilent]
    split
    · exact h
    · exact attemptMiss_counted h ..
  · exact attemptMiss_counted (State.reportFault_counted h ..) ..
  · exact attemptMiss_counted (State.reportFault_counted h ..) ..
  all_goals simpa using h

theorem streamAnswer_counted (id slot : Nat) (st : Stream) (c : UpClass) :
    (streamAnswer id slot st c s).faults.Counted := by
  have gap : (takeGap id slot st s).faults.Counted := by simpa using h
  unfold streamAnswer
  split
  · simpa using h
  · exact gap
  · exact State.reportFault_counted gap ..
  · exact State.reportFault_counted gap ..
  all_goals exact h

theorem streamDown_counted (id slot : Nat) (st : Stream) (line : Option Word) :
    (streamDown id slot st line s).faults.Counted := by
  obtain ⟨v, before, -, after⟩ := streamDown_faults id slot st line s
  rw [after]
  exact drive_counted (before.symm ▸ h) ..

theorem serveSlot_counted (role : Role) (slot : Nat) (line : Option Word) :
    (serveSlot role slot line s).faults.Counted := by
  unfold serveSlot
  cases role with
  | free => exact unexpected_counted h ..
  | beacon => exact drive_counted h ..
  | serviceDown k => exact drive_counted h ..
  | serviceUp k =>
    simp only
    split
    · exact trimAnswer_counted h ..
    · exact unexpected_counted h ..
  | commandDown j => exact drive_counted (by simpa using h) ..
  | commandUp j =>
    simp only
    split
    · exact commandAnswer_counted h ..
    · exact unexpected_counted h ..
  | stream id =>
    simp only
    repeat' split
    · exact unexpected_counted h ..
    · exact streamDown_counted h ..
    · exact streamAnswer_counted h ..
    · exact unexpected_counted h ..

theorem slotEvent_counted (slot : Nat) (line : Option Word) : (slotEvent slot line s).faults.Counted :=
  serveSlot_counted (s := beginSlot slot s) h ..

omit h in
theorem passFrom_counted (n : Nat) :
    ∀ (slot : Nat) {s : State}, s.faults.Counted → (passFrom slot n s).faults.Counted := by
  induction n with
  | zero => exact fun _ _ h => h
  | succ n ih => exact fun slot _ h => ih _ (slotEvent_counted h slot none)

theorem passSlots_counted (slot : Nat) : (passSlots slot s).faults.Counted := by
  unfold passSlots
  split
  · exact h
  · exact passFrom_counted _ _ h

/-- Of a frame end only the slots left over can report a fault (R4, R144). -/
theorem frameEnd_counted : (frameEnd s).faults.Counted := by
  have closed : (closeFrame s).faults = (passSlots Config.slots s).faults := by
    rw [closeFrame_eq]
    exact foldl_same (p := State.faults) (fun t a => by simp) addresses _
  rw [frameEnd, (settleTrunk_frame _).2.1, closed]
  exact passSlots_counted h _

end

/-! ### The requests: CLEAR FAULT alone writes the records (R140) -/

section
variable (f : ReqFrame) (s : State)

theorem cancelEntry_faults {e : Outstanding} {s t : State} (h : cancelEntry e s = some t) : t.faults = s.faults := by
  unfold cancelEntry cancelCommit cancelEnroll cancelDrowse cancelWake cancelTrim cancelCall at h
  repeat' split at h
  all_goals simp only [Option.some.injEq, reduceCtorEq] at h
  all_goals
    subst h
    simp

theorem serveCancel_faults : (serveCancel f s).faults = s.faults := by
  simp only [serveCancel]
  repeat' split
  · rfl
  · rfl
  · next h => simpa using cancelEntry_faults h
  · rfl

theorem giveUp_faults (tag : Byte) : (giveUp tag s).faults = s.faults := by
  have exchange : ∀ t j, (giveUpExchange tag t j).faults = t.faults := fun t j => by
    unfold giveUpExchange
    repeat' split
    all_goals rfl
  have operation : ∀ t a, (giveUpOperation tag t a).faults = t.faults := fun t a => by
    unfold giveUpOperation
    repeat' split
    all_goals rfl
  have work : (s.workGivenUp tag).faults = s.faults :=
    (foldl_same (p := State.faults) operation _ _).trans (foldl_same (p := State.faults) exchange _ _)
  obtain h | h := giveUp_cases s tag
  · rw [h, work]
  · rw [h, ← work]

theorem serveRestart_faults : (serveRestart f s).faults = s.faults := by
  simp only [serveRestart, State.accept_faults]
  refine (foldl_same (p := State.faults) (fun t e => ?_) _ _).trans rfl
  unfold abortOne
  split
  · rfl
  · rw [State.answer_faults, giveUp_faults]

theorem serveTrunkStop_faults : (serveTrunkStop f s).faults = s.faults := by
  unfold serveTrunkStop
  split
  · simp only [State.enter_faults, beginStop]
    split
    · exact (frameStart_frame s).1
    · rfl
  · rfl

theorem serveOpenStream_faults : (serveOpenStream f s).faults = s.faults := by
  simp only [serveOpenStream]
  repeat' split
  all_goals rfl

theorem serveCloseStream_faults : (serveCloseStream f s).faults = s.faults := by
  simp only [serveCloseStream]
  repeat' split
  all_goals simp

theorem serveDiscard_faults : (serveDiscard f s).faults = s.faults := by
  simp only [serveDiscard]
  split
  · rfl
  · rw [discardStreams_eq]
    rfl

theorem serveCall_faults : (serveCall f s).faults = s.faults := by
  simp only [serveCall, beginCall]
  repeat' split
  all_goals simp

/-- A request other than CLEAR FAULT leaves the records: behind its tests it writes other blocks. -/
theorem serve_faults {k : ReqKind} (other : k ≠ .clearFault) : (k.serve f s).faults = s.faults := by
  have kept : ∀ {p : Prop} [Decidable p] {t u : State}, t.faults = s.faults → u.faults = s.faults →
      (if p then t else u).faults = s.faults := fun ht hu => by
    split
    · exact ht
    · exact hu
  cases k with
  | clearFault => exact absurd rfl other
  | cancel => exact serveCancel_faults f s
  | restart => exact serveRestart_faults f s
  | trunkStop => exact serveTrunkStop_faults f s
  | enroll => exact kept rfl (kept (by simp [beginEnroll]) rfl)
  | drop => exact kept rfl (kept rfl (by simp))
  | drowse => exact kept rfl (kept rfl (kept rfl (by simp [beginDrowse])))
  | wake => exact kept rfl (kept rfl (by simp [beginWake]))
  | call => exact serveCall_faults f s
  | openStream => exact serveOpenStream_faults f s
  | closeStream => exact serveCloseStream_faults f s
  | discard => exact serveDiscard_faults f s
  | hello => rfl
  | status => rfl
  | planInfo => rfl
  | grant => exact kept rfl rfl
  | trunkSetup => exact kept rfl (kept rfl (kept rfl rfl))
  | trunkStart => exact kept rfl rfl
  | trim => exact kept rfl (kept rfl (kept rfl (kept rfl rfl)))
  | policy => exact kept rfl (kept rfl rfl)
  | stationInfo => exact kept rfl rfl
  | commit => exact kept rfl (kept rfl (kept rfl rfl))
  | write =>
    simp only [ReqKind.serve, serveWrite]
    split
    · rfl
    · exact kept rfl rfl
  | streamInfo =>
    simp only [ReqKind.serve, serveStreamInfo]
    split
    · rfl
    · exact kept rfl rfl

theorem serve_counted {s : State} (h : s.faults.Counted) (k : ReqKind) : (k.serve f s).faults.Counted := by
  by_cases clears : k = .clearFault
  · subst clears
    simp only [ReqKind.serve, serveClearFault]
    split
    · exact h
    · exact State.setFault_counted h _ FaultCell.cleared_counted
  · rw [serve_faults f s clears]
    exact h

end

/-! ### Every step (R131, R132) -/

theorem Event.keeps_counted {s t : State} (event : Event s t) (h : s.faults.Counted) : t.faults.Counted := by
  cases event with
  | port p => exact h
  | served k f => exact serve_counted (s := s.popIntake) f h k
  | noticed _ =>
    unfold startNotice
    split
    · simpa using h
    all_goals exact h
  | reset reason baud => exact FaultRecorder.reset_counted
  | cutOff => exact h
  | slot n line => exact slotEvent_counted (passSlots_counted h n) n line
  | frameStart _ => rwa [(frameStart_frame s).1]
  | frameEnd _ => exact frameEnd_counted h

/-- Settles O53: a report saturates the count and leaves a record, CLEAR FAULT and a reset leave empty cells, and
nothing else writes the Fault Recorder. -/
theorem faultCountsStayTrue : Obligations.FaultCountsStayTrue := fun _ _ hs h =>
  step_keeps (P := FaultsCounted) (fun _ _ h => h)
    (fun event h => faultsCounted_iff.mpr (event.keeps_counted (faultsCounted_iff.mp h))) hs h

end Sys2Proof.Machine
end

section

namespace Sys2Proof.Machine

/-! ## The take of a request of any kind (R150, R151) -/

theorem exec_command (k : ReqKind) (s : State) : exec k.command s = takeRequest k k.serve s := by
  cases k <;> rfl

/-- While RSTN is low the meanings in the shell answer the state as it is (R162). -/
theorem takeRequest_low {s : State} (low : s.port.rstnLow = true) (k : ReqKind) (serve : ReqFrame → State → State) :
    takeRequest k serve s = .next s := whileReleased_low low

theorem slotRow_low {s : State} (low : s.port.rstnLow = true) (slot : Nat) (isRow : State → Bool) (line : Option Word) :
    slotRow slot isRow line s = .next s := whileReleased_low low

theorem forStation_good {a : Nat} (h : goodStation a = true) (o : Out) : forStation a o = o := if_pos h
theorem forPair_good {k : Nat} (h : goodPair k = true) (o : Out) : forPair k o = o := if_pos h
theorem forSlot_good {k : Nat} (h : goodSlot k = true) (o : Out) : forSlot k o = o := if_pos h

/-- While RSTN is low no command but RSTN_LOW and POWER_ON has an effect (R5, R162, log entry 15). -/
theorem exec_low {c : Instr} {s : State} (low : s.port.rstnLow = true) (good : c.wellFormed = true) (cut : c ≠ .rstnLow)
    (on : ∀ bds1 bds0, c ≠ .powerOn bds1 bds0) : exec c s = .next s := by
  have shell : ∀ f : State → State, whileReleased s f = .next s := fun _ => whileReleased_low low
  cases c with
  | powerOn bds1 bds0 => exact absurd rfl (on bds1 bds0)
  | rstnLow => exact absurd rfl cut
  | trimDue a => exact (forStation_good good _).trans (shell _)
  | quietSpanEnd a => exact (forStation_good good _).trans (shell _)
  | wakeLatencyEnd a => exact (forStation_good good _).trans (shell _)
  | responseWindowExpiry j => exact (forPair_good good _).trans (shell _)
  | serviceDownSlot k _ => exact (forPair_good good _).trans (shell _)
  | serviceUpSlot k _ => exact (forPair_good good _).trans (shell _)
  | commandDownSlot j _ => exact (forPair_good good _).trans (shell _)
  | commandUpSlot j _ => exact (forPair_good good _).trans (shell _)
  | streamDownSlot k _ => exact (forSlot_good good _).trans (shell _)
  | streamUpSlot k _ => exact (forSlot_good good _).trans (shell _)
  | unexpectedWordSlot k _ => exact (forSlot_good good _).trans (shell _)
  | receiveFrame bytes => exact (shell _ : execReceiveFrame bytes s = _)
  | gapLimitExpiry => exact (shell _ : execGapLimitExpiry s = _)
  | syncByteReceived => exact (shell _ : execSyncByteReceived s = _)
  | badLengthByte b => exact (shell _ : execBadLengthByte b s = _)
  | framingErrorByte b => exact (shell _ : execFramingErrorByte b s = _)
  | badKindFrame => exact (shell _ : execBadKindFrame s = _)
  | replyStart => exact (shell _ : execReplyStart s = _)
  | noticeStart => exact (shell _ : execNoticeStart s = _)
  | messageEnd => exact (shell _ : execMessageEnd s = _)
  | resetPoint | frameStart | frameEnd | startingEnd | trunkStopComplete | frameNumberExhausted | planSwap =>
    exact shell _
  | beaconSlot line => exact (slotRow_low low 0 _ line : execBeaconSlot line s = _)
  | _ => exact takeRequest_low low _ _

/-- Settles O4: RSTN_LOW by its definition, and every other meaning stands in the shell that RSTN opens. -/
theorem rstnLowCutsOff : Obligations.RstnLowCutsOff :=
  ⟨fun _ => rfl, fun _ _ low good cut on => exec_low low good cut on⟩

/-! ### The port's own tests (R151) -/

theorem any_tag_iff {l : List Outstanding} {tag : Byte} :
    l.any (fun e => e.tag == tag) = true ↔ tag ∈ l.map (·.tag) := by
  simp

theorem portRefusal_badLength {k : ReqKind} {f : ReqFrame} (p : HostPort) (h : k.allowsLength f.payload.length = false) :
    portRefusal k f p = some .badLength := by
  simp [portRefusal, h]

theorem portRefusal_tagInUse {k : ReqKind} {f : ReqFrame} {p : HostPort} (len : k.allowsLength f.payload.length = true)
    (other : k ≠ .restart) (used : f.tag ∈ p.table.map (·.tag)) : portRefusal k f p = some .tagInUse := by
  simp only [portRefusal, len, any_tag_iff.mpr used]
  simp [other]

theorem portRefusal_tableFull {k : ReqKind} {f : ReqFrame} {p : HostPort} (len : k.allowsLength f.payload.length = true)
    (free : f.tag ∉ p.table.map (·.tag)) (deferred : k.isDeferred = true) (full : 8 ≤ p.table.length) :
    portRefusal k f p = some .tableFull := by
  have unused : p.table.any (fun e => e.tag == f.tag) = false := by
    rw [← Bool.not_eq_true, any_tag_iff]
    exact free
  simp [portRefusal, len, unused, deferred, Config.table, full]

theorem State.offersFrame.takes {s : State} {f : ReqFrame} (h : s.offersFrame f) : s.port.takes = true := by
  obtain ⟨-, going, room, -⟩ := h
  simp [HostPort.takes, going, room]

/-- Settles O5: a closed intake takes nothing, and each test fails only behind those before it. -/
theorem portTestsInOrder : Obligations.PortTestsInOrder := by
  intro k f s kind low head
  simp only [exec_command]
  refine ⟨fun closed => takeRequest_closed _ ?_, fun offers => ?_⟩
  · have full : s.port.immediate < 4 → s.port.restarting = true := fun room =>
      closed.resolve_left (Nat.not_le.mpr room)
    simpa [HostPort.takes, Config.immediateReplies] using full
  · have refused : ∀ st, portRefusal k f s.port = some st → takeRequest k k.serve s = .next (s.refused k f st) :=
      fun _ fail => takeRequest_refused _ low head offers.takes kind fail
    exact ⟨fun len => refused _ (portRefusal_badLength _ len),
      fun len other used => refused _ (portRefusal_tagInUse len other used),
      fun len free deferred full => refused _ (portRefusal_tableFull len free deferred full)⟩

/-- A byte that is the kind of no request fails the kind test (R151, R176). -/
theorem isRequestKind_eq_false {b : Byte} (h : ∀ k : ReqKind, k.code ≠ b) : isRequestKind b = false := by
  simp only [isRequestKind, List.any_eq_false, beq_iff_eq]
  exact fun k _ => h k

/-- Settles O6: BAD_KIND_FRAME on an open intake whose oldest frame fails the kind test. -/
theorem badKindFrameIsAnswered : Obligations.BadKindFrameIsAnswered := by
  intro f s offers none
  have takes := offers.takes
  obtain ⟨low, -, -, head⟩ := offers
  refine ⟨?_, rfl⟩
  show execBadKindFrame s = _
  simp only [execBadKindFrame, whileReleased_of low, head, takes, isRequestKind_eq_false none]
  rfl

/-! ## The queries (R39, R156, R157) -/

/-- Settles O7: each query's service is its reply, on the state whose oldest frame has left the intake. -/
theorem queriesReportAndChangeNothing : Obligations.QueriesReportAndChangeNothing := by
  refine fun f s => ⟨fun taken => ⟨takesRequest_served serveHello taken, rfl⟩,
    fun taken => takesRequest_served serveStatus taken, fun taken plan named => ?_⟩
  have run : exec .planInfo s = .next (servePlanInfo f s.popIntake) := takesRequest_served servePlanInfo taken
  rw [run, named]
  by_cases active : f.param 0 = 0 <;> simp [servePlanInfo, planReport, active] <;> rfl

/-! ## CANCEL that withdraws nothing (R158, R12) -/

/-- The service of a CANCEL, by what the table holds for its target and by what the target's owner says. -/
theorem exec_cancel {f : ReqFrame} {s : State} {tag : Byte} (taken : s.takesRequest .cancel f) (target : f.payload = [tag]) :
    exec .cancel s = .next (match s.port.table.find? (fun e => e.tag == tag) with
      | none => s.replied 0x44#8 f.tag .notFound (.cancel tag)
      | some e =>
        if e.replied || e.phase == .inFlight then s.replied 0x44#8 f.tag .tooLate (.cancel tag)
        else match cancelEntry e s.popIntake with
          | some t => t.replyNow 0x44#8 f.tag .ok (.cancel tag)
          | none => s.replied 0x44#8 f.tag .tooLate (.cancel tag)) := by
  have run : exec .cancel s = .next (serveCancel f s.popIntake) := takesRequest_served serveCancel taken
  rw [run]
  simp only [serveCancel, target]
  rfl

/-- Settles O9: the search of the table decides; a reply queued, a request in flight and an owner without a rule for
CANCEL make it too late. -/
theorem cancelAnswersNotFoundOrTooLate : Obligations.CancelAnswersNotFoundOrTooLate := by
  intro f s tag taken target
  refine ⟨fun missing => by rw [exec_cancel taken target, missing], fun e found late => ?_⟩
  rw [exec_cancel taken target, found]
  obtain replied | flight | start | stop := late
  · simp [replied]
  · simp [flight]
  · simp [cancelEntry, start]
  · simp [cancelEntry, stop]

/-! ## The transmitter and the reset point (R153 to R155, R160, R161) -/

theorem execReplyStart_idle {s : State} {r : Reply} {rest : List Reply} (low : s.port.rstnLow = false)
    (idle : s.port.transmitter = .idle) (queue : s.port.replies = r :: rest) :
    execReplyStart s = .next { s with port := { s.port with
      transmitter := .reply (hostFrame r.kind r.tag (BitVec.ofNat 8 s.port.discarded) r.payload), discarded := 0 } } := by
  simp only [execReplyStart, whileReleased_of low, idle, queue]

theorem execReplyStart_none {s : State} (low : s.port.rstnLow = false)
    (none : s.port.replies = [] ∨ s.port.transmitter ≠ .idle) : execReplyStart s = .next s := by
  rw [execReplyStart, whileReleased_of low]
  split
  · next idle queue => simp [idle, queue] at none
  all_goals rfl

theorem execMessageEnd_reply {s : State} {r : Reply} {rest : List Reply} {message : List Byte}
    (low : s.port.rstnLow = false) (busy : s.port.transmitter = .reply message) (queue : s.port.replies = r :: rest) :
    execMessageEnd s = .next { s with port := { s.port with
      transmitter := .idle, replies := rest
      table := if r.deferred = true then s.port.table.filter (fun e => e.tag != r.tag) else s.port.table } } := by
  simp only [execMessageEnd, whileReleased_of low, busy, HostPort.replySent, queue]

/-- Settles O29: the transmitter's cases, one by one. -/
theorem replyIsSentThenLeaves : Obligations.ReplyIsSentThenLeaves := by
  refine fun s low => ⟨fun r rest queue => ⟨fun idle => execReplyStart_idle low idle queue,
    fun message busy => execMessageEnd_reply low busy queue⟩, fun message busy => ?_, execReplyStart_none low,
    fun idle => ?_⟩
  · show execMessageEnd s = _
    rw [execMessageEnd, whileReleased_of low, busy]
  · show execMessageEnd s = _
    rw [execMessageEnd, whileReleased_of low, idle]

/-- The plan of power-on, role by role (R21). -/
theorem Plan.reset_roles : Plan.reset.role 0 = .beacon ∧ Plan.reset.role 1 = .serviceDown 1 ∧
    Plan.reset.role 2 = .serviceUp 1 ∧ Plan.reset.role 3 = .commandDown 1 ∧ Plan.reset.role 4 = .commandUp 1 ∧
    Plan.reset.role 5 = .commandDown 2 ∧ Plan.reset.role 6 = .commandUp 2 ∧ ∀ k, 7 ≤ k → Plan.reset.role k = .free := by
  obtain ⟨-, beacon, service, command, free⟩ := Plan.reset_bare
  obtain ⟨down, up⟩ := service 1 le_rfl le_rfl
  obtain ⟨down1, up1⟩ := command 1 le_rfl (by decide)
  obtain ⟨down2, up2⟩ := command 2 (by decide) le_rfl
  exact ⟨beacon, down, up, down1, up1, down2, up2, fun k hk => free k (by omega)⟩

/-- Settles O31: with RESTART's reply sent every block reads as its power-on table, else nothing changes. -/
theorem resetPointTakesPowerOnState : Obligations.ResetPointTakesPowerOnState := by
  intro s low
  refine ⟨fun other => ?_, fun restarting replies idle => ⟨State.atPowerOn .restart s.port.baud s.pending, ?_, rfl,
    ?_, rfl, rfl, StreamUnit.reset_get, StationManager.reset_get, rfl, TrimScheduler.reset_get, TrimScheduler.reset_held,
    rfl, CallUnit.reset_get, FaultRecorder.reset_get, rfl, rfl, rfl, rfl, NoticeQueue.reset_marked .restart _, rfl, rfl⟩⟩
  · show execResetPoint s = _
    rw [execResetPoint, whileReleased_of low, if_neg]
    rintro ⟨restarting, replies, idle⟩
    simp [restarting, replies, idle] at other
  · show execResetPoint s = _
    rw [execResetPoint, whileReleased_of low, if_pos ⟨restarting, replies, idle⟩]
  · intro p hp
    have reset : p = Plan.reset := by simpa [State.atPowerOn, PlanStore.reset] using hp
    rw [reset]
    exact ⟨rfl, rfl, Plan.reset_roles⟩

end Sys2Proof.Machine
end

section

namespace Sys2Proof.Machine

/-! ## What a scan hands to the port (R146, R148, R149) -/

/-- A byte that arrives in time and with a good stop bit. -/
def RxByte.clean (b : Byte) : RxByte := { byte := b, gapBefore := false, framingError := false }

/-- What a scan of the receiver makes of the port: its receiver, the frames placed and the discards counted. -/
def HostPort.scanned (r : Scan) (gapPassed : Bool) (p : HostPort) : HostPort :=
  { p with receiver := { kept := r.kept, gapPassed := gapPassed } }.settle r

theorem HostPort.receive_eq (err : Bool) (bytes : List Byte) (p : HostPort) :
    p.receive err bytes = p.scanned (scan false 0 (p.receiver.kept ++ p.receiver.record err bytes))
      (p.receiver.gapPassed && bytes.isEmpty) := rfl

theorem HostPort.gapLimit_eq (p : HostPort) : p.gapLimit = p.scanned (scan true 0 p.receiver.kept) true := rfl

/-- Behind no gap the receiver records clean bytes. -/
theorem Receiver.record_inTime {r : Receiver} (h : r.gapPassed = false) (bytes : List Byte) :
    r.record false bytes = bytes.map RxByte.clean := by
  cases bytes with
  | nil => rfl
  | cons b rest => rw [Receiver.record, h]; rfl

theorem Receiver.record_cons (r : Receiver) (b : Byte) (bytes : List Byte) :
    r.record false (b :: bytes) =
      { byte := b, gapBefore := r.gapPassed, framingError := false } :: bytes.map RxByte.clean := rfl

theorem HostPort.place_receiver (p : HostPort) (r : Receiver) (f : ReqFrame) :
    { p with receiver := r }.place f = { p.place f with receiver := r } := by
  simp only [HostPort.place]
  split <;> rfl

/-- Neither a frame that is placed nor a discard touches the receiver. -/
theorem HostPort.settle_receiver (r : Scan) (p : HostPort) : (p.settle r).receiver = p.receiver := by
  have placed : ∀ (q : HostPort) f, (q.place f).receiver = q.receiver := fun q f => by
    unfold HostPort.place
    split <;> rfl
  have counted : ∀ (q : HostPort) (_ : Nat), q.countDiscard.receiver = q.receiver := fun _ _ => rfl
  exact (foldl_same (p := HostPort.receiver) counted _ _).trans (foldl_same (p := HostPort.receiver) placed _ _)

/-- A scan with one more failed candidate counts one more discard (R148). -/
theorem HostPort.scanned_failed (r : Scan) (gap : Bool) (p : HostPort) :
    p.scanned { r with failed := r.failed + 1 } gap = p.countDiscard.scanned r gap :=
  HostPort.settle_failed r _

/-- A scan with a good frame before its others places that one first (R146). -/
theorem HostPort.scanned_frame (r : Scan) (f : ReqFrame) (gap : Bool) (p : HostPort) :
    p.scanned { r with frames := f :: r.frames } gap = (p.place f).scanned r gap := by
  simp only [HostPort.scanned, HostPort.settle, List.foldl_cons, HostPort.place_receiver]

/-- The receiver is set anew by a scan, whatever it was. -/
theorem HostPort.scanned_receiver (r : Scan) (gap : Bool) (p : HostPort) (before : Receiver) :
    { p with receiver := before }.scanned r gap = p.scanned r gap := rfl

/-! ## Candidates (R145 to R148) -/

theorem RxByte.isSync_iff {x : RxByte} : x.isSync = true ↔ x.byte = 0xC3 ∧ x.framingError = false := by
  simp [RxByte.isSync, Config.syncByte]

/-- A candidate with a framing error at its end does not go on (R147). -/
theorem examine_flawed_last {idle : Bool} {y : RxByte} (h : y.flawed = true) (l : List RxByte) :
    examine idle (l ++ [y]) ≠ .unfinished := by
  cases l with
  | nil => simp [examine, h]
  | cons length more =>
    simp only [List.cons_append, examine]
    split
    · simp
    · split
      · simp
      · next sound =>
        split
        · next short =>
          have whole : (more ++ [y]).take (length.byte.toNat + 2) = more ++ [y] :=
            List.take_of_length_le (by rw [List.length_take] at short; omega)
          rw [whole] at sound
          simp [h] at sound
        · unfold judge
          simp only
          split <;> simp

/-- Once the line has been idle past the limit no candidate goes on (R147). -/
theorem examine_idle (l : List RxByte) : examine true l ≠ .unfinished := by
  cases l with
  | nil => simp [examine]
  | cons length more =>
    simp only [examine, judge, ↓reduceIte]
    repeat' split
    all_goals simp

/-- The scan of an idle line keeps nothing (R147, R148). -/
theorem scan_idle_kept : ∀ (l : List RxByte) (n : Nat), (scan true n l).kept = []
  | [], _ => by simp [scan]
  | _ :: rest, n + 1 => by rw [scan]; exact scan_idle_kept rest n
  | b :: rest, 0 => by
    rw [scan]
    split
    · split
      · next h => exact absurd h (examine_idle rest)
      · exact scan_idle_kept rest 0
      · exact scan_idle_kept rest _
    · exact scan_idle_kept rest 0

/-- The scan of bytes with a framing error at the end keeps nothing (R147, R148). -/
theorem scan_framingError_kept {y : RxByte} (h : y.framingError = true) :
    ∀ (l : List RxByte) (n : Nat), (scan false n (l ++ [y])).kept = []
  | [], 0 => by
    rw [List.nil_append, scan_dropped (by simp [RxByte.isSync, h])]
    simp [scan]
  | [], n + 1 => by simp [scan]
  | _ :: rest, n + 1 => by rw [List.cons_append, scan]; exact scan_framingError_kept h rest n
  | b :: rest, 0 => by
    rw [List.cons_append, scan]
    split
    · split
      · next going => exact absurd going (examine_flawed_last (by simp [RxByte.flawed, h]) rest)
      · exact scan_framingError_kept h rest 0
      · exact scan_framingError_kept h rest _
    · exact scan_framingError_kept h rest 0

/-! ### A whole host frame (10.1, R175) -/

section
variable (kind tag flags : Byte) (payload : List Byte)

/-- The length byte of a host frame tells its length (R175). -/
theorem lengthByte_toNat (h : payload.length ≤ 200) : (BitVec.ofNat 8 (payload.length + 3)).toNat = payload.length + 3 := by
  rw [BitVec.toNat_ofNat]
  exact Nat.mod_eq_of_lt (by omega)

/-- The bytes behind the sync byte of a host frame. -/
def frameBody : List Byte := frameCore kind tag flags payload ++ crcBytes (frameCore kind tag flags payload)

theorem hostFrame_eq : hostFrame kind tag flags payload = 0xC3#8 :: frameBody kind tag flags payload := rfl

theorem crcBytes_length (bytes : List Byte) : (crcBytes bytes).length = 2 := rfl

theorem frameBody_length : (frameBody kind tag flags payload).length = payload.length + 6 := by
  simp [frameBody, frameCore, byte, crcBytes_length]

/-- A host frame behind its sync byte is a good candidate (R145, R146). -/
theorem examine_frameBody (h : payload.length ≤ 200) (more : List RxByte) :
    examine false ((frameBody kind tag flags payload).map RxByte.clean ++ more) =
      .good (frameBody kind tag flags payload).length { kind := kind, tag := tag, flags := flags, payload := payload } := by
  have length := lengthByte_toNat payload h
  rw [frameBody_length]
  have shape : frameBody kind tag flags payload = BitVec.ofNat 8 (payload.length + 3) ::
      ([kind, tag, flags] ++ payload ++ crcBytes (frameCore kind tag flags payload)) := rfl
  have core : BitVec.ofNat 8 (payload.length + 3) :: ([kind, tag, flags] ++ payload) =
      frameCore kind tag flags payload := rfl
  rw [shape]
  generalize BitVec.ofNat 8 (payload.length + 3) = len at length core ⊢
  have three : ([kind, tag, flags] ++ payload).length = len.toNat := by simp [length]
  have body : (([kind, tag, flags] ++ payload ++ crcBytes (frameCore kind tag flags payload)).map RxByte.clean ++
      more).take (len.toNat + 2) =
      ([kind, tag, flags] ++ payload ++ crcBytes (frameCore kind tag flags payload)).map RxByte.clean := by
    rw [List.take_append_of_le_length (by simp [crcBytes_length, length]),
      List.take_of_length_le (by simp [crcBytes_length, length])]
  have sound : ∀ l : List Byte, (l.map RxByte.clean).any RxByte.flawed = false := fun l => by
    simp [RxByte.flawed, RxByte.clean]
  have bytes : ∀ l : List Byte, (l.map RxByte.clean).map (·.byte) = l := fun l => by
    simp [RxByte.clean, Function.comp_def]
  have first : (RxByte.clean len).byte = len := rfl
  have range : ((RxByte.clean len).flawed || decide (len.toNat < Config.minLength) ||
      decide (Config.maxLength < len.toNat)) = false := by
    simp [RxByte.flawed, RxByte.clean, Config.minLength, Config.maxLength, length]
    omega
  have long : ¬ (([kind, tag, flags] ++ payload ++ crcBytes (frameCore kind tag flags payload)).map
      RxByte.clean).length < len.toNat + 2 := by simp [crcBytes_length, length]
  simp only [List.map_cons, List.cons_append (as := List.map _ _), examine, first, body, sound, bytes, range,
    Bool.false_eq_true, if_false, long]
  simp only [judge]
  rw [← three, List.take_left, List.drop_left, core, if_pos rfl, three, length]
  rfl

/-- A HUNTING receiver takes a host frame before the bytes behind it (R145, R146). -/
theorem scan_hostFrame (h : payload.length ≤ 200) (gap : Bool) (more : List Byte) :
    scan false 0 ({ byte := 0xC3#8, gapBefore := gap, framingError := false } ::
        (frameBody kind tag flags payload ++ more).map RxByte.clean) =
      { scan false 0 (more.map RxByte.clean) with
        frames := { kind := kind, tag := tag, flags := flags, payload := payload } ::
          (scan false 0 (more.map RxByte.clean)).frames } := by
  have good := examine_frameBody kind tag flags payload h (more.map RxByte.clean)
  have skip := scan_skip false ((frameBody kind tag flags payload).map RxByte.clean) (more.map RxByte.clean)
  rw [List.length_map] at skip
  rw [List.map_append, scan, if_pos (by rfl), good]
  simp only [skip]

/-- A host frame and the bytes behind it arrive at a HUNTING receiver. -/
theorem HostPort.receive_hostFrame {p : HostPort} (hunting : p.receiver.kept = []) (h : payload.length ≤ 200)
    (more : List Byte) : p.receive false (hostFrame kind tag flags payload ++ more) =
      (p.place { kind := kind, tag := tag, flags := flags, payload := payload }).scanned
        (scan false 0 (more.map RxByte.clean)) false := by
  rw [HostPort.receive_eq, hunting, hostFrame_eq, List.cons_append, Receiver.record_cons, List.nil_append,
    scan_hostFrame kind tag flags payload h, HostPort.scanned_frame]
  simp

end

/-- Settles O27: a host frame is a good candidate, so it is placed, and the scan ends HUNTING. -/
theorem hostFrameRoundTrip : Obligations.HostFrameRoundTrip := by
  intro kind tag flags payload s short low hunting
  have run : exec (.receiveFrame (hostFrame kind tag flags payload)) s =
      .next { s with port := s.port.receive false (hostFrame kind tag flags payload) } := (whileReleased_of low :
      execReceiveFrame (hostFrame kind tag flags payload) s = _)
  have whole := HostPort.receive_hostFrame kind tag flags payload hunting short []
  rw [List.append_nil] at whole
  rw [run, whole]
  show Host.Outcome.next { s with port := { s.port.place _ with receiver := { kept := [], gapPassed := false } } } = _
  unfold HostPort.place
  simp only [Config.intake]
  split <;> rfl

end Sys2Proof.Machine
end

section

namespace Sys2Proof.Machine

/-! ## The receiver's commands (R145 to R149) -/

section
variable {s : State} (low : s.port.rstnLow = false)
include low

theorem exec_receiveFrame (bytes : List Byte) :
    exec (.receiveFrame bytes) s = .next { s with port := s.port.receive false bytes } :=
  (whileReleased_of low : execReceiveFrame bytes s = _)

theorem exec_syncByteReceived : exec .syncByteReceived s = .next { s with port := s.port.receive false [0xC3] } :=
  (whileReleased_of low : execSyncByteReceived s = _)

theorem exec_badLengthByte (b : Byte) : exec (.badLengthByte b) s = .next { s with port := s.port.receive false [b] } :=
  (whileReleased_of low : execBadLengthByte b s = _)

theorem exec_framingErrorByte (b : Byte) :
    exec (.framingErrorByte b) s = .next { s with port := s.port.receive true [b] } :=
  (whileReleased_of low : execFramingErrorByte b s = _)

theorem exec_gapLimitExpiry : exec .gapLimitExpiry s = .next { s with port := s.port.gapLimit } :=
  (whileReleased_of low : execGapLimitExpiry s = _)

end

/-! ### The oldest kept byte leaves (R148) -/

/-- The receiver keeps these bytes, and has heard what it has heard. -/
def HostPort.keeping (kept : List RxByte) (p : HostPort) : HostPort :=
  { p with receiver := { kept := kept, gapPassed := p.receiver.gapPassed } }

section
variable {p : HostPort} {x : RxByte} {after : List RxByte} (kept : p.receiver.kept = x :: after)
include kept

/-- A candidate that fails is counted, and the bytes behind its sync byte are taken again (R148). -/
theorem HostPort.receive_failed (sync : x.isSync = true) {err : Bool} {bytes : List Byte}
    (fails : candidateFails false (after ++ p.receiver.record err bytes)) :
    p.receive err bytes = (p.keeping after).countDiscard.receive err bytes := by
  rw [HostPort.receive_eq, kept, List.cons_append, scan_sync_failed sync ((examine_failed_iff ..).mpr fails),
    HostPort.scanned_failed]
  rfl

theorem HostPort.gapLimit_failed (sync : x.isSync = true) (fails : candidateFails true after) :
    p.gapLimit = (p.keeping after).countDiscard.gapLimit := by
  rw [HostPort.gapLimit_eq, kept, scan_sync_failed sync ((examine_failed_iff ..).mpr fails), HostPort.scanned_failed]
  rfl

/-- A byte that begins no candidate is dropped (R145). -/
theorem HostPort.receive_dropped (noSync : x.isSync = false) (err : Bool) (bytes : List Byte) :
    p.receive err bytes = (p.keeping after).receive err bytes := by
  rw [HostPort.receive_eq, kept, List.cons_append, scan_dropped noSync]
  rfl

theorem HostPort.gapLimit_dropped (noSync : x.isSync = false) : p.gapLimit = (p.keeping after).gapLimit := by
  rw [HostPort.gapLimit_eq, kept, scan_dropped noSync]
  rfl

end

/-! ### One byte in HUNTING, and behind a sync byte alone (R145, R147) -/

section
variable {p : HostPort} (hunting : p.receiver.kept = [])
include hunting

/-- The receiver in HUNTING with no gap passed, as each of its commands leaves it. -/
theorem HostPort.receive_hunting (err : Bool) (bytes : List Byte) :
    p.receive err bytes =
      p.scanned (scan false 0 (p.receiver.record err bytes)) (p.receiver.gapPassed && bytes.isEmpty) := by
  rw [HostPort.receive_eq, hunting, List.nil_append]

theorem HostPort.receive_sync : p.receive false [0xC3] = { p with receiver :=
    { kept := [{ byte := 0xC3, gapBefore := p.receiver.gapPassed, framingError := false }], gapPassed := false } } := by
  have begun : scan false 0 (p.receiver.record false [0xC3]) =
      { kept := [{ byte := 0xC3, gapBefore := p.receiver.gapPassed, framingError := false }], frames := [], failed := 0 } := by
    simp [Receiver.record, scan, RxByte.isSync, Config.syncByte, examine]
  rw [HostPort.receive_hunting hunting, begun]
  simp [HostPort.scanned, HostPort.settle]

theorem HostPort.gapLimit_hunting : p.gapLimit = { p with receiver := { kept := [], gapPassed := true } } := by
  rw [HostPort.gapLimit_eq, hunting]
  rfl

/-- A byte that begins no candidate is dropped before the bytes behind it (R145). -/
theorem HostPort.receive_noSync {b : Byte} {err : Bool} (noSync : err = true ∨ b ≠ 0xC3) (bytes : List Byte) :
    p.receive err (b :: bytes) =
      { p with receiver := { kept := [], gapPassed := false } }.receive err bytes := by
  have tail : { p with receiver := { kept := [], gapPassed := false } }.receiver.record err bytes =
      bytes.map (fun c => { byte := c, gapBefore := false, framingError := err }) := by
    cases bytes <;> rfl
  rw [HostPort.receive_hunting hunting, HostPort.receive_hunting rfl, tail, Receiver.record, scan_dropped]
  · simp [HostPort.scanned]
  · obtain rfl | other := noSync
    · simp [RxByte.isSync]
    · simpa [RxByte.isSync, Config.syncByte] using fun same => absurd same other

theorem HostPort.receive_nothing : p.receive false [] = { p with receiver :=
    { kept := [], gapPassed := p.receiver.gapPassed } } := by
  rw [HostPort.receive_hunting hunting]
  simp [Receiver.record, scan, HostPort.scanned, HostPort.settle]

/-- A byte with a framing error is dropped (R147). -/
theorem HostPort.receive_framingError (b : Byte) :
    p.receive true [b] = { p with receiver := { kept := [], gapPassed := false } } := by
  rw [HostPort.receive_noSync hunting (.inl rfl) [], HostPort.receive_hunting rfl]
  rfl

/-- A byte that is no sync byte is dropped (R145). -/
theorem HostPort.receive_other {b : Byte} (other : b ≠ 0xC3) :
    p.receive false [b] = { p with receiver := { kept := [], gapPassed := false } } := by
  rw [HostPort.receive_noSync hunting (.inr other) [], HostPort.receive_nothing rfl]

/-- A whole candidate whose CRC differs fails (R146). -/
theorem HostPort.receive_badCrc {length : Byte} {body more : List Byte} (whole : body.length = length.toNat + 2)
    (crc : crcBytes (length :: body.take length.toNat) ≠ body.drop length.toNat) :
    p.receive false (0xC3 :: length :: body ++ more) =
      { p with receiver := { kept := [], gapPassed := false } }.countDiscard.receive false (length :: body ++ more) := by
  have first : (body.map RxByte.clean ++ more.map RxByte.clean).take (length.toNat + 2) = body.map RxByte.clean := by
    rw [List.take_append_of_le_length (by simp [whole]), List.take_of_length_le (by simp [whole])]
  have bytes : ∀ l : List Byte, (l.map RxByte.clean).map (·.byte) = l := fun l => by
    simp [RxByte.clean, Function.comp_def]
  have fails : candidateFails false ((length :: body ++ more).map RxByte.clean) := by
    refine .inr ⟨.clean length, (body ++ more).map RxByte.clean, body.map RxByte.clean, rfl, ?_, ?_⟩
    · rw [List.map_append]
      exact first.symm
    · refine .inr (.inr (.inr (.inr (.inr ⟨by simp [whole, RxByte.clean], ?_⟩))))
      rw [← List.map_take, ← List.map_drop, bytes, bytes]
      exact crc
  have start : (0xC3 :: length :: body ++ more : List Byte) = 0xC3 :: (length :: body ++ more) := rfl
  rw [HostPort.receive_hunting hunting, HostPort.receive_hunting rfl, start, Receiver.record_cons,
    Receiver.record_inTime rfl, scan_sync_failed rfl ((examine_failed_iff ..).mpr fails), HostPort.scanned_failed]
  simp [HostPort.scanned, HostPort.countDiscard]

end

section
variable {p : HostPort} {x : RxByte} (kept : p.receiver.kept = [x]) (sync : x.isSync = true)
include kept sync

/-- Behind a sync byte alone, a byte that cannot be its length fails the candidate (R145, R147). -/
theorem HostPort.receive_noLength {b : Byte} {err : Bool} (bad : err = true ∨ b.toNat < 3 ∨ 203 < b.toNat) :
    p.receive err [b] = { p with receiver := { kept := [], gapPassed := false } }.countDiscard := by
  have fails : candidateFails false ([] ++ p.receiver.record err [b]) := by
    refine .inr ⟨_, _, _, rfl, rfl, ?_⟩
    obtain rfl | short | long := bad
    · exact .inl (by simp [RxByte.flawed])
    · exact .inr (.inl short)
    · exact .inr (.inr (.inl long))
  rw [HostPort.receive_failed kept sync fails]
  obtain rfl | range := bad
  · rw [HostPort.receive_framingError rfl]
    rfl
  · have other : b ≠ 0xC3 := by
      rintro rfl
      obtain range | range := range <;> exact absurd range (by decide)
    cases err
    · rw [HostPort.receive_other rfl other]
      rfl
    · rw [HostPort.receive_framingError rfl]
      rfl

theorem HostPort.gapLimit_sync :
    p.gapLimit = { p with receiver := { kept := [], gapPassed := true } }.countDiscard := by
  rw [HostPort.gapLimit_failed kept sync (.inl ⟨rfl, rfl⟩), HostPort.gapLimit_hunting rfl]
  rfl

end

/-! ### The statement -/

/-- The commands of the receiver in HUNTING, one byte each. -/
theorem exec_hunting {s : State} (low : s.port.rstnLow = false) (hunting : s.port.receiver.kept = []) (b : Byte) :
    exec .syncByteReceived s = .next (s.atReceiver
      [{ byte := 0xC3, gapBefore := s.port.receiver.gapPassed, framingError := false }] false s.port.discarded) ∧
    exec (.framingErrorByte b) s = .next (s.atReceiver [] false s.port.discarded) ∧
    exec .gapLimitExpiry s = .next (s.atReceiver [] true s.port.discarded) ∧
    (b ≠ 0xC3 → exec (.receiveFrame [b]) s = .next (s.atReceiver [] false s.port.discarded)) := by
  refine ⟨?_, ?_, ?_, fun other => ?_⟩
  · rw [exec_syncByteReceived low, HostPort.receive_sync hunting]
    rfl
  · rw [exec_framingErrorByte low, HostPort.receive_framingError hunting]
    rfl
  · rw [exec_gapLimitExpiry low, HostPort.gapLimit_hunting hunting]
    rfl
  · rw [exec_receiveFrame low, HostPort.receive_other hunting other]
    rfl

/-- The commands that fail the candidate of a sync byte alone. -/
theorem exec_behindSync {s : State} (low : s.port.rstnLow = false) {x : RxByte} (kept : s.port.receiver.kept = [x])
    (sync : x.isSync = true) (b : Byte) :
    exec .gapLimitExpiry s = .next (s.atReceiver [] true (satSucc 255 s.port.discarded)) ∧
    exec (.framingErrorByte b) s = .next (s.atReceiver [] false (satSucc 255 s.port.discarded)) ∧
    ((b.toNat < 3 ∨ 203 < b.toNat) →
      exec (.badLengthByte b) s = .next (s.atReceiver [] false (satSucc 255 s.port.discarded))) := by
  refine ⟨?_, ?_, fun bad => ?_⟩
  · rw [exec_gapLimitExpiry low, HostPort.gapLimit_sync kept sync]
    rfl
  · rw [exec_framingErrorByte low, HostPort.receive_noLength kept sync (.inl rfl)]
    rfl
  · rw [exec_badLengthByte low, HostPort.receive_noLength kept sync (.inr bad)]
    rfl

/-- The rescan: the commands act as on the state that has the oldest kept byte behind it (R148). -/
theorem exec_rescan {s : State} (low : s.port.rstnLow = false) {x : RxByte} {after : List RxByte}
    (kept : s.port.receiver.kept = x :: after) (b : Byte) :
    (x.isSync = true →
      (∀ bytes, candidateFails false (after ++ s.port.receiver.record false bytes) →
        exec (.receiveFrame bytes) s =
          exec (.receiveFrame bytes) (s.atReceiver after s.port.receiver.gapPassed (satSucc 255 s.port.discarded))) ∧
      (candidateFails false (after ++ s.port.receiver.record true [b]) →
        exec (.framingErrorByte b) s =
          exec (.framingErrorByte b) (s.atReceiver after s.port.receiver.gapPassed (satSucc 255 s.port.discarded))) ∧
      (candidateFails true after → exec .gapLimitExpiry s =
        exec .gapLimitExpiry (s.atReceiver after s.port.receiver.gapPassed (satSucc 255 s.port.discarded)))) ∧
    (x.isSync = false →
      (∀ bytes, exec (.receiveFrame bytes) s =
        exec (.receiveFrame bytes) (s.atReceiver after s.port.receiver.gapPassed s.port.discarded)) ∧
      exec (.framingErrorByte b) s =
        exec (.framingErrorByte b) (s.atReceiver after s.port.receiver.gapPassed s.port.discarded) ∧
      exec .gapLimitExpiry s =
        exec .gapLimitExpiry (s.atReceiver after s.port.receiver.gapPassed s.port.discarded)) := by
  have low' : ∀ d, (s.atReceiver after s.port.receiver.gapPassed d).port.rstnLow = false := fun _ => low
  refine ⟨fun sync => ⟨fun bytes fails => ?_, fun fails => ?_, fun fails => ?_⟩,
    fun noSync => ⟨fun bytes => ?_, ?_, ?_⟩⟩
  · rw [exec_receiveFrame low, exec_receiveFrame (low' _), HostPort.receive_failed kept sync fails]
    rfl
  · rw [exec_framingErrorByte low, exec_framingErrorByte (low' _), HostPort.receive_failed kept sync fails]
    rfl
  · rw [exec_gapLimitExpiry low, exec_gapLimitExpiry (low' _), HostPort.gapLimit_failed kept sync fails]
    rfl
  · rw [exec_receiveFrame low, exec_receiveFrame (low' _), HostPort.receive_dropped kept noSync]
    rfl
  · rw [exec_framingErrorByte low, exec_framingErrorByte (low' _), HostPort.receive_dropped kept noSync]
    rfl
  · rw [exec_gapLimitExpiry low, exec_gapLimitExpiry (low' _), HostPort.gapLimit_dropped kept noSync]
    rfl

/-- Bytes that arrive in HUNTING: a CRC that differs, a byte that begins no candidate, a good frame (R145, R146). -/
theorem exec_arriving {s : State} (low : s.port.rstnLow = false) (hunting : s.port.receiver.kept = []) (b : Byte) :
    (∀ length body more, 3 ≤ length.toNat → length.toNat ≤ 203 → body.length = length.toNat + 2 →
      crcBytes (length :: body.take length.toNat) ≠ body.drop length.toNat →
      exec (.receiveFrame (0xC3 :: length :: body ++ more)) s =
        exec (.receiveFrame (length :: body ++ more)) (s.atReceiver [] false (satSucc 255 s.port.discarded))) ∧
    (∀ bytes, b ≠ 0xC3 →
      exec (.receiveFrame (b :: bytes)) s = exec (.receiveFrame bytes) (s.atReceiver [] false s.port.discarded)) ∧
    ∀ kind tag flags payload more, payload.length ≤ 200 →
      ∃ t, exec (.receiveFrame (hostFrame kind tag flags payload)) s = .next t ∧
        exec (.receiveFrame (hostFrame kind tag flags payload ++ more)) s = exec (.receiveFrame more) t := by
  have low' : ∀ d, (s.atReceiver [] false d).port.rstnLow = false := fun _ => low
  refine ⟨fun length body more _ _ whole crc => ?_, fun bytes other => ?_,
    fun kind tag flags payload more short => ⟨_, exec_receiveFrame low _, ?_⟩⟩
  · rw [exec_receiveFrame low, exec_receiveFrame (low' _), HostPort.receive_badCrc hunting whole crc]
    rfl
  · rw [exec_receiveFrame low, exec_receiveFrame (low' _), HostPort.receive_noSync hunting (.inr other)]
    rfl
  · have alone := HostPort.receive_hostFrame kind tag flags payload hunting short []
    have placed : ∀ q : HostPort, q.scanned (scan false 0 []) false =
        { q with receiver := { kept := [], gapPassed := false } } := fun _ => by
      simp [scan, HostPort.scanned, HostPort.settle]
    rw [List.append_nil, List.map_nil, placed] at alone
    have released : (s.port.place { kind := kind, tag := tag, flags := flags, payload := payload }).rstnLow = false := by
      unfold HostPort.place
      split <;> exact low
    rw [exec_receiveFrame low, HostPort.receive_hostFrame kind tag flags payload hunting short, alone,
      exec_receiveFrame (by exact released), HostPort.receive_hunting rfl, Receiver.record_inTime rfl]
    rfl

/-- Settles O28: the scan takes the bytes one after another, so each clause is one step of it. -/
theorem receiverTakesSingleBytes : Obligations.ReceiverTakesSingleBytes := by
  intro s b low
  refine ⟨fun hunting => exec_hunting low hunting b,
    fun x kept byte stop => exec_behindSync low kept (RxByte.isSync_iff.mpr ⟨byte, stop⟩) b, rfl, rfl, ?_,
    fun hunting => exec_arriving low hunting b, ⟨_, exec_gapLimitExpiry low, ?_⟩, ⟨_, exec_framingErrorByte low b, ?_⟩⟩
  · rintro x after kept again dropped rfl rfl
    obtain ⟨failed, skipped⟩ := exec_rescan low kept b
    exact ⟨fun byte stop => failed (RxByte.isSync_iff.mpr ⟨byte, stop⟩),
      fun other => skipped (by rwa [← Bool.not_eq_true, RxByte.isSync_iff])⟩
  · show (HostPort.settle _ _).receiver = _
    rw [HostPort.settle_receiver, scan_idle_kept]
  · show (HostPort.settle _ _).receiver = _
    rw [HostPort.settle_receiver]
    show Receiver.mk (scan false 0 (s.port.receiver.kept ++ [_])).kept _ = _
    rw [scan_framingError_kept rfl, List.isEmpty_cons, Bool.and_false]

end Sys2Proof.Machine
end

section

namespace Sys2Proof.Machine

/-! ## The bounds of the port's tables (R146, R149, R150, R153, R154) -/

/-- `PortBounded` over the port alone, its parts by name. -/
structure HostPort.Bounded (p : HostPort) : Prop where
  intake : p.intake.length ≤ 4
  discarded : p.discarded ≤ 255
  room : p.table.length ≤ 8
  differ : p.tagsDiffer
  immediate : p.immediate ≤ 4
  once : p.deferredTags.Nodup
  marked : ∀ e ∈ p.table, (e.replied = true ↔ e.tag ∈ p.deferredTags)
  known : ∀ t ∈ p.deferredTags, t ∈ p.table.map (·.tag)

theorem portBounded_iff {s : State} : PortBounded s ↔ s.port.Bounded :=
  ⟨fun ⟨intake, discarded, room, differ, immediate, once, marked, known⟩ =>
    ⟨intake, discarded, room, differ, immediate, once, marked, known⟩,
   fun ⟨intake, discarded, room, differ, immediate, once, marked, known⟩ =>
    ⟨intake, discarded, room, differ, immediate, once, marked, known⟩⟩

theorem HostPort.deferredTags_append {p q : HostPort} {r : Reply} (h : q.replies = p.replies ++ [r]) :
    q.deferredTags = p.deferredTags ++ if r.deferred then [r.tag] else [] := by
  cases hr : r.deferred <;> simp [HostPort.deferredTags, h, hr]

theorem HostPort.immediate_append {p q : HostPort} {r : Reply} (h : q.replies = p.replies ++ [r]) :
    q.immediate = p.immediate + if r.deferred then 0 else 1 := by
  cases hr : r.deferred <;> simp [HostPort.immediate, h, hr]

namespace HostPort.Bounded

variable {p : HostPort} (h : p.Bounded)
include h

/-- The parts that the bounds speak of; the receiver, the transmitter and the pins are free. -/
theorem congr {q : HostPort} (intake : q.intake.length ≤ 4) (discarded : q.discarded ≤ 255) (table : q.table = p.table)
    (replies : q.replies = p.replies) : q.Bounded := by
  have tags : q.deferredTags = p.deferredTags := by rw [HostPort.deferredTags, replies, HostPort.deferredTags]
  have count : q.immediate = p.immediate := by rw [HostPort.immediate, replies, HostPort.immediate]
  exact ⟨intake, discarded, table ▸ h.room, by simpa [HostPort.tagsDiffer, table] using h.differ, count ▸ h.immediate,
    tags ▸ h.once, by simpa [table, tags] using h.marked, by simpa [table, tags] using h.known⟩

/-- A request that waits has no deferred reply yet (R153). -/
theorem waits_fresh {tag : Byte} {e : Outstanding} (found : p.table.find? (·.waits tag) = some e) :
    e ∈ p.table ∧ e.tag = tag ∧ tag ∉ p.deferredTags := by
  have waits : e.waits tag = true := by simpa using List.find?_some found
  have mem := List.mem_of_find?_eq_some found
  simp only [Outstanding.waits, Bool.and_eq_true, beq_iff_eq, Bool.not_eq_true'] at waits
  obtain ⟨rfl, unanswered⟩ := waits
  exact ⟨mem, rfl, fun queued => by simp [(h.marked e mem).mpr queued] at unanswered⟩

theorem answer (tag : Byte) (st : Status) (b : ReplyBody) : (p.answer tag st b).Bounded := by
  cases found : p.table.find? (·.waits tag) with
  | none => rwa [HostPort.answer_none st b found]
  | some e =>
    obtain ⟨mem, named, fresh⟩ := h.waits_fresh found
    rw [HostPort.answer_waiting st b found]
    have tags := HostPort.deferredTags_append (p := p) (q := { p with
      table := p.table.map (Outstanding.mark tag)
      replies := p.replies ++ [deferredReply e.kind tag st b] }) rfl
    have count := HostPort.immediate_append (p := p) (q := { p with
      table := p.table.map (Outstanding.mark tag)
      replies := p.replies ++ [deferredReply e.kind tag st b] }) rfl
    simp only [deferredReply, if_true] at tags count
    refine ⟨h.intake, h.discarded, by simpa using h.room, ?_, count ▸ h.immediate, ?_, ?_, ?_⟩
    · simpa [HostPort.tagsDiffer, Function.comp_def] using h.differ
    · rw [tags]
      exact List.nodup_append.mpr ⟨h.once, by simp, by simpa using fun t ht (same : t = tag) => fresh (same ▸ ht)⟩
    · rw [tags]
      simp only [List.mem_map, forall_exists_index, and_imp, forall_apply_eq_imp_iff₂]
      intro o ho
      simp [Outstanding.mark_replied, h.marked o ho]
    · rw [tags]
      intro t ht
      have old : t ∈ p.table.map (·.tag) := by
        obtain ht | rfl : t ∈ p.deferredTags ∨ t = tag := by simpa using ht
        · exact h.known t ht
        · exact List.mem_map.mpr ⟨e, mem, named⟩
      simpa [Function.comp_def] using old

theorem setPhase (tag : Byte) (ph : Phase) : (p.setPhase tag ph).Bounded := by
  have same : ∀ o : Outstanding, (if o.tag = tag then { o with phase := ph } else o).tag = o.tag ∧
      (if o.tag = tag then { o with phase := ph } else o).replied = o.replied := fun o => by split <;> exact ⟨rfl, rfl⟩
  refine ⟨h.intake, h.discarded, by simpa [HostPort.setPhase] using h.room,
    (HostPort.tagsDiffer_setPhase ..).mpr h.differ, h.immediate, h.once, ?_, ?_⟩
  · simp only [HostPort.setPhase, List.mem_map, forall_exists_index, and_imp, forall_apply_eq_imp_iff₂, same]
    exact h.marked
  · have tags : (p.setPhase tag ph).table.map (·.tag) = p.table.map (·.tag) := by
      simp [HostPort.setPhase, Function.comp_def, same]
    rw [tags]
    exact h.known

/-- An immediate reply is queued while fewer than 4 are (R150). -/
theorem replyNow (room : p.immediate < 4) (kind tag : Byte) (st : Status) (b : ReplyBody) :
    (p.replyNow kind tag st b).Bounded := by
  have tags := HostPort.deferredTags_append (p := p) (q := p.replyNow kind tag st b) rfl
  have count := HostPort.immediate_append (p := p) (q := p.replyNow kind tag st b) rfl
  simp only [Bool.false_eq_true, if_false, List.append_nil] at tags count
  exact ⟨h.intake, h.discarded, h.room, h.differ, by omega, tags ▸ h.once, tags ▸ h.marked, tags ▸ h.known⟩

/-- A request with a new tag enters a table with room (R151, R152). -/
theorem enter {e : Outstanding} (fresh : e.tag ∉ p.table.map (·.tag)) (room : p.table.length < 8)
    (unanswered : e.replied = false) : (p.enter e).Bounded := by
  have table : (p.enter e).table = p.table ++ [e] := rfl
  refine ⟨h.intake, h.discarded, by simp; omega, ?_, h.immediate, h.once, ?_, ?_⟩
  · rw [HostPort.tagsDiffer, table, List.map_append]
    exact List.nodup_append.mpr ⟨h.differ, by simp, by
      simpa using fun o ho (same : o.tag = e.tag) => fresh (List.mem_map.mpr ⟨o, ho, same⟩)⟩
  · rw [table]
    intro o ho
    obtain ho | rfl : o ∈ p.table ∨ o = e := by simpa using ho
    · exact h.marked o ho
    · exact iff_of_false (by simp [unanswered]) fun queued => fresh (h.known _ queued)
  · intro t ht
    rw [table, List.map_append]
    exact List.mem_append_left _ (h.known t ht)

theorem popIntake : ({ p with intake := p.intake.tail } : HostPort).Bounded :=
  h.congr (by have := h.intake; simp only [List.length_tail]; omega) h.discarded rfl rfl

theorem countDiscard : p.countDiscard.Bounded :=
  h.congr h.intake (by simp only [HostPort.countDiscard, satSucc, Config.byteCount]; split <;> omega) rfl rfl

theorem place (f : ReqFrame) : (p.place f).Bounded := by
  unfold HostPort.place
  split
  · next room => exact h.congr (by simpa using room) h.discarded rfl rfl
  · exact h.countDiscard

/-- What the receiver finds keeps the bounds (R146, R149). -/
theorem scanned (r : Scan) (gap : Bool) : (p.scanned r gap).Bounded := by
  have set : ({ p with receiver := { kept := r.kept, gapPassed := gap } } : HostPort).Bounded :=
    h.congr h.intake h.discarded rfl rfl
  exact foldl_keeps (P := HostPort.Bounded) (fun _ _ hq => hq.countDiscard) _ _
    (foldl_keeps (P := HostPort.Bounded) (fun _ f hq => hq.place f) _ _ set)

/-- A deferred reply that has been sent takes its request out of the table (R153, R154). -/
theorem replySent : p.replySent.Bounded := by
  unfold HostPort.replySent
  cases queue : p.replies with
  | nil => exact h
  | cons r rest =>
    have tags : p.deferredTags = (if r.deferred then [r.tag] else []) ++ (rest.filter (·.deferred)).map (·.tag) := by
      cases hr : r.deferred <;> simp [HostPort.deferredTags, queue, hr]
    have count : rest.countP (fun r => !r.deferred) ≤ p.immediate := by
      rw [HostPort.immediate, queue, List.countP_cons]
      omega
    have once := h.once
    have marked := h.marked
    have known := h.known
    rw [tags] at once marked known
    cases hr : r.deferred with
    | false =>
      simp only [hr, Bool.false_eq_true, if_false, List.nil_append] at once marked known ⊢
      exact ⟨h.intake, h.discarded, h.room, h.differ, count.trans h.immediate, once, marked, known⟩
    | true =>
      simp only [hr, if_true, List.singleton_append, List.nodup_cons] at once marked known ⊢
      obtain ⟨gone, once⟩ := once
      refine ⟨h.intake, h.discarded, (List.length_filter_le ..).trans h.room, ?_, count.trans h.immediate, once, ?_, ?_⟩
      · exact h.differ.sublist (List.filter_sublist.map _)
      · intro e he
        obtain ⟨mem, other⟩ := List.mem_filter.mp he
        have other : e.tag ≠ r.tag := by simpa using other
        exact (marked e mem).trans (by simp [HostPort.deferredTags, other])
      · intro t ht
        have ht : t ∈ (rest.filter (·.deferred)).map (·.tag) := ht
        obtain ⟨e, mem, rfl⟩ := List.mem_map.mp (known t (List.mem_cons_of_mem _ ht))
        have other : e.tag ≠ r.tag := fun same => gone (same ▸ ht)
        exact List.mem_map.mpr ⟨e, List.mem_filter.mpr ⟨mem, by simpa using other⟩, rfl⟩

end HostPort.Bounded

/-- A port that has lost its requests and replies (R162, R161). -/
theorem HostPort.Bounded.of_empty {p : HostPort} (intake : p.intake = []) (table : p.table = []) (replies : p.replies = [])
    (discarded : p.discarded ≤ 255) : p.Bounded := by
  constructor <;> simp [HostPort.tagsDiffer, HostPort.immediate, HostPort.deferredTags, intake, table, replies, discarded]

/-! ## Answers and phases are all that the blocks do to the port (R153) -/

/-- From p the answers and phases of the blocks lead to q: no request enters or leaves the table. -/
inductive HostPort.Answers (p : HostPort) : HostPort → Prop
  | refl : p.Answers p
  | answer {q : HostPort} (h : p.Answers q) (tag : Byte) (st : Status) (b : ReplyBody) : p.Answers (q.answer tag st b)
  | phase {q : HostPort} (h : p.Answers q) (tag : Byte) (ph : Phase) : p.Answers (q.setPhase tag ph)

namespace HostPort.Answers

variable {p q r : HostPort}

theorem trans (h : p.Answers q) (k : q.Answers r) : p.Answers r := by
  induction k with
  | refl => exact h
  | answer _ tag st b ih => exact ih.answer tag st b
  | phase _ tag ph ih => exact ih.phase tag ph

theorem of_eq (h : q = p) : p.Answers q := h ▸ .refl

theorem bounded (h : p.Answers q) (hp : p.Bounded) : q.Bounded := by
  induction h with
  | refl => exact hp
  | answer _ tag st b ih => exact ih.answer tag st b
  | phase _ tag ph ih => exact ih.setPhase tag ph

/-- What answers and phases leave: the pins, the restart, the tags of the table, the immediate replies. -/
theorem kept (h : p.Answers q) : q.rstnLow = p.rstnLow ∧ q.restarting = p.restarting ∧
    q.table.map (·.tag) = p.table.map (·.tag) ∧ q.immediate = p.immediate := by
  induction h with
  | refl => exact ⟨rfl, rfl, rfl, rfl⟩
  | @answer q _ tag st b ih =>
    obtain ⟨low, going, tags, count⟩ := ih
    refine ⟨by simp [low], by simp [going], by simp [tags], ?_⟩
    rw [← count]
    unfold HostPort.answer
    split
    · rfl
    · exact HostPort.immediate_append (r := { kind := _, tag := tag, status := st, body := b, deferred := true }) rfl
  | @phase q _ tag ph ih =>
    obtain ⟨low, going, tags, count⟩ := ih
    refine ⟨low, going, ?_, count⟩
    rw [← tags]
    simp only [HostPort.setPhase, List.map_map]
    congr 1
    funext o
    simp only [Function.comp]
    split <;> rfl

end HostPort.Answers

/-- Between s and t the blocks have done nothing to the port but answer and set phases. -/
def State.Answers (s t : State) : Prop := s.port.Answers t.port

namespace State.Answers

variable {s t u : State}

theorem same (h : t.port = s.port := by rfl) : s.Answers t := HostPort.Answers.of_eq h

theorem refl (s : State) : s.Answers s := .same

theorem trans (h : s.Answers t) (k : t.Answers u) : s.Answers u := HostPort.Answers.trans h k

theorem foldl {α : Type} {f : State → α → State} (h : ∀ (s : State) x, s.Answers (f s x)) (l : List α) (s : State) :
    s.Answers (l.foldl f s) :=
  foldl_keeps (P := s.Answers) (fun b x hb => hb.trans (h b x)) l s (.refl s)

end State.Answers

section
variable (s : State)

theorem State.answer_answering (tag : Byte) (st : Status) (b : ReplyBody) : s.Answers (s.answer tag st b) :=
  .answer .refl tag st b

theorem State.setPhase_answering (tag : Byte) (ph : Phase) : s.Answers (s.setPhase tag ph) := .phase .refl tag ph

theorem State.answerKind_answering (k : ReqKind) (t : Option Nat) (st : Status) (b : ReplyBody) :
    s.Answers (s.answerKind k t st b) := by
  unfold State.answerKind
  split
  · exact .refl s
  · exact s.answer_answering ..

theorem State.failCall_answering (e : Entry) (st : Status) : s.Answers (s.failCall e st) := by
  unfold State.failCall
  split
  · exact s.answer_answering ..
  · exact .refl s

theorem State.endOperation_answering (a : Nat) (st : Status) (b : ReplyBody) : s.Answers (s.endOperation a st b) := by
  unfold State.endOperation
  split
  · exact .refl s
  · exact State.answer_answering ..

theorem State.endHostTrim_answering (a : Nat) (st : Status) (b : ReplyBody) : s.Answers (s.endHostTrim a st b) := by
  unfold State.endHostTrim
  split
  · exact State.answerKind_answering (s.onStation a _) ..
  · exact .refl s

theorem State.disposeWork_answering (a : Nat) (st : Status) : s.Answers (s.disposeWork a st) := by
  have port := s.disposeWork_port a st
  have failed : (s.endHostTrim a st .short).Answers ((s.endHostTrim a st .short).failCalls (s.workEntries a) st) :=
    .foldl (fun t e => t.failCall_answering e st) _ _
  exact ((s.endHostTrim_answering a st .short).trans failed).trans (.same port)

theorem State.enterAbsent_answering (a : Nat) (reason : Reason) (o w : Status) : s.Answers (s.enterAbsent a reason o w) := by
  have moved : s.Answers (s.moveStation a .absent reason) := .same (by simp)
  have ended : s.Answers (s.operationEnded a .absent reason o) := moved.trans (State.endOperation_answering ..)
  rw [State.enterAbsent_eq]
  exact (ended.trans (.same (by simp))).trans (State.disposeWork_answering ..)

theorem State.enterFaulted_answering (a : Nat) (reason : Reason) (o w : Status) :
    s.Answers (s.enterFaulted a reason o w) := by
  have moved : s.Answers (s.moveStation a .faulted reason) := .same (by simp)
  exact (moved.trans (State.endOperation_answering ..)).trans (State.disposeWork_answering ..)

theorem State.missLimit_answering (a : Nat) (origin : StationState) : s.Answers (s.missLimit a origin) := by
  unfold State.missLimit
  repeat' split
  · exact s.enterAbsent_answering ..
  · exact s.enterFaulted_answering ..
  · exact s.enterFaulted_answering ..
  all_goals exact .refl s

/-! ### The exchanges of the command pairs (chapter 6) -/

theorem callEnds_answering (e : Entry) (r : Ending) : s.Answers (callEnds e r s) := by
  unfold callEnds
  repeat' split
  all_goals exact s.answer_answering ..

theorem enrollFails_answering (a : Nat) (st : Status) : s.Answers (enrollFails a st s) := by
  unfold enrollFails
  split
  · exact s.enterAbsent_answering ..
  · exact .refl s

theorem enrollNext_answering (e : Entry) (step : EnrollStep) (n : Nat) : s.Answers (enrollNext e step n s) :=
  (State.Answers.same (by simp)).trans (State.setPhase_answering ..)

theorem enrollCompletes_answering (a : Nat) : s.Answers (enrollCompletes a s) := by
  have moved : s.Answers (s.moveStation a .active .enrolled) := .same (by simp)
  have ended : ∀ b, s.Answers ((s.moveStation a .active .enrolled).endOperation a .ok b) :=
    fun _ => moved.trans (State.endOperation_answering ..)
  exact ended _

theorem enrollDone_answering (e : Entry) (m n : Nat) : s.Answers (enrollDone e m n s) := by
  have next : ∀ (f : Station → Station) step n, s.Answers (enrollNext e step n (s.onStation e.station f)) :=
    fun _ _ _ => (State.Answers.same (by simp)).trans (enrollNext_answering ..)
  simp only [enrollDone]
  split
  case h_1 => exact .refl s
  case h_2 => exact enrollNext_answering ..
  all_goals split
  case h_6.isTrue => exact (State.Answers.same (by simp)).trans (enrollCompletes_answering ..)
  case h_3.isTrue | h_4.isTrue | h_5.isTrue => exact next ..
  all_goals exact enrollFails_answering ..

theorem enrollEnds_answering (e : Entry) (r : Ending) : s.Answers (enrollEnds e r s) := by
  unfold enrollEnds
  repeat' split
  · exact enrollDone_answering ..
  iterate 4 exact enrollFails_answering ..
  · exact .refl s

theorem drowseEnds_answering (e : Entry) (r : Ending) : s.Answers (drowseEnds e r s) := by
  simp only [drowseEnds]
  split
  · split
    · exact ((State.Answers.same (by simp)).trans (State.endOperation_answering ..)).trans (State.endHostTrim_answering ..)
    · exact .refl s
  all_goals exact s.endOperation_answering ..

theorem probeEnds_answering (e : Entry) (r : Ending) : s.Answers (probeEnds e r s) := by
  simp only [probeEnds]
  repeat' split
  · exact (State.Answers.same (by simp)).trans (State.endOperation_answering ..)
  iterate 5 exact s.enterFaulted_answering ..
  · exact .refl s

theorem handOff_answering (e : Entry) (r : Ending) : s.Answers (handOff e r s) := by
  unfold handOff
  split
  · exact callEnds_answering ..
  · exact enrollEnds_answering ..
  · exact drowseEnds_answering ..
  · exact probeEnds_answering ..

theorem attemptMiss_answering (j slot : Nat) (x : Exchange) : s.Answers (attemptMiss j slot x s) := by
  rw [attemptMiss_eq rfl]
  have attempt : s.Answers (if x.attempt < 3 then
      (s.reportMiss x.entry.station).setExchange j
        (some { x with attempt := x.attempt + 1, framesLeft := s.engine.setup.window, sendDue := true })
      else handOff x.entry .noReply (lastMissed j x.entry.station slot s)) := by
    split
    · exact .same (by simp)
    · exact (State.Answers.same (by simp [lastMissed])).trans (handOff_answering ..)
  split
  · exact attempt.trans (State.missLimit_answering ..)
  · exact attempt

theorem exchangeReply_answering (j : Nat) (x : Exchange) (r : Ending) : s.Answers (exchangeReply j x r s) :=
  (State.Answers.same (by simp)).trans (handOff_answering ..)

theorem exchangeWait_answering (j : Nat) (x : Exchange) : s.Answers (exchangeWait j x s) := by
  simp only [exchangeWait]
  split
  · exact .same (by simp)
  · exact (State.Answers.same (by simp)).trans (handOff_answering ..)

theorem exchangeSilent_answering (j slot : Nat) (x : Exchange) : s.Answers (exchangeSilent j slot x s) := by
  simp only [exchangeSilent]
  split
  · exact .same (by simp)
  · exact attemptMiss_answering ..

theorem commandAnswer_answering (j slot : Nat) (x : Exchange) (c : UpClass) : s.Answers (commandAnswer j slot x c s) := by
  unfold commandAnswer
  split
  · exact exchangeSilent_answering ..
  · exact (State.Answers.same (by simp)).trans (attemptMiss_answering ..)
  · exact (State.Answers.same (by simp)).trans (attemptMiss_answering ..)
  iterate 3 exact exchangeReply_answering ..
  · exact exchangeWait_answering ..
  · exact .refl s

theorem grantPair_answering (j : Nat) : s.Answers (grantPair s j) := by
  simp only [grantPair]
  repeat' split
  · exact .refl s
  · exact State.setPhase_answering ..
  · exact .refl s

theorem grantCommands_answering : s.Answers (grantCommands s) := .foldl grantPair_answering _ _

theorem stopPair_answering (j : Nat) : s.Answers (stopPair s j) := by
  unfold stopPair
  split
  · exact .refl s
  · exact (State.Answers.same (by simp)).trans (State.failCall_answering ..)

theorem callUnitStop_answering : s.Answers (callUnitStop s) :=
  (State.Answers.foldl (fun t e => t.failCall_answering e .aborted) _ (s.dequeue _)).trans (.foldl stopPair_answering _ _)

/-! ### The trims (chapter 5) -/

theorem quietSpanEnds_answering (a : Nat) : s.Answers (quietSpanEnds a s) :=
  have moved : s.Answers (s.moveStation a .active .trimEnd) := .same (by simp)
  moved.trans (State.endHostTrim_answering ..)

theorem endQuietSpans_answering : s.Answers (endQuietSpans s) := by
  refine .foldl (fun t a => ?_) _ _
  split
  · exact quietSpanEnds_answering ..
  · exact .refl t

theorem accrueStation_answering (a : Nat) : s.Answers (accrueStation s a) := by
  have breached : ∀ t : State, t.Answers (breach a t) := fun t => by
    unfold breach
    split
    · exact t.enterFaulted_answering ..
    · exact .refl t
  have due : s.Answers (trimFallsDue a s) := by
    simp only [trimFallsDue]
    split
    · exact .same (by simp)
    · exact (State.Answers.same (by simp)).trans (breached _)
  unfold accrueStation
  repeat' split
  · exact due
  · exact .same (by simp)
  · exact .refl s

theorem accrue_answering : s.Answers (accrue s) := .foldl accrueStation_answering _ _

theorem trimRefused_answering (a : Nat) : s.Answers (trimRefused a s) := by
  simp only [trimRefused]
  repeat' split
  · exact ((State.Answers.same (by simp)) : s.Answers ((s.reportValid a).onStation a _)).trans
      (State.endHostTrim_answering ..)
  all_goals exact .same (by simp)

theorem trimMiss_answering (a : Nat) : s.Answers (trimMiss a s) := by
  simp only [trimMiss]
  split
  · exact (State.Answers.same (by simp)).trans (State.missLimit_answering ..)
  · exact .same (by simp)

theorem trimAnswer_answering (k slot a : Nat) (c : UpClass) : s.Answers (trimAnswer k slot a c s) := by
  have freed : s.Answers (s.freeService k a) := .same (by simp)
  refine freed.trans ?_
  simp only [trimAnswer]
  split
  · exact trimMiss_answering ..
  · exact (State.Answers.same (by simp)).trans (trimMiss_answering ..)
  · exact (State.Answers.same (by simp)).trans (trimMiss_answering ..)
  · exact .same (trimDone_calls_port ..).2
  · exact trimRefused_answering ..
  · exact trimRefused_answering ..
  all_goals exact .refl _

/-! ### Slots and frames (chapter 1) -/

theorem serveSlot_answering (r : Role) (slot : Nat) (line : Option Word) : s.Answers (serveSlot r slot line s) := by
  unfold serveSlot
  split
  case h_4 =>
    split
    · exact trimAnswer_answering ..
    · exact .same (by simp)
  case h_6 =>
    split
    · exact commandAnswer_answering ..
    · exact .same (by simp)
  case h_7 =>
    repeat' split
    all_goals exact .same (by simp)
  all_goals exact .same (by simp)

theorem slotEvent_answering (slot : Nat) (line : Option Word) : s.Answers (slotEvent slot line s) :=
  (State.Answers.same (by simp)).trans (serveSlot_answering ..)

theorem passFrom_answering (n : Nat) : ∀ (slot : Nat) (s : State), s.Answers (passFrom slot n s) := by
  induction n with
  | zero => exact fun _ s => .refl s
  | succ n ih => exact fun slot s => (slotEvent_answering s slot none).trans (ih ..)

theorem passSlots_answering (slot : Nat) : s.Answers (passSlots slot s) := by
  unfold passSlots
  split
  · exact .refl s
  · exact passFrom_answering ..

theorem swapPlans_answering (c : PendingCommit) : s.Answers (swapPlans c s) := by
  have closed : (s.plans.closingIds.foldl removeClosing s).port = s.port :=
    foldl_same (p := State.port) (fun t id => by simp) _ _
  have entered : ∀ (l : List Nat) (t : State), (l.foldl enterActive t).port = t.port :=
    fun l t => foldl_same (p := State.port) (fun u id => by simp) l t
  exact (State.Answers.same (by rw [entered]; exact closed)).trans (State.answer_answering ..)

theorem frameStart_answering : s.Answers (frameStart s) := by
  have swapped : s.Answers (planSwap (assignFrame s)) := by
    unfold planSwap
    repeat' split
    · exact (State.Answers.same (by simp)).trans (swapPlans_answering ..)
    all_goals exact .same (by simp)
  have accrued : s.Answers s.beforeGrants := (swapped.trans (endQuietSpans_answering _)).trans (accrue_answering _)
  rw [frameStart_eq]
  split
  · have granted : s.Answers (grantServices s.beforeGrants) := accrued.trans (.same (by simp))
    exact (granted.trans (grantCommands_answering _)).trans (.same (nameWake_frame _).2.2.2.2.2.2.1)
  · exact accrued

theorem wakeTick_answering (a : Nat) : s.Answers (wakeTick s a) := by
  obtain port | ⟨tag, port⟩ := wakeTick_port s a
  · exact .same port
  · exact (s.setPhase_answering tag .queued).trans (.same port)

theorem closeFrame_answering : s.Answers (closeFrame s) := by
  rw [closeFrame_eq]
  exact ((passSlots_answering s _).trans .same).trans (.foldl wakeTick_answering _ _)

theorem trunkStops_answering : s.Answers (trunkStops s) := by
  have stopped : ∀ t : State, t.Answers (stationManagerStop t) := fun t => by
    have one : ∀ (u : State) a, u.Answers (stopStation u a) := fun u a => by
      unfold stopStation
      split
      · exact .refl u
      · exact u.enterAbsent_answering ..
    have folded : t.Answers (addresses.foldl stopStation t) := .foldl one addresses t
    exact folded.trans (.same (stationManagerStop_parts t).2.2.2.1)
  have calls : s.Answers (callUnitStop (stationManagerStop s.halted)) :=
    HostPort.Answers.trans (stopped s.halted) (callUnitStop_answering _)
  rw [trunkStops_eq]
  exact ((calls.trans (.same (by simp))).trans (State.answerKind_answering ..)).trans (State.answerKind_answering ..)

theorem frameEnd_answering : s.Answers (frameEnd s) := by
  have ticked : ∀ t : State, t.Answers (startingTick t) := fun t => by
    have ran : ∀ u : State, u.port = t.port → t.Answers (u.answerKind .trunkStart none .ok .short) :=
      fun u port => (State.Answers.same port).trans (State.answerKind_answering ..)
    simp only [startingTick]
    split
    · exact ran _ rfl
    · exact .same
  refine (closeFrame_answering s).trans ?_
  show (closeFrame s).Answers (settleTrunk (closeFrame s))
  unfold settleTrunk
  split
  · exact .refl _
  · exact trunkStops_answering _
  · split
    · exact trunkStops_answering _
    · exact ticked _
  · split
    · exact trunkStops_answering _
    · exact .refl _

end

end Sys2Proof.Machine
end

section

namespace Sys2Proof.Machine

/-! ## What a command can do, with what its tests say (SPEC: the 54 rows)

As `Event`, with what the host port does spelled out, and for a request that is served the tests it has passed. -/

/-- What the receiver, the transmitter and a refusal make of the port. -/
inductive PortCourse (p : HostPort) : HostPort → Prop
  | none : PortCourse p p
  /-- R145 to R149 -/
  | scanned (r : Scan) (gap : Bool) : PortCourse p (p.scanned r gap)
  /-- R150, R151 -/
  | refused (open_ : p.takes = true) (kind tag : Byte) (st : Status) (b : ReplyBody) :
      PortCourse p (({ p with intake := p.intake.tail } : HostPort).replyNow kind tag st b)
  /-- R155, R149 -/
  | started (m : Transmitter) : PortCourse p { p with transmitter := m, discarded := 0 }
  /-- R155 -/
  | idled : PortCourse p { p with transmitter := .idle }
  /-- R153, R154 -/
  | sent : PortCourse p { p.replySent with transmitter := .idle }

inductive Course (s : State) : State → Prop
  | port {p : HostPort} (h : PortCourse s.port p) : Course s { s with port := p }
  | served (k : ReqKind) (f : ReqFrame) (taken : s.takesRequest k f) : Course s (k.serve f s.popIntake)
  | noticed (n : Notice) (rest : List Notice) : Course s (startNotice n rest s)
  | reset (reason : StartReason) (baud : BitVec 2) : Course s (State.atPowerOn reason baud s.pending)
  | cutOff : Course s { s with port := s.port.cutOff, engine := s.engine.between }
  | slot (n : Nat) (line : Option Word) : Course s (slotEvent n line (passSlots n s))
  | frameStart : Course s (frameStart s)
  | frameEnd : Course s (frameEnd s)

namespace Course

variable {s t : State}

theorem none (s : State) : Course s s := .port .none

theorem of_released {f : State → State} (hf : Course s (f s)) (h : whileReleased s f = .next t) : Course s t := by
  obtain rfl | ⟨-, rfl⟩ := whileReleased_cases h
  · exact .none _
  · exact hf

theorem of_guarded {p : State → Prop} {_ : DecidablePred p} {f : State → State} (hf : Course s (f s))
    (h : whileReleased s (fun s => if p s then f s else s) = .next t) : Course s t := by
  obtain rfl | ⟨-, rfl⟩ := guarded_cases h
  · exact .none _
  · exact hf

theorem of_slotRow {slot : Nat} {isRow : State → Bool} {line : Option Word}
    (h : slotRow slot isRow line s = .next t) : Course s t := by
  refine .of_released ?_ h
  repeat' split
  · exact .none s
  · exact .slot slot line
  · exact .none s

end Course

/-- A frame that no test of the port refuses is taken as a request (R150, R151). -/
theorem takesRequest_of_pass {s : State} {k : ReqKind} {f : ReqFrame} (low : s.port.rstnLow = false)
    (head : s.port.intake.head? = some f) (open_ : s.port.takes = true) (kind : f.kind = k.code)
    (pass : portRefusal k f s.port = none) : s.takesRequest k f := by
  have room : s.port.immediate < Config.immediateReplies ∧ s.port.restarting = false := by
    simpa [HostPort.takes] using open_
  have length : k.allowsLength f.payload.length = true := by
    cases bad : k.allowsLength f.payload.length with
    | false => simp [portRefusal_badLength s.port bad] at pass
    | true => rfl
  refine ⟨⟨low, room.2, room.1, head⟩, kind, length, ?_, fun deferred => ?_⟩
  · by_contra used
    obtain ⟨other, used⟩ := not_or.mp used
    simp [portRefusal_tagInUse length other (not_not.mp used)] at pass
  · by_contra full
    have full : 8 ≤ s.port.table.length := not_lt.mp full
    by_cases used : f.tag ∈ s.port.table.map (·.tag)
    · have other : k ≠ .restart := by rintro rfl; simp [ReqKind.isDeferred] at deferred
      simp [portRefusal_tagInUse length other used] at pass
    · simp [portRefusal_tableFull length used deferred full] at pass

theorem Course.of_take {k : ReqKind} {s t : State} (h : takeRequest k k.serve s = .next t) : Course s t := by
  obtain rfl | ⟨low, rfl⟩ := whileReleased_cases h
  · exact .none _
  split
  · exact .none s
  · next f head =>
    split
    · next passed =>
      obtain ⟨open_, kind⟩ := passed
      have same : portRefusal k f s.popIntake.port = portRefusal k f s.port := rfl
      rw [serveFrame, same]
      split
      · exact .port (.refused open_ ..)
      · next pass => exact .served k f (takesRequest_of_pass low head open_ kind pass)
    · exact .none s

theorem exec_course {c : Instr} {s t : State} (h : exec c s = .next t) : Course s t := by
  have scans : ∀ g : State → HostPort, PortCourse s.port (g s) →
      whileReleased s (fun s => { s with port := g s }) = .next t → Course s t :=
    fun g course => .of_released (.port course)
  cases c with
  | powerOn bds1 bds0 =>
    obtain rfl := Host.Outcome.next.inj h
    exact .reset ..
  | rstnLow =>
    obtain rfl := Host.Outcome.next.inj h
    exact .cutOff
  | resetPoint => exact .of_guarded (.reset ..) (show execResetPoint s = _ from h)
  | receiveFrame bytes => exact scans (·.port.receive false bytes) (.scanned ..) h
  | gapLimitExpiry => exact scans (·.port.gapLimit) (.scanned ..) h
  | syncByteReceived => exact scans (·.port.receive false [Config.syncByte]) (.scanned ..) h
  | badLengthByte b => exact scans (·.port.receive false [b]) (.scanned ..) h
  | framingErrorByte b => exact scans (·.port.receive true [b]) (.scanned ..) h
  | badKindFrame =>
    refine .of_released ?_ (show execBadKindFrame s = _ from h)
    split
    · exact .none s
    · split
      · next passed => exact .port (.refused passed.1 ..)
      · exact .none s
  | replyStart =>
    refine .of_released ?_ (show execReplyStart s = _ from h)
    split
    · exact .port (.started _)
    all_goals exact .none s
  | noticeStart =>
    refine .of_released ?_ (show execNoticeStart s = _ from h)
    split
    · split
      · exact .noticed _ _
      · exact .none s
    · exact .none s
  | messageEnd =>
    refine .of_released ?_ (show execMessageEnd s = _ from h)
    split
    · exact .none s
    · exact .port .idled
    · exact .port .sent
  | frameStart => exact .of_guarded .frameStart (show execFrameStart s = _ from h)
  | planSwap => exact .of_guarded .frameStart (show execPlanSwap s = _ from h)
  | trimDue a => exact .of_guarded .frameStart (forStation_next h)
  | quietSpanEnd a => exact .of_guarded .frameStart (forStation_next h)
  | frameEnd => exact .of_guarded .frameEnd (show execFrameEnd s = _ from h)
  | startingEnd => exact .of_guarded .frameEnd (show execStartingEnd s = _ from h)
  | trunkStopComplete => exact .of_guarded .frameEnd (show execTrunkStopComplete s = _ from h)
  | frameNumberExhausted => exact .of_guarded .frameEnd (show execFrameNumberExhausted s = _ from h)
  | wakeLatencyEnd a => exact .of_guarded .frameEnd (forStation_next h)
  | beaconSlot line => exact .of_slotRow (show execBeaconSlot line s = _ from h)
  | serviceDownSlot k line => exact .of_slotRow (forPair_next h).2
  | serviceUpSlot k line => exact .of_slotRow (forPair_next h).2
  | commandDownSlot j line => exact .of_slotRow (forPair_next h).2
  | commandUpSlot j line => exact .of_slotRow (forPair_next h).2
  | responseWindowExpiry j => exact .of_slotRow (forPair_next h).2
  | streamDownSlot k line => exact .of_slotRow (forSlot_next h).2
  | streamUpSlot k line => exact .of_slotRow (forSlot_next h).2
  | unexpectedWordSlot k w => exact .of_slotRow (forSlot_next h).2
  | _ => exact .of_take h

/-- A predicate that does not look at the commands that wait, and that every course keeps, is kept by every step. -/
theorem step_keeps_of_course {P : State → Prop} (waiting : ∀ s pending, P s → P { s with pending := pending })
    (course : ∀ {s t}, Course s t → P s → P t) {s t : State} (hs : P s) (h : step s = .next t) : P t := by
  cases hp : s.pending with
  | nil =>
    rw [step_nil hp] at h
    exact Host.Outcome.next.inj h ▸ hs
  | cons c rest =>
    rw [step_cons hp] at h
    exact course (exec_course h) (waiting s rest hs)

/-! ## The requests and the port (R151 to R153) -/

/-- What a request does to the port: the blocks answer, and the request is answered at once or enters the table with its
tag. -/
inductive HostPort.Serves (k : ReqKind) (f : ReqFrame) (p : HostPort) : HostPort → Prop
  | replied {q : HostPort} (h : p.Answers q) (kind tag : Byte) (st : Status) (b : ReplyBody) :
      p.Serves k f (q.replyNow kind tag st b)
  | entered {q : HostPort} (h : p.Answers q) (deferred : k.isDeferred = true) (e : Outstanding) (tag : e.tag = f.tag)
      (unanswered : e.replied = false) : p.Serves k f (q.enter e)

/-- A request that is answered at once finds room, one that enters the table a new tag and room too (R150 to R153). -/
theorem HostPort.Serves.bounded {k : ReqKind} {f : ReqFrame} {p q : HostPort} (h : p.Serves k f q) (hp : p.Bounded)
    (room : p.immediate < 4)
    (free : k.isDeferred = true → f.tag ∉ p.table.map (·.tag) ∧ p.table.length < 8) : q.Bounded := by
  cases h with
  | replied answers kind tag st b =>
    obtain ⟨-, -, -, count⟩ := answers.kept
    exact (answers.bounded hp).replyNow (count ▸ room) kind tag st b
  | entered answers deferred e tag unanswered =>
    obtain ⟨-, -, tags, -⟩ := answers.kept
    obtain ⟨fresh, below⟩ := free deferred
    have length := congrArg List.length tags
    simp only [List.length_map] at length
    exact (answers.bounded hp).enter (by rwa [tags, tag]) (length ▸ below) unanswered

/-- The tests that a deferred request has passed (R151). -/
theorem State.takesRequest.free {s : State} {k : ReqKind} {f : ReqFrame} (taken : s.takesRequest k f)
    (deferred : k.isDeferred = true) : f.tag ∉ s.port.table.map (·.tag) ∧ s.port.table.length < 8 := by
  obtain ⟨-, -, -, fresh, below⟩ := taken
  exact ⟨fresh.resolve_left (by rintro rfl; simp [ReqKind.isDeferred] at deferred), below deferred⟩

section
variable (f : ReqFrame) (s : State)

theorem cancelEntry_answering {e : Outstanding} {t : State} (h : cancelEntry e s = some t) : s.Answers t := by
  unfold cancelEntry at h
  split at h
  · unfold cancelCommit at h
    repeat' split at h
    · obtain rfl := Option.some.inj h
      exact .answer .refl ..
    all_goals simp at h
  · unfold cancelEnroll at h
    split at h
    · obtain rfl := Option.some.inj h
      exact (s.dequeue _).enterAbsent_answering ..
    · simp at h
  · unfold cancelDrowse at h
    split at h
    · obtain rfl := Option.some.inj h
      exact (s.dequeue _).endOperation_answering ..
    · simp at h
  · unfold cancelWake at h
    split at h
    · obtain rfl := Option.some.inj h
      exact (State.Answers.same (by simp)).trans (State.endOperation_answering ..)
    · simp at h
  · unfold cancelTrim at h
    split at h
    · obtain rfl := Option.some.inj h
      exact s.endHostTrim_answering ..
    · simp at h
  · unfold cancelCall at h
    split at h
    · obtain rfl := Option.some.inj h
      exact (s.dequeue _).failCall_answering ..
    · simp at h
  all_goals simp at h

theorem giveUp_port (tag : Byte) : (giveUp tag s).port = s.port := by
  have exchange : ∀ (t : State) j, (giveUpExchange tag t j).port = t.port := fun t j => by
    unfold giveUpExchange
    repeat' split
    all_goals simp
  have operation : ∀ (t : State) a, (giveUpOperation tag t a).port = t.port := fun t a => by
    unfold giveUpOperation
    repeat' split
    all_goals simp
  have work : (s.workGivenUp tag).port = s.port :=
    (foldl_same (p := State.port) operation _ _).trans (foldl_same (p := State.port) exchange _ _)
  obtain h | h := giveUp_cases s tag
  · rw [h, work]
  · rw [h]
    generalize s.workGivenUp tag = t at work ⊢
    exact work

theorem abortOne_answering (e : Outstanding) : s.Answers (abortOne s e) := by
  unfold abortOne
  split
  · exact .refl s
  · exact (State.Answers.same (giveUp_port s e.tag)).trans (State.answer_answering ..)

/-- A request's service, seen from the port; RESTART closes the intake first (R159). -/
theorem serve_port (k : ReqKind) (other : k ≠ .restart) : s.port.Serves k f (k.serve f s).port := by
  have refused : ∀ st, s.port.Serves k f (s.refuse k f st).port := fun _ => .replied .refl ..
  have accepted : ∀ {t : State} b, t.port = s.port → s.port.Serves k f (t.accept k f b).port := fun b port =>
    .replied (.of_eq port) ..
  have entered : ∀ {t : State} {e}, t.port = s.port → k.isDeferred = true → e.tag = f.tag → e.replied = false →
      s.port.Serves k f (t.enter e).port := fun port deferred => .entered (.of_eq port) deferred _
  cases k with
  | restart => exact absurd rfl other
  | hello | status | planInfo => exact accepted _ rfl
  | cancel =>
    simp only [ReqKind.serve, serveCancel]
    repeat' split
    · exact .replied .refl ..
    · exact .replied .refl ..
    · next h => exact .replied (cancelEntry_answering s h) ..
    · exact .replied .refl ..
  | grant =>
    simp only [ReqKind.serve, serveGrant]
    split
    · exact accepted _ rfl
    · exact refused _
  | trunkSetup =>
    simp only [ReqKind.serve, serveTrunkSetup]
    repeat' split
    iterate 3 exact refused _
    exact accepted _ rfl
  | trunkStart =>
    simp only [ReqKind.serve, serveTrunkStart]
    split
    · exact entered rfl rfl rfl rfl
    · exact refused _
  | trunkStop =>
    simp only [ReqKind.serve, serveTrunkStop]
    split
    · have begun : s.port.Answers (beginStop (if s.frameDue then frameStart s else s)).port := by
        split
        · exact frameStart_answering s
        · exact .refl
      exact .entered begun rfl _ rfl rfl
    · exact refused _
  | enroll =>
    simp only [ReqKind.serve, serveEnroll]
    repeat' split
    · exact refused _
    · exact entered (by simp) rfl rfl rfl
    · exact refused _
  | drop =>
    simp only [ReqKind.serve, serveDrop]
    repeat' split
    iterate 2 exact refused _
    exact .replied (s.enterAbsent_answering ..) ..
  | drowse =>
    simp only [ReqKind.serve, serveDrowse]
    repeat' split
    iterate 3 exact refused _
    exact entered (by simp) rfl rfl rfl
  | wake =>
    simp only [ReqKind.serve, serveWake]
    repeat' split
    iterate 2 exact refused _
    exact entered (by simp) rfl rfl rfl
  | trim =>
    simp only [ReqKind.serve, serveTrim]
    repeat' split
    iterate 4 exact refused _
    exact entered (by simp) rfl rfl rfl
  | policy =>
    simp only [ReqKind.serve, servePolicy]
    repeat' split
    iterate 2 exact refused _
    exact accepted _ (by simp)
  | call =>
    simp only [ReqKind.serve, serveCall]
    repeat' split
    iterate 5 exact refused _
    exact entered (by simp) rfl rfl rfl
  | clearFault =>
    simp only [ReqKind.serve, serveClearFault]
    split
    · exact refused _
    · exact accepted _ rfl
  | stationInfo =>
    simp only [ReqKind.serve, serveStationInfo]
    split
    · exact refused _
    · exact accepted _ rfl
  | openStream =>
    simp only [ReqKind.serve, serveOpenStream]
    repeat' split
    iterate 5 exact refused _
    all_goals exact accepted _ rfl
  | closeStream =>
    simp only [ReqKind.serve, serveCloseStream]
    repeat' split
    iterate 3 exact refused _
    · exact accepted _ rfl
    · exact accepted _ (by simp)
  | commit =>
    simp only [ReqKind.serve, serveCommit]
    repeat' split
    iterate 3 exact refused _
    exact entered rfl rfl rfl rfl
  | discard =>
    simp only [ReqKind.serve, serveDiscard]
    split
    · exact refused _
    · have folded : (streamIds.foldl discardStream s).port = s.port :=
        foldl_same (p := State.port) (fun t id => by simp) _ _
      generalize streamIds.foldl discardStream s = t at folded ⊢
      exact accepted _ folded
  | write =>
    simp only [ReqKind.serve, serveWrite]
    repeat' split
    iterate 2 exact refused _
    exact accepted _ rfl
  | streamInfo =>
    simp only [ReqKind.serve, serveStreamInfo]
    split
    · exact refused _
    · split
      · exact accepted _ rfl
      · exact accepted _ rfl

theorem serveRestart_port :
    ({ s.port with restarting := true } : HostPort).Serves .restart f (serveRestart f s).port :=
  .replied (State.Answers.foldl abortOne_answering s.port.table { s with port := { s.port with restarting := true } }) ..

end

/-! ## The port keeps its bounds through every step (R146, R149, R150, R153, R154) -/

theorem PortCourse.bounded {p q : HostPort} (h : PortCourse p q) (hp : p.Bounded) : q.Bounded := by
  cases h with
  | none => exact hp
  | scanned r gap => exact hp.scanned r gap
  | refused open_ kind tag st b =>
    have room : p.immediate < 4 ∧ p.restarting = false := by simpa [HostPort.takes, Config.immediateReplies] using open_
    exact hp.popIntake.replyNow room.1 kind tag st b
  | started m => exact hp.congr hp.intake (Nat.zero_le _) rfl rfl
  | idled => exact hp.congr hp.intake hp.discarded rfl rfl
  | sent => exact hp.replySent.congr hp.replySent.intake hp.replySent.discarded rfl rfl

theorem startNotice_port (n : Notice) (rest : List Notice) (s : State) :
    (startNotice n rest s).port = { s.port with transmitter := .notice (noticeMessage n s), discarded := 0 } := by
  unfold startNotice
  split
  · simp
  all_goals rfl

theorem Course.bounded {s t : State} (course : Course s t) (hp : s.port.Bounded) : t.port.Bounded := by
  cases course with
  | port h => exact h.bounded hp
  | served k f taken =>
    have room : s.port.immediate < 4 := taken.1.2.2.1
    have popped := hp.popIntake
    by_cases restart : k = .restart
    · subst restart
      exact (serveRestart_port f s.popIntake).bounded (popped.congr popped.intake popped.discarded rfl rfl) room
        (by simp [ReqKind.isDeferred])
    · exact (serve_port f s.popIntake k restart).bounded popped room taken.free
  | noticed n rest =>
    rw [startNotice_port]
    exact hp.congr hp.intake (Nat.zero_le _) rfl rfl
  | reset reason baud => exact .of_empty rfl rfl rfl (Nat.zero_le _)
  | cutOff => exact .of_empty rfl rfl rfl hp.discarded
  | slot n line => exact ((passSlots_answering s n).trans (slotEvent_answering ..)).bounded hp
  | frameStart => exact (frameStart_answering s).bounded hp
  | frameEnd => exact (frameEnd_answering s).bounded hp

theorem step_portBounded {s t : State} (hs : PortBounded s) (h : step s = .next t) : PortBounded t :=
  step_keeps_of_course (P := PortBounded) (fun _ _ hp => hp)
    (fun course hp => portBounded_iff.mpr (course.bounded (portBounded_iff.mp hp))) hs h

end Sys2Proof.Machine
end

section

namespace Sys2Proof.Machine

/-! ## The power-on state meets every invariant -/

/-- The power-on state holds no work and no request. -/
theorem atPowerOn_workOwned (reason : StartReason) (baud : BitVec 2) (pending : List Instr) :
    WorkOwned (State.atPowerOn reason baud pending) := by
  let s := State.atPowerOn reason baud pending
  have station : ∀ a, s.station a = {} := StationManager.reset_get
  have held : ∀ k, s.trims.held k = none := TrimScheduler.reset_held
  have exchange : ∀ j, s.exchange j = none := CallUnit.reset_get
  have entries : s.entries = [] := by
    rw [State.entries, List.filterMap_eq_nil_iff.mpr fun j _ => exchange j]
    rfl
  have table : s.port.table = [] := rfl
  have wakes : s.stations.wakeQueue = [] := rfl
  have commit : s.plans.commit = none := rfl
  suffices WorkOwned s from this
  refine fun _ => ⟨⟨?_, ?_⟩, ⟨?_, ?_, ?_⟩, ⟨?_, ?_, ?_, ?_⟩, ⟨?_, ?_⟩, ?_, ?_⟩
  all_goals simp [station, held, exchange, entries, table, wakes, commit]

theorem State.not_placed_of_none {s : State} (none : ∀ id, s.stream id = none) {has : Stream → Bool} (id : Nat)
    (l : List Nat) : ¬ s.placed has id l := fun ⟨st, hst, _⟩ => by simp [none id] at hst

/-- Settles O59: each invariant read off the reset lemmas of the blocks it speaks of; no stream, no exchange, no request
and no notice marker stands in the power-on state. -/
theorem resetMeetsInvariants : Obligations.ResetMeetsInvariants := by
  have none : ∀ id, State.reset.stream id = none := StreamUnit.reset_get
  refine ⟨StreamUnit.reset_total, buffersFit_iff.mpr StreamUnit.reset_fits,
    faultsCounted_iff.mpr FaultRecorder.reset_counted, ⟨?_, ?_, ?_, fun id _ => ?_, ?_⟩,
    portBounded_iff.mpr (.of_empty rfl rfl rfl (by decide)),
    engineSound_iff.mpr ⟨FrameEngine.reset_sound _, fun a h => absurd h List.not_mem_nil⟩,
    exchangesAgree_iff.mpr (PairView.reset_sound ..),
    plansAgree_iff.mpr ⟨.empty rfl rfl (State.not_placed_of_none none), .empty rfl rfl (State.not_placed_of_none none), rfl,
      fun id st hst => ?_⟩,
    streamsFollowStations_iff.mpr fun id st hst => ?_, atPowerOn_workOwned _ _ _⟩
  · decide
  · decide
  · decide
  · rw [show State.reset.notices.marked id = false from NoticeQueue.reset_marked ..]
    rfl
  · intro n hn
    obtain rfl : n = .start .power 0 := List.mem_singleton.mp hn
    exact fun id hid => by simp [Notice.marker] at hid
  · simp [none id] at hst
  · simp [none id] at hst

end Sys2Proof.Machine
end

section

namespace Sys2Proof.Machine

/-! ## What the requests of a full restart give up (R159) -/

/-- The places where an owner holds something for a request (R159). -/
inductive Site where
  | queue
  | pair (j : Nat)
  | operation (a : Nat)
  | commit
deriving DecidableEq

@[simp] theorem option_filter_true {α : Type} (o : Option α) : o.filter (fun _ => true) = o := by
  cases o <;> rfl

/-- The owners have given up what stands under the owned tags, and nothing beside (R159). -/
structure GivenUp (owned : Site → Byte → Bool) (s t : State) : Prop where
  queue : t.calls.queue = s.calls.queue.filter (fun q => !owned .queue q.tag)
  pairs : ∀ j, t.exchange j = (s.exchange j).filter (fun x => !owned (.pair j) x.entry.tag)
  freed : ∀ j x, s.exchange j = some x → owned (.pair j) x.entry.tag = true →
    (t.station x.entry.station).exchange = none
  held : ∀ a, (∀ j x, s.exchange j = some x → owned (.pair j) x.entry.tag = true → x.entry.station ≠ a) →
    (t.station a).exchange = (s.station a).exchange
  station : ∀ a, t.station a = { s.station a with
    exchange := (t.station a).exchange
    operation := (s.station a).operation.filter (fun o => !owned (.operation a) o.2) }
  plans : t.plans = { s.plans with commit := s.plans.commit.filter (fun c => !owned .commit c.tag) }
  blocks : t.engine = s.engine ∧ t.streams = s.streams ∧ t.trims = s.trims ∧ t.faults = s.faults ∧
    t.notices = s.notices

/-- The tag is owned at one place alone. -/
def Site.only (x : Site) (tag : Byte) (y : Site) (b : Byte) : Bool := decide (y = x) && b == tag

namespace GivenUp

variable {owned other : Site → Byte → Bool} {s t u : State}

/-- Where a place holds no owned tag, nothing is given up. -/
theorem nothing (none : ∀ x b, owned x b = false) (calls : t.calls = s.calls) (stations : t.stations = s.stations)
    (plans : t.plans = s.plans) (blocks : t.engine = s.engine ∧ t.streams = s.streams ∧ t.trims = s.trims ∧
      t.faults = s.faults ∧ t.notices = s.notices) : GivenUp owned s t where
  queue := by simp [none, calls]
  pairs j := by
    have same : t.exchange j = s.exchange j := by simp only [State.exchange, calls]
    simp [none, same]
  freed j x _ ho := by simp [none] at ho
  held a _ := by simp only [State.station, stations]
  station a := by
    have same : t.station a = s.station a := by simp only [State.station, stations]
    simp [none, same]
  plans := by simp [none, plans]
  blocks := blocks

/-- One give-up after the other. -/
theorem trans (h : GivenUp owned s t) (k : GivenUp other t u) : GivenUp (fun x b => owned x b || other x b) s u where
  queue := by simp only [k.queue, h.queue, List.filter_filter, Bool.not_or, Bool.and_comm]
  pairs j := by
    rw [k.pairs, h.pairs, Option.filter_filter]
    simp only [Bool.not_or]
  freed j x hx ho := by
    by_cases first : owned (.pair j) x.entry.tag = true
    · have gone := h.freed j x hx first
      by_cases again : ∀ i y, t.exchange i = some y → other (.pair i) y.entry.tag = true → y.entry.station ≠ x.entry.station
      · rw [k.held _ again, gone]
      · push Not at again
        obtain ⟨i, y, hy, owns, same⟩ := again
        exact same ▸ k.freed i y hy owns
    · have later : other (.pair j) x.entry.tag = true := by simpa [first] using ho
      exact k.freed j x (by simp [h.pairs, hx, first]) later
  held a apart := by
    have first := h.held a fun j x hx ho => apart j x hx (by simp [ho])
    rw [k.held a fun j y hy ho => ?_, first]
    obtain ⟨hx, -⟩ := Option.filter_eq_some_iff.mp ((h.pairs j).symm.trans hy)
    exact apart j y hx (by simp [ho])
  station a := by
    have operation := congrArg Station.operation (h.station a)
    rw [k.station a, operation, h.station a, Option.filter_filter]
    simp only [Bool.not_or]
  plans := by
    rw [k.plans, h.plans]
    simp only [Option.filter_filter, Bool.not_or]
  blocks := by
    obtain ⟨engine, streams, trims, faults, notices⟩ := h.blocks
    obtain ⟨engine', streams', trims', faults', notices'⟩ := k.blocks
    exact ⟨engine'.trans engine, streams'.trans streams, trims'.trans trims, faults'.trans faults, notices'.trans notices⟩

theorem foldl {α : Type} {f : State → α → State} {owned : α → Site → Byte → Bool}
    (one : ∀ t x, GivenUp (owned x) t (f t x)) :
    ∀ (l : List α) (s : State), GivenUp (fun y b => l.any (owned · y b)) s (l.foldl f s)
  | [], _ => nothing (fun _ _ => rfl) rfl rfl rfl ⟨rfl, rfl, rfl, rfl, rfl⟩
  | x :: l, s => (one s x).trans (foldl one l (f s x))

/-- Only the command pairs and the stations of the part hold anything. -/
theorem congr (h : GivenUp owned s t) (queue : owned .queue = other .queue)
    (pairs : ∀ j ∈ pairNumbers, owned (.pair j) = other (.pair j))
    (operations : ∀ a ∈ addresses, owned (.operation a) = other (.operation a)) (commit : owned .commit = other .commit) :
    GivenUp other s t where
  queue := queue ▸ h.queue
  pairs j := by
    rw [h.pairs]
    cases hx : s.exchange j with
    | none => rfl
    | some x => rw [pairs j (State.exchange_mem hx)]
  freed j x hx ho := h.freed j x hx (by rwa [pairs j (State.exchange_mem hx)])
  held a apart := h.held a fun j x hx ho => apart j x hx (by rwa [← pairs j (State.exchange_mem hx)])
  station a := by
    rw [h.station a]
    by_cases ha : a ∈ addresses
    · rw [operations a ha]
    · simp [s.station_of_not_mem ha]
  plans := commit ▸ h.plans
  blocks := h.blocks

end GivenUp

section
variable (s : State) (tag : Byte)

theorem State.dequeue_givenUp : GivenUp (Site.queue.only tag) s (s.dequeue (fun e => e.tag == tag)) where
  queue := by simp [Site.only]
  pairs j := by simp [Site.only]
  freed j x _ ho := by simp [Site.only] at ho
  held a _ := rfl
  station a := by simp [Site.only]
  plans := by simp [Site.only]
  blocks := ⟨rfl, rfl, rfl, rfl, rfl⟩

theorem giveUpExchange_givenUp (j : Nat) : GivenUp ((Site.pair j).only tag) s (giveUpExchange tag s j) := by
  by_cases here : ∃ x, s.exchange j = some x ∧ x.entry.tag = tag
  · obtain ⟨x, hx, same⟩ := here
    have step : giveUpExchange tag s j = s.freePair j x.entry.station := by simp [giveUpExchange, hx, same]
    have mine : ∀ i y, s.exchange i = some y → (Site.pair j).only tag (.pair i) y.entry.tag = true → y = x := by
      rintro i y hy ho
      obtain ⟨rfl, -⟩ : i = j ∧ _ := by simpa [Site.only] using ho
      exact Option.some.inj (hy.symm.trans hx)
    have freed : ((s.freePair j x.entry.station).station x.entry.station).exchange = none := by
      by_cases good : x.entry.station ∈ addresses
      · simp [mem_addresses.mp good]
      · rw [State.station_of_not_mem _ good]
    have apart : ∀ a, a ≠ x.entry.station → (s.freePair j x.entry.station).station a = s.station a := fun a ne => by
      simp [Ne.symm ne]
    rw [step]
    refine ⟨by simp [Site.only], fun i => ?_, fun i y hy ho => mine i y hy ho ▸ freed, fun a ha => ?_, fun a => ?_, ?_,
      by simp⟩
    · by_cases at_ : i = j
      · subst at_
        simp [hx, Site.only, Option.filter_some, same]
      · simp [Ne.symm at_, at_, Site.only]
    · exact congrArg _ (apart a fun e => ha j x hx (by simp [Site.only, same]) e.symm)
    · have operation : (s.station a).operation.filter (fun o => !(Site.pair j).only tag (.operation a) o.2) =
          (s.station a).operation := by simp [Site.only]
      rw [operation]
      by_cases at_ : a = x.entry.station
      · subst at_
        by_cases good : x.entry.station ∈ addresses
        · simp [mem_addresses.mp good]
        · simp [State.station_of_not_mem _ good]
      · rw [apart a at_]
    · simp [Site.only]
  · have step : giveUpExchange tag s j = s := by
      unfold giveUpExchange
      split
      · next x hx => exact if_neg fun same => here ⟨x, hx, same⟩
      · rfl
    have missed : ∀ x, s.exchange j = some x → x.entry.tag ≠ tag := fun x hx same => here ⟨x, hx, same⟩
    rw [step]
    refine ⟨by simp [Site.only], fun i => ?_, fun i y hy ho => ?_, fun a _ => rfl, fun a => ?_, ?_, by simp⟩
    · cases hy : s.exchange i with
      | none => rfl
      | some y =>
        by_cases at_ : i = j
        · subst at_
          simp [Site.only, Option.filter_some, missed y hy]
        · simp [Site.only, at_]
    · obtain ⟨rfl, same⟩ : i = j ∧ _ := by simpa [Site.only] using ho
      exact absurd same (missed y hy)
    · simp [Site.only]
    · simp [Site.only]

theorem giveUpOperation_givenUp (a : Nat) : GivenUp ((Site.operation a).only tag) s (giveUpOperation tag s a) := by
  have station : ∀ b, (giveUpOperation tag s a).station b = { s.station b with
      operation := (s.station b).operation.filter (fun o => !(Site.operation a).only tag (.operation b) o.2) } := fun b => by
    by_cases at_ : b = a
    · subst at_
      by_cases good : b ∈ addresses
      · unfold giveUpOperation
        split
        · next o t ho =>
          split
          · next same => simp [mem_addresses.mp good, ho, Site.only, Option.filter_some, same]
          · next other =>
            have kept : (some (o, t)).filter (fun o => !(Site.operation b).only tag (.operation b) o.2) = some (o, t) :=
              Option.filter_some_pos (by simp [Site.only, other])
            rw [ho, kept, ← ho]
        · next ho => rw [ho, Option.filter_none, ← ho]
      · simp [State.station_of_not_mem _ good]
    · have same : (giveUpOperation tag s a).station b = s.station b := by
        unfold giveUpOperation
        repeat' split
        · simp [Ne.symm at_]
        all_goals rfl
      simp [same, Site.only, at_]
  have blocks : (giveUpOperation tag s a).calls = s.calls ∧ (giveUpOperation tag s a).plans = s.plans ∧
      (giveUpOperation tag s a).engine = s.engine ∧ (giveUpOperation tag s a).streams = s.streams ∧
      (giveUpOperation tag s a).trims = s.trims ∧ (giveUpOperation tag s a).faults = s.faults ∧
      (giveUpOperation tag s a).notices = s.notices := by
    unfold giveUpOperation
    repeat' split
    all_goals simp
  obtain ⟨calls, plans, blocks⟩ := blocks
  refine ⟨by simp [calls, Site.only], fun j => ?_, fun j x _ ho => ?_, fun b _ => by rw [station b], fun b => ?_, ?_, blocks⟩
  · have same : (giveUpOperation tag s a).exchange j = s.exchange j := by simp only [State.exchange, calls]
    simp [same, Site.only]
  · simp [Site.only] at ho
  · rw [station b]
  · simp [plans, Site.only]

/-- One request gives up what stands under its tag, wherever it stands (R159). -/
theorem giveUp_givenUp : GivenUp (fun _ b => b == tag) s (giveUp tag s) := by
  have pairs := GivenUp.foldl (f := giveUpExchange tag) (fun t j => giveUpExchange_givenUp t tag j) pairNumbers
  have operations := GivenUp.foldl (f := giveUpOperation tag) (fun t a => giveUpOperation_givenUp t tag a) addresses
  have work : GivenUp _ s (s.workGivenUp tag) := ((s.dequeue_givenUp tag).trans (pairs _)).trans (operations _)
  have commit : GivenUp (Site.commit.only tag) (s.workGivenUp tag) (giveUp tag s) := by
    unfold giveUp
    simp only [← State.workGivenUp.eq_def]
    generalize s.workGivenUp tag = t
    refine ⟨?_, fun j => ?_, fun j x _ ho => by simp [Site.only] at ho, fun a _ => ?_, fun a => ?_, ?_, ?_⟩
    · repeat' split
      all_goals simp [Site.only]
    · have same : ∀ c, ({ t with plans := { t.plans with commit := c } } : State).exchange j = t.exchange j := fun _ => rfl
      repeat' split
      all_goals simp [Site.only, same]
    · repeat' split
      all_goals rfl
    · have same : ∀ c, ({ t with plans := { t.plans with commit := c } } : State).station a = t.station a := fun _ => rfl
      have kept : (t.station a).operation.filter (fun o => !Site.commit.only tag (.operation a) o.2) =
          (t.station a).operation := by simp [Site.only]
      rw [kept]
      repeat' split
      all_goals rfl
    · split
      · next c hc =>
        split
        · next same => simp [hc, Site.only, Option.filter_some, same]
        · next other =>
          have kept : (some c).filter (fun c => !Site.commit.only tag .commit c.tag) = some c :=
            Option.filter_some_pos (by simp [Site.only, other])
          rw [hc, kept, ← hc]
      · next hc => rw [hc, Option.filter_none, ← hc]
    · repeat' split
      all_goals exact ⟨rfl, rfl, rfl, rfl, rfl⟩
  refine (work.trans commit).congr (funext fun b => ?_) (fun j hj => funext fun b => ?_) (fun a ha => funext fun b => ?_)
    (funext fun b => ?_)
  all_goals rw [Bool.eq_iff_iff]
  · simp [Site.only]
  · simpa [Site.only] using fun _ => hj
  · simpa [Site.only] using fun _ => ha
  · simp [Site.only]

end

/-! ### The replies of a full restart -/

/-- What the abort of one request does to the port. -/
def HostPort.abort (p : HostPort) (e : Outstanding) : HostPort :=
  if e.replied then p else p.answer e.tag .aborted e.failBody

theorem abortOne_port (s : State) (e : Outstanding) : (abortOne s e).port = s.port.abort e := by
  unfold abortOne HostPort.abort
  split
  · rfl
  · rw [State.answer, giveUp_port]

theorem abortOne_givenUp (s : State) (e : Outstanding) : GivenUp (fun _ b => e.waits b) s (abortOne s e) := by
  unfold abortOne
  split
  · next replied => exact .nothing (by simp [Outstanding.waits, replied]) rfl rfl rfl ⟨rfl, rfl, rfl, rfl, rfl⟩
  · next waits =>
    have answered : GivenUp (fun _ _ => false) (giveUp e.tag s) ((giveUp e.tag s).answer e.tag .aborted e.failBody) :=
      .nothing (fun _ _ => rfl) (by simp) (by simp) (by simp) (by simp)
    have same : ∀ b : Byte, (b == e.tag || false) = e.waits b := fun b => by
      simp [Outstanding.waits, waits, Bool.beq_eq_decide_eq, eq_comm]
    refine ((giveUp_givenUp s e.tag).trans answered).congr ?_ (fun _ _ => ?_) (fun _ _ => ?_) ?_
    all_goals exact funext same

/-- The ABORTED reply of a request (R159). -/
def Outstanding.abortReply (e : Outstanding) : Reply :=
  { kind := e.kind.replyCode, tag := e.tag, status := .aborted, body := e.failBody, deferred := true }

/-- The abort of the first request that is not yet answered: the tags differ, so it alone gets the mark. -/
theorem HostPort.abort_next {p : HostPort} {done rest : List Outstanding} {e : Outstanding} (differ : p.tagsDiffer)
    (table : p.table = done ++ e :: rest) :
    p.abort e = { p with
      table := done ++ { e with replied := true } :: rest
      replies := p.replies ++ ([e].filter (!·.replied)).map Outstanding.abortReply } := by
  cases replied : e.replied with
  | true =>
    have same : { e with replied := true } = e := by rw [← replied]
    simp [HostPort.abort, replied, same, ← table]
  | false =>
    rw [HostPort.tagsDiffer, table, List.map_append, List.map_cons, List.nodup_middle] at differ
    obtain ⟨fresh, -⟩ := List.nodup_cons.mp differ
    have others : ∀ o ∈ done ++ rest, o.tag ≠ e.tag := fun o ho same =>
      fresh (by rw [← List.map_append]; exact same ▸ List.mem_map_of_mem ho)
    have left : ∀ l : List Outstanding, (∀ o ∈ l, o ∈ done ++ rest) → l.map (Outstanding.mark e.tag) = l := fun l hl =>
      (List.map_congr_left fun o ho => Outstanding.mark_of_ne (others o (hl o ho))).trans (List.map_id' l)
    have found : p.table.find? (·.waits e.tag) = some e := by
      rw [table, List.find?_append, List.find?_eq_none.mpr]
      · simp [Outstanding.waits, replied]
      · intro o ho
        simp [Outstanding.waits, others o (List.mem_append_left _ ho)]
    have marked : e.mark e.tag = { e with replied := true } := if_pos rfl
    simp only [HostPort.abort, replied, Bool.false_eq_true, if_false, HostPort.answer_waiting _ _ found, table,
      List.map_append, List.map_cons, marked, left done fun o => List.mem_append_left _,
      left rest fun o => List.mem_append_right _]
    simp [replied, Outstanding.abortReply]

theorem HostPort.abort_all : ∀ (l done : List Outstanding) (p : HostPort), p.tagsDiffer → p.table = done ++ l →
    l.foldl HostPort.abort p = { p with
      table := done ++ l.map (fun e => { e with replied := true })
      replies := p.replies ++ (l.filter (!·.replied)).map Outstanding.abortReply }
  | [], done, p, _, table => by simp [← table]
  | e :: l, done, p, differ, table => by
    have next := HostPort.abort_next differ table
    have tags : (p.abort e).tagsDiffer := by
      unfold HostPort.abort
      split
      · exact differ
      · exact (HostPort.tagsDiffer_answer ..).mpr differ
    have rest : (p.abort e).table = (done ++ [{ e with replied := true }]) ++ l := by simp [next]
    rw [List.foldl_cons, HostPort.abort_all l _ _ tags rest, next]
    cases replied : e.replied <;> simp [replied]

/-- Settles O11: fold of the table; what is given up is what stands under the tags of the unanswered requests, and each of
those is answered in the order of the table. -/
theorem restartAbortsOutstanding : Obligations.RestartAbortsOutstanding := by
  intro f s taken differ
  let closed : State := { s.popIntake with port := { s.popIntake.port with restarting := true } }
  let aborted := s.port.table.foldl abortOne closed
  have given : GivenUp (fun _ b => s.port.table.any (·.waits b)) s aborted := by
    have fold : GivenUp (fun _ b => s.port.table.any (·.waits b)) closed aborted :=
      GivenUp.foldl abortOne_givenUp s.port.table closed
    have shut : GivenUp (fun _ _ => false) s closed := .nothing (fun _ _ => rfl) rfl rfl rfl ⟨rfl, rfl, rfl, rfl, rfl⟩
    exact shut.trans fold
  have port : aborted.port = _ :=
    (List.foldl_hom State.port (g₂ := HostPort.abort) (fun t e => (abortOne_port t e).symm) (l := s.port.table)
      (init := closed)).symm.trans (HostPort.abort_all s.port.table [] closed.port differ rfl)
  have run : exec .restart s = .next (aborted.accept .restart f .short) := takesRequest_served serveRestart taken
  obtain ⟨engine, streams, trims, faults, notices⟩ := given.blocks
  refine ⟨_, run, ?_, ?_, ?_, ?_, given.queue, fun c hc owns => ?_, fun a => ?_, fun owned same => ?_, engine, streams, trims,
    faults, notices⟩
  · simp [State.accept, State.replyNow, port, closed]
  · simp [State.accept, State.replyNow, port, closed, State.popIntake]
  · simp only [State.accept, State.replyNow, HostPort.replyNow, port, closed, State.popIntake]
    rfl
  · simp [State.accept, State.replyNow, port, closed, State.popIntake]
  · change aborted.plans.commit = none
    have waits : s.port.table.any (·.waits c.tag) = true := owns
    rw [given.plans, hc]
    exact Option.filter_some_neg (p := fun c : PendingCommit => !s.port.table.any (·.waits c.tag)) (by rw [waits]; rfl)
  · exact (congrArg Station.state (given.station a) :)
  · obtain rfl : owned = fun b => s.port.table.any (·.waits b) := funext same
    exact ⟨given.pairs, given.freed, given.held, given.station⟩

end Sys2Proof.Machine
end

section

namespace Sys2Proof.Machine

/-! ## The work of the unanswered requests (R153)

The part of the state that `WorkOwned` speaks of, and the same invariant over that part, station by station. What an
operation does to one station is then shown for that station alone. -/

/-- The part of a station's record that holds its work. -/
structure StationWork where
  state : StationState
  exchange : Option PairRef
  operation : Option (Operation × Byte)
  /-- a wake countdown runs (R81) -/
  counting : Bool
  hostTrim : Bool

def Station.work (r : Station) : StationWork :=
  { state := r.state, exchange := r.exchange, operation := r.operation, counting := r.wakeCountdown.isSome,
    hostTrim := r.hostTrim }

/-- The part of the state that holds the work of requests, and which requests have no reply queued. -/
structure WorkView where
  station : Nat → StationWork
  wakes : List Nat
  queue : List Entry
  caller : Nat → Option Entry
  held : Nat → Option Nat
  awaits : Byte → ReqKind → Option Nat → Prop
  restarting : Bool
  commit : Option Byte

def State.work (s : State) : WorkView :=
  { station := fun a => (s.station a).work, wakes := s.stations.wakeQueue, queue := s.calls.queue,
    caller := fun j => (s.exchange j).map (·.entry), held := s.trims.held, awaits := s.port.awaits,
    restarting := s.port.restarting, commit := s.plans.commit.map (·.tag) }

/-- The kinds of request whose work stands at a station (R111, R64, R105). -/
def ReqKind.hasWork : ReqKind → Bool
  | .call | .enroll | .drowse | .wake | .trim => true
  | .hello | .status | .grant | .cancel | .restart | .trunkSetup | .trunkStart | .trunkStop | .drop | .policy
  | .clearFault | .stationInfo | .openStream | .closeStream | .commit | .discard | .planInfo | .write
  | .streamInfo => false

@[simp] theorem Operation.request_hasWork (o : Operation) : o.request.hasWork = true := by cases o <;> rfl
@[simp] theorem OwnerKind.request_hasWork (o : OwnerKind) : o.request.hasWork = true := by cases o <;> rfl

theorem Operation.request_inj {o p : Operation} (h : o.request = p.request) : o = p := by
  cases o <;> cases p <;> simp_all [Operation.request]

theorem Operation.request_ne_trim (o : Operation) : o.request ≠ .trim := by cases o <;> simp [Operation.request]
theorem Operation.request_ne_call (o : Operation) : o.request ≠ .call := by cases o <;> simp [Operation.request]
theorem OwnerKind.request_ne_trim (o : OwnerKind) : o.request ≠ .trim := by cases o <;> simp [OwnerKind.request]

/-- An owner of an entry is a CALL, or the pending operation of its request (R71, R78, R81, R124). -/
theorem OwnerKind.cases_operation (o : OwnerKind) :
    (o = .call ∧ o.operation = none) ∨ ∃ p, o.operation = some p ∧ p.request = o.request ∧ o ≠ .call := by
  cases o <;> simp [OwnerKind.operation, Operation.request, OwnerKind.request]

theorem OwnerKind.request_eq_call {o : OwnerKind} (h : o.request = .call) : o = .call := by
  cases o <;> simp_all [OwnerKind.request]

namespace WorkView

/-- An entry stands in the command queue, or a command pair holds its exchange (R111, R113). -/
def has (v : WorkView) (e : Entry) : Prop := e ∈ v.queue ∨ ∃ j, v.caller j = some e

/-- No PROBE of the station is queued or in flight (R81). -/
def noProbe (v : WorkView) (a : Nat) : Prop := ∀ e, v.has e → e.owner = .wake → e.station ≠ a

/-- An entry belongs to an unanswered request for its station (R111, R113). -/
structure OwnsEntry (v : WorkView) (e : Entry) : Prop where
  good : goodStation e.station = true
  awaits : v.awaits e.tag e.owner.request (some e.station)
  operation : ∀ o ∈ e.owner.operation, (v.station e.station).operation = some (o, e.tag)
  takesCalls : e.owner = .call → (v.station e.station).state.takesCalls = true

/-- The clauses of `WorkOwned` and of the exchange fields that concern one station. -/
structure At (v : WorkView) (a : Nat) : Prop where
  entry : ∀ e, v.has e → e.station = a → v.OwnsEntry e
  caller : ∀ j e, v.caller j = some e → e.station = a →
    (v.station a).exchange = some (.command j) ∧ (v.station a).state = e.owner.needs
  trim : ∀ k, v.held k = some a → (v.station a).exchange = some (.service k) ∧ (v.station a).state = .active
  service : ∀ k, (v.station a).exchange = some (.service k) → (v.station a).state = .active
  command : ∀ j, (v.station a).exchange = some (.command j) → ∃ e, v.caller j = some e ∧ e.station = a
  operation : ∀ o tag, (v.station a).operation = some (o, tag) →
    v.awaits tag o.request (some a) ∧ (v.station a).state ∈ o.states
  queued : a ∈ v.wakes → goodStation a = true ∧ (v.station a).state = .waking ∧ (v.station a).counting = false ∧
    v.noProbe a
  counting : (v.station a).counting = true → (v.station a).state = .waking ∧ v.noProbe a
  flag : (v.station a).hostTrim = true → ((v.station a).state = .active ∨ (v.station a).state = .trimming) ∧
    (v.restarting = true ∨ ∃ tag, v.awaits tag .trim (some a))
  oneTrim : ∀ t u, v.awaits t .trim (some a) → v.awaits u .trim (some a) → t = u
  callHeld : ∀ tag, v.awaits tag .call (some a) → ∃ e, v.has e ∧ e.station = a ∧ e.tag = tag
  operationHeld : ∀ tag (o : Operation), v.awaits tag o.request (some a) → (v.station a).operation = some (o, tag)
  trimHeld : ∀ tag, v.awaits tag .trim (some a) → (v.station a).hostTrim = true

/-- `WorkOwned` over the view, beside the differing tags of `PortBounded` and the exchange fields of `ExchangesAgree`. -/
structure Owned (v : WorkView) : Prop where
  queueApart : (v.queue.map (·.tag)).Nodup
  pairsApart : ∀ i j d e, v.caller i = some d → v.caller j = some e → d.tag = e.tag → i = j
  bothApart : ∀ d ∈ v.queue, ∀ j e, v.caller j = some e → d.tag ≠ e.tag
  once : v.wakes.Nodup
  single : ∀ tag k l x y, v.awaits tag k x → v.awaits tag l y → k = l ∧ x = y
  targets : ∀ tag k x, v.awaits tag k x → k.hasWork = true → ∃ a, x = some a
  commit : ∀ tag, v.commit = some tag → v.awaits tag .commit none
  station : ∀ a, v.At a

end WorkView

/-! ### The view and the invariants -/

theorem State.work_has {s : State} {e : Entry} : s.work.has e ↔ e ∈ s.entries := by
  have pairs : (∃ j, (s.exchange j).map (·.entry) = some e) ↔ e ∈ (pairNumbers.filterMap s.exchange).map (·.entry) := by
    simp only [List.mem_map, List.mem_filterMap, Option.map_eq_some_iff]
    constructor
    · rintro ⟨j, x, hx, rfl⟩
      exact ⟨x, ⟨j, State.exchange_mem hx, hx⟩, rfl⟩
    · rintro ⟨x, ⟨j, -, hx⟩, rfl⟩
      exact ⟨j, x, hx, rfl⟩
  rw [State.entries, List.mem_append, ← pairs]
  exact Iff.rfl

/-- The tags of the entries differ exactly where those of the queue do, those of the pairs do, and none of the one is of
the other. -/
theorem State.entries_nodup_iff {s : State} : (s.entries.map (·.tag)).Nodup ↔
    (s.work.queue.map (·.tag)).Nodup ∧
    (∀ i j d e, s.work.caller i = some d → s.work.caller j = some e → d.tag = e.tag → i = j) ∧
    ∀ d ∈ s.work.queue, ∀ j e, s.work.caller j = some e → d.tag ≠ e.tag := by
  have distinct : pairNumbers.Nodup := by decide
  have pairs : (((pairNumbers.filterMap s.exchange).map (·.entry)).map (·.tag)).Nodup ↔
      ∀ i j d e, s.work.caller i = some d → s.work.caller j = some e → d.tag = e.tag → i = j := by
    rw [List.map_map, List.Nodup, List.pairwise_map, List.pairwise_filterMap]
    constructor
    · intro h i j d e hi hj same
      obtain ⟨x, hx, rfl⟩ := Option.map_eq_some_iff.mp hi
      obtain ⟨y, hy, rfl⟩ := Option.map_eq_some_iff.mp hj
      by_contra ne
      have symmetric : Std.Symm fun i j => ∀ x, s.exchange i = some x → ∀ y, s.exchange j = some y → x.entry.tag ≠ y.entry.tag :=
        ⟨fun i j h x hx y hy => (h y hy x hx).symm⟩
      exact @List.Pairwise.forall _ _ _ symmetric h _ (State.exchange_mem hx) _ (State.exchange_mem hy) ne x hx y hy same
    · intro h
      refine distinct.imp_of_mem fun {i j} _ _ ne x hx y hy same => ne ?_
      exact h i j _ _ (Option.map_eq_some_iff.mpr ⟨x, hx, rfl⟩) (Option.map_eq_some_iff.mpr ⟨y, hy, rfl⟩) same
  rw [State.entries, List.map_append, List.nodup_append, pairs]
  refine and_congr_right fun _ => and_congr_right fun _ => ?_
  constructor
  · intro h d hd j e he
    refine h _ (List.mem_map.mpr ⟨d, hd, rfl⟩) _ ?_
    obtain ⟨x, hx, rfl⟩ := Option.map_eq_some_iff.mp he
    exact List.mem_map.mpr ⟨x.entry, List.mem_map.mpr ⟨x, List.mem_filterMap.mpr ⟨j, State.exchange_mem hx, hx⟩, rfl⟩, rfl⟩
  · intro h tag hd tag' he same
    rw [List.mem_map] at hd he
    obtain ⟨d, hd, rfl⟩ := hd
    obtain ⟨e, he, rfl⟩ := he
    obtain ⟨x, hx, rfl⟩ := List.mem_map.mp he
    obtain ⟨j, -, hx⟩ := List.mem_filterMap.mp hx
    exact h d hd j x.entry (Option.map_eq_some_iff.mpr ⟨x, hx, rfl⟩) same

/-- A number that is no station's has no work. -/
theorem State.work_of_not_mem (s : State) {a : Nat} (h : a ∉ addresses) :
    s.work.station a = { state := .absent, exchange := none, operation := none, counting := false, hostTrim := false } := by
  simp [State.work, Station.work, s.station_of_not_mem h]

theorem HostPort.awaits_single {p : HostPort} (h : p.tagsDiffer) {tag : Byte} {k l : ReqKind} {x y : Option Nat}
    (hk : p.awaits tag k x) (hl : p.awaits tag l y) : k = l ∧ x = y := by
  obtain ⟨o, ho, rfl, rfl, rfl, -⟩ := hk
  obtain ⟨q, hq, same, rfl, rfl, -⟩ := hl
  obtain rfl := h.eq ho hq same.symm
  exact ⟨rfl, rfl⟩

/-- The kinds whose work stands at a station, one by one. -/
theorem ReqKind.hasWork_cases {k : ReqKind} (h : k.hasWork = true) :
    k = .call ∨ k = .trim ∨ ∃ o : Operation, k = o.request := by
  cases k with
  | call => exact .inl rfl
  | trim => exact .inr (.inl rfl)
  | enroll => exact .inr (.inr ⟨.enroll, rfl⟩)
  | drowse => exact .inr (.inr ⟨.drowse, rfl⟩)
  | wake => exact .inr (.inr ⟨.wake, rfl⟩)
  | _ => simp [ReqKind.hasWork] at h

theorem Operation.mem_all (o : Operation) : o ∈ [Operation.enroll, .drowse, .wake] := by cases o <;> simp

/-- Under the invariants the work of every station is owned. -/
theorem work_owned {s : State} (low : s.port.rstnLow = false) (bounded : PortBounded s) (agree : ExchangesAgree s)
    (owned : WorkOwned s) : s.work.Owned := by
  obtain ⟨⟨apart, entries⟩, ⟨needs, trims, backs⟩, ⟨operations, once, wakes, countdowns⟩, ⟨flags, oneTrim⟩, held, commit⟩ :=
    owned low
  obtain ⟨queueApart, pairsApart, bothApart⟩ := State.entries_nodup_iff.mp apart
  have sound := exchangesAgree_iff.mp agree
  have differ := (portBounded_iff.mp bounded).differ
  have noProbe : ∀ a, (∀ e ∈ s.entries, e.owner = .wake → e.station ≠ a) → s.work.noProbe a :=
    fun a h e he => h e (State.work_has.mp he)
  have asked : ∀ tag k x, s.port.awaits tag k x → k.hasWork = true → ∃ a, x = some a := by
    rintro tag k x ⟨o, ho, rfl, rfl, rfl, unanswered⟩ work
    obtain ⟨call, operation, trim⟩ := held o ho unanswered
    obtain kind | kind | ⟨p, kind⟩ := ReqKind.hasWork_cases work
    · obtain ⟨e, he, same⟩ := call kind
      obtain ⟨-, awaits, -⟩ := entries e he
      exact ⟨_, (HostPort.awaits_single differ ⟨o, ho, same.symm, rfl, rfl, unanswered⟩ awaits).2⟩
    · obtain ⟨a, -, target, -⟩ := trim kind
      exact ⟨a, target⟩
    · obtain ⟨a, -, target, -⟩ := operation p p.mem_all kind
      exact ⟨a, target⟩
  refine ⟨queueApart, pairsApart, bothApart, once, fun _ _ _ _ _ => HostPort.awaits_single differ, asked, ?_, fun a => ?_⟩
  · rintro tag pending
    obtain ⟨c, hc, rfl⟩ := Option.map_eq_some_iff.mp pending
    exact commit c hc
  have mem : ∀ {p : Prop}, (a ∈ addresses → p) → (s.work.station a ≠
      { state := .absent, exchange := none, operation := none, counting := false, hostTrim := false } → p) :=
    fun hp ne => hp (by_contra fun out => ne (s.work_of_not_mem out))
  refine
    { entry := fun e he _ => ?_, caller := fun j e he ha => ?_, trim := fun k hk => ?_, service := fun k hk => ?_,
      command := fun j hj => ?_, operation := fun o tag ho => ?_, queued := fun ha => ?_, counting := fun hc => ?_,
      flag := fun hf => ?_, oneTrim := fun t u ht hu => ?_, callHeld := fun tag ht => ?_,
      operationHeld := fun tag o ht => ?_, trimHeld := fun tag ht => ?_ }
  · obtain ⟨good, awaits, operation, takes⟩ := entries e (State.work_has.mp he)
    exact ⟨good, awaits, operation, takes⟩
  · obtain ⟨x, hx, rfl⟩ := Option.map_eq_some_iff.mp he
    subst ha
    exact ⟨sound.calls j _ (Option.map_eq_some_iff.mpr ⟨x, hx, rfl⟩), needs j (State.exchange_mem hx) x hx⟩
  · exact ⟨(sound.trims k a hk).1, trims k (mem_pairNumbers.mpr (TrimScheduler.held_mem hk)) a hk⟩
  · refine mem (fun ha => ?_) (fun none => by simp [none] at hk)
    exact beq_iff_eq.mp (backs a ha _ hk)
  · refine mem (fun ha => ?_) (fun none => by simp [none] at hj)
    have back : (s.exchange j).any (fun x => x.entry.station == a) = true := backs a ha _ hj
    obtain ⟨x, hx, station⟩ := (Option.any_eq_true ..).mp back
    exact ⟨x.entry, Option.map_eq_some_iff.mpr ⟨x, hx, rfl⟩, beq_iff_eq.mp station⟩
  · refine mem (fun ha => ?_) (fun none => by simp [none] at ho)
    exact operations a ha (o, tag) ho
  · obtain ⟨good, waking, idle, none⟩ := wakes a ha
    exact ⟨good, waking, by simp [State.work, Station.work, idle], noProbe a none⟩
  · refine mem (fun ha => ?_) (fun none => by simp [none] at hc)
    obtain ⟨waking, none⟩ := countdowns a ha (Option.isSome_iff_ne_none.mp hc)
    exact ⟨waking, noProbe a none⟩
  · refine mem (fun ha => ?_) (fun none => by simp [none] at hf)
    obtain ⟨state, request⟩ := flags a ha hf
    exact ⟨state, request.imp_right fun ⟨o, ho, kind, target, unanswered⟩ => ⟨o.tag, o, ho, rfl, kind, target, unanswered⟩⟩
  · obtain ⟨o, ho, rfl, kind, target, unanswered⟩ := ht
    obtain ⟨p, hp, rfl, kind', target', unanswered'⟩ := hu
    exact oneTrim o ho p hp kind kind' unanswered unanswered' (target.trans target'.symm)
  · have awaited := ht
    obtain ⟨o, ho, rfl, kind, target, unanswered⟩ := ht
    obtain ⟨e, he, same⟩ := (held o ho unanswered).1 kind
    obtain ⟨-, awaits, -⟩ := entries e he
    obtain ⟨-, station⟩ := HostPort.awaits_single differ (same ▸ awaited) awaits
    exact ⟨e, State.work_has.mpr he, (Option.some.inj station).symm, same⟩
  · obtain ⟨q, hq, rfl, kind, target, unanswered⟩ := ht
    obtain ⟨b, -, target', operation⟩ := (held q hq unanswered).2.1 o o.mem_all kind
    obtain rfl := Option.some.inj (target.symm.trans target')
    exact operation
  · obtain ⟨q, hq, rfl, kind, target, unanswered⟩ := ht
    obtain ⟨b, -, target', flag⟩ := (held q hq unanswered).2.2 kind
    obtain rfl := Option.some.inj (target.symm.trans target')
    exact flag

/-- Work that is owned at every station is `WorkOwned`. -/
theorem workOwned_of_work {s : State} (h : s.work.Owned) : WorkOwned s := by
  intro low
  have owns : ∀ e ∈ s.entries, s.work.OwnsEntry e := fun e he => (h.station e.station).entry e (State.work_has.mpr he) rfl
  have noProbe : ∀ a, s.work.noProbe a → ∀ e ∈ s.entries, e.owner = .wake → e.station ≠ a :=
    fun a none e he => none e (State.work_has.mpr he)
  have real : ∀ a, s.work.station a ≠
      { state := .absent, exchange := none, operation := none, counting := false, hostTrim := false } → a ∈ addresses :=
    fun a ne => by_contra fun out => ne (s.work_of_not_mem out)
  refine ⟨⟨State.entries_nodup_iff.mpr ⟨h.queueApart, h.pairsApart, h.bothApart⟩, fun e he => ?_⟩,
    ⟨fun j _ x hx => ?_, fun k _ a hk => ((h.station a).trim k hk).2, fun a ha p hp => ?_⟩,
    ⟨fun a _ o ho => (h.station a).operation o.1 o.2 ho, h.once, fun a ha => ?_, fun a _ hc => ?_⟩,
    ⟨fun a _ hf => ?_, ?_⟩, fun o ho unanswered => ⟨fun call => ?_, fun p _ kind => ?_, fun trim => ?_⟩, fun c hc => ?_⟩
  · obtain ⟨good, awaits, operation, takes⟩ := owns e he
    exact ⟨good, awaits, operation, takes⟩
  · exact ((h.station x.entry.station).caller j x.entry (Option.map_eq_some_iff.mpr ⟨x, hx, rfl⟩) rfl).2
  · cases p with
    | service k => exact beq_iff_eq.mpr ((h.station a).service k hp)
    | command j =>
      obtain ⟨e, he, station⟩ := (h.station a).command j hp
      obtain ⟨x, hx, rfl⟩ := Option.map_eq_some_iff.mp he
      simp [State.backs, hx, station]
  · obtain ⟨good, waking, idle, none⟩ := (h.station a).queued ha
    exact ⟨good, waking, by simpa [State.work, Station.work] using idle, noProbe a none⟩
  · obtain ⟨waking, none⟩ := (h.station a).counting (Option.isSome_iff_ne_none.mpr hc)
    exact ⟨waking, noProbe a none⟩
  · obtain ⟨state, request⟩ := (h.station a).flag hf
    exact ⟨state, request.imp_right fun ⟨_, o, ho, _, kind, target, unanswered⟩ => ⟨o, ho, kind, target, unanswered⟩⟩
  · intro o ho p hp kind kind' unanswered unanswered' target
    obtain ⟨a, here⟩ := h.targets o.tag .trim o.target ⟨o, ho, rfl, kind, rfl, unanswered⟩ rfl
    exact (h.station a).oneTrim _ _ ⟨o, ho, rfl, kind, here, unanswered⟩ ⟨p, hp, rfl, kind', target ▸ here, unanswered'⟩
  · obtain ⟨a, here⟩ := h.targets o.tag .call o.target ⟨o, ho, rfl, call, rfl, unanswered⟩ rfl
    obtain ⟨e, he, -, same⟩ := (h.station a).callHeld o.tag ⟨o, ho, rfl, call, here, unanswered⟩
    exact ⟨e, State.work_has.mp he, same⟩
  · obtain ⟨a, here⟩ := h.targets o.tag p.request o.target ⟨o, ho, rfl, kind, rfl, unanswered⟩ p.request_hasWork
    have operation := (h.station a).operationHeld o.tag p ⟨o, ho, rfl, kind, here, unanswered⟩
    exact ⟨a, real a (fun none => by simp [none] at operation), here, operation⟩
  · obtain ⟨a, here⟩ := h.targets o.tag .trim o.target ⟨o, ho, rfl, trim, rfl, unanswered⟩ rfl
    have flag := (h.station a).trimHeld o.tag ⟨o, ho, rfl, trim, here, unanswered⟩
    exact ⟨a, real a (fun none => by simp [none] at flag), here, flag⟩
  · exact h.commit c.tag (Option.map_eq_some_iff.mpr ⟨c, hc, rfl⟩)

end Sys2Proof.Machine
end

section

namespace Sys2Proof.Machine

/-! ## CANCEL of a request that has not been answered (R158) -/

/-- A CANCEL is taken whose target is in the table, unanswered and not in flight. -/
structure Cancels (s : State) (f : ReqFrame) (e : Outstanding) : Prop where
  taken : s.takesRequest .cancel f
  payload : f.payload = [e.tag]
  found : s.port.table.find? (fun o => o.tag == e.tag) = some e
  waits : e.replied = false
  phase : e.phase ≠ .inFlight

/-- The port once a request is withdrawn: its reply CANCELLED, then the CANCEL's own (R158). -/
def HostPort.withdrawn (p : HostPort) (f : ReqFrame) (e : Outstanding) (body : ReplyBody) : HostPort :=
  { p with
    intake := p.intake.tail
    table := p.table.map (Outstanding.mark e.tag)
    replies := p.replies ++ [deferredReply e.kind e.tag .cancelled body,
      { kind := 0x44#8, tag := f.tag, status := .ok, body := .cancel e.tag, deferred := false }] }

/-- A state whose every block but these is known. -/
theorem State.eq_mk (t : State) {e : FrameEngine} {l : PlanStore} {m : TrimScheduler} {c : CallUnit} {r : FaultRecorder}
    {p : HostPort} {q : List Instr} (engine : t.engine = e) (plans : t.plans = l) (trims : t.trims = m) (calls : t.calls = c)
    (faults : t.faults = r) (port : t.port = p) (pending : t.pending = q) :
    t = { engine := e, plans := l, streams := t.streams, stations := t.stations, trims := m, calls := c, faults := r,
          notices := t.notices, port := p, pending := q } := by
  subst engine plans trims calls faults port pending
  rfl

theorem State.clearStation_pairs (s : State) (a : Nat) : (s.clearStation a).trims.pairs = s.trims.pairs := by
  have kept : ∀ (m : TrimScheduler) r, (m.set a r).pairs = m.pairs := fun m r => by
    unfold TrimScheduler.set
    split <;> rfl
  exact kept ..

/-- Entry to ABSENT of a station with no exchange, no host TRIM and no entry: the operation's reply is the only one. -/
theorem State.enterAbsent_of_idle {s : State} {a : Nat} (idle : (s.station a).exchange = none)
    (flag : (s.station a).hostTrim = false) (free : ∀ q ∈ s.calls.queue, q.station ≠ a) (reason : Reason) (o w : Status) :
    (s.enterAbsent a reason o w).calls = s.calls ∧ (s.enterAbsent a reason o w).trims.pairs = s.trims.pairs ∧
    (s.enterAbsent a reason o w).port = ((s.moveStation a .absent reason).endOperation a o .short).port := by
  obtain ⟨entries, flag'⟩ := s.operationEnded_work a .absent reason o
  have frame := s.operationEnded_frame a .absent reason o
  have field : (((s.operationEnded a .absent reason o).clearStation a).station a).exchange = none := by
    rw [State.clearStation_exchange_field, State.operationEnded_exchange_field, idle]
  have cleared : (((s.operationEnded a .absent reason o).clearStation a).station a).hostTrim = false := by
    rw [State.clearStation_station]
    split
    · exact flag'.trans flag
    · exact flag'.trans flag
  have none : s.calls.queue.filter (fun e => e.station == a) = [] :=
    List.filter_eq_nil_iff.mpr fun q hq => by simpa using free q hq
  have queue : s.calls.queue.filter (fun e => e.station != a) = s.calls.queue :=
    List.filter_eq_self.mpr fun q hq => by simpa using free q hq
  obtain ⟨trims, pairs⟩ := State.disposeWork_of_idle ((s.operationEnded a .absent reason o).clearStation a) a w field
  refine ⟨?_, ?_, ?_⟩
  · have left := s.enterAbsent_queue a reason o w
    rw [queue] at left
    rw [State.enterAbsent_eq] at left ⊢
    obtain ⟨-, -, -, calls, -⟩ := (s.operationEnded a .absent reason o).clearStation_frame a
    rw [calls, frame.2.2.2.1] at pairs
    generalize State.disposeWork a w _ = t at left pairs
    cases ht : t.calls
    cases hs : s.calls
    simp_all
  · rw [State.enterAbsent_eq, trims]
    rw [State.clearStation_pairs, frame.2.2.1]
  · rw [State.enterAbsent_eq, State.disposeWork_port]
    have entries' : ((s.operationEnded a .absent reason o).clearStation a).workEntries a = [] := by
      obtain ⟨-, -, -, calls, -⟩ := (s.operationEnded a .absent reason o).clearStation_frame a
      rw [State.workEntries, State.entryInFlight, field, calls, frame.2.2.2.1, none]
      rfl
    rw [entries', State.endHostTrim, cleared]
    rfl

theorem State.endOperation_of_pending {s : State} {a : Nat} {o : Operation} {tag : Byte}
    (pending : (s.station a).operation = some (o, tag)) (st : Status) (b : ReplyBody) :
    s.endOperation a st b = (s.onStation a (fun r => { r with operation := none })).answer tag st b := by
  simp only [State.endOperation, pending]

namespace Cancels

variable {s : State} {f : ReqFrame} {e : Outstanding} (h : Cancels s f e)
include h

theorem mem : e ∈ s.port.table := List.mem_of_find?_eq_some h.found

theorem find_waits : s.port.table.find? (·.waits e.tag) = some e := by
  obtain ⟨-, before, after, table, others⟩ := List.find?_eq_some_iff_append.mp h.found
  refine List.find?_eq_some_iff_append.mpr ⟨by simp [Outstanding.waits, h.waits], before, after, table, fun o ho => ?_⟩
  have other : (o.tag == e.tag) = false := by simpa using others o ho
  simp [Outstanding.waits, other]

theorem awaits : s.port.awaits e.tag e.kind e.target := ⟨e, h.mem, rfl, rfl, rfl, h.waits⟩

/-- Where the owner gives the request up with its reply, the CANCEL is answered OK behind it. -/
theorem exec_withdrawn {t : State} (owner : cancelEntry e s.popIntake = some t) :
    exec .cancel s = .next (t.replyNow 0x44#8 f.tag .ok (.cancel e.tag)) := by
  have phase : (e.phase == .inFlight) = false := by simpa using h.phase
  rw [exec_cancel h.taken h.payload, h.found]
  simp [h.waits, phase, owner]

theorem exec_tooLate (owner : cancelEntry e s.popIntake = none) :
    exec .cancel s = .next (s.replied 0x44#8 f.tag .tooLate (.cancel e.tag)) := by
  rw [exec_cancel h.taken h.payload, h.found]
  simp [owner]

theorem withdrawn_port (body : ReplyBody) :
    (s.popIntake.port.answer e.tag .cancelled body).replyNow 0x44#8 f.tag .ok (.cancel e.tag) =
      s.port.withdrawn f e body := by
  have waits : s.popIntake.port.table.find? (·.waits e.tag) = some e := h.find_waits
  rw [HostPort.answer_waiting _ _ waits]
  simp [HostPort.replyNow, HostPort.withdrawn, State.popIntake, deferredReply]

/-! ### The owners' rules (R125, R36, R78, R76, R82, R109) -/

theorem call {q : Entry} (kind : e.kind = .call) (first : s.calls.queue.find? (fun q => q.tag == e.tag) = some q)
    (owner : q.owner = .call) : exec .cancel s = .next { s with
      calls := { s.calls with queue := s.calls.queue.filter (fun q => q.tag != e.tag) }
      port := s.port.withdrawn f e (.call q.station q.order.code q.attr 0 0) } := by
  have tag : q.tag = e.tag := by simpa using List.find?_some first
  have rule : cancelEntry e s.popIntake = some ((s.popIntake.dequeue (fun q => q.tag == e.tag)).answer e.tag .cancelled
      (.call q.station q.order.code q.attr 0 0)) := by
    have queue : s.popIntake.calls.queue.find? (fun q => q.tag == e.tag) = some q := first
    simp only [cancelEntry, kind, cancelCall, queue, State.failCall, owner, if_true, tag, Entry.callBody]
  rw [h.exec_withdrawn rule, ← h.withdrawn_port]
  rfl

theorem commit {c : PendingCommit} (kind : e.kind = .commit) (pending : s.plans.commit = some c) (tag : c.tag = e.tag) :
    exec .cancel s = .next { s with
      plans := { s.plans with commit := none }
      port := s.port.withdrawn f e .short } := by
  have rule : cancelEntry e s.popIntake = some (({ s.popIntake with plans := { s.plans with commit := none } } : State).answer
      e.tag .cancelled .short) := by
    simp [cancelEntry, kind, cancelCommit, pending, tag]
  rw [h.exec_withdrawn rule, ← h.withdrawn_port]
  rfl

section
variable (low : s.port.rstnLow = false) (bounded : PortBounded s) (agree : ExchangesAgree s) (owned : WorkOwned s)
  {a : Nat} (target : e.target = some a)
include low bounded agree owned target

/-- The pending operation of an unanswered ENROLL, DROWSE or WAKE stands at its station. -/
theorem operation (o : Operation) (kind : e.kind = o.request) : (s.station a).operation = some (o, e.tag) :=
  ((work_owned low bounded agree owned).station a).operationHeld e.tag o (kind ▸ target ▸ h.awaits)

/-- An unanswered TRIM is the one that waits for its station, and the station's flag is set. -/
theorem trim_waits (kind : e.kind = .trim) :
    (s.station a).hostTrim = true ∧ s.port.waiting .trim (some a) = some e.tag := by
  have here := (work_owned low bounded agree owned).station a
  have awaits : s.port.awaits e.tag .trim (some a) := kind ▸ target ▸ h.awaits
  refine ⟨here.trimHeld _ awaits, ?_⟩
  obtain ⟨tag, waiting⟩ : ∃ tag, s.port.waiting .trim (some a) = some tag := by
    cases waiting : s.port.waiting .trim (some a) with
    | some tag => exact ⟨tag, rfl⟩
    | none =>
      have missing := List.find?_eq_none.mp (Option.map_eq_none_iff.mp waiting) e h.mem
      simp [kind, target, h.waits] at missing
  rw [waiting, here.oneTrim _ _ (HostPort.awaits_of_waiting waiting) awaits]

/-- A station whose JOIN is still queued has no other work (R76). -/
theorem only_join (kind : e.kind = .enroll) (queued : ∃ q ∈ s.calls.queue, q.tag = e.tag) :
    (s.station a).exchange = none ∧ (s.station a).hostTrim = false ∧ a ∉ s.stations.wakeQueue ∧
    ∀ q ∈ s.calls.queue, q.tag ≠ e.tag → q.station ≠ a := by
  have work := work_owned low bounded agree owned
  have here := work.station a
  have operation : (s.work.station a).operation = some (.enroll, e.tag) :=
    h.operation low bounded agree owned target .enroll kind
  have joining : (s.work.station a).state = .joining := List.mem_singleton.mp (here.operation _ _ operation).2
  have tags : ∀ q, s.work.has q → q.station = a → q.tag = e.tag := fun q hq station => by
    obtain ⟨-, -, beside, takes⟩ := here.entry q hq station
    rw [station] at beside takes
    obtain ⟨call, -⟩ | ⟨p, hp, -⟩ := q.owner.cases_operation
    · simp [joining, StationState.takesCalls] at takes
      exact absurd call takes
    · have same := operation.symm.trans (beside p hp)
      simp_all
  refine ⟨?_, ?_, fun wakes => ?_, fun q hq other station => other (tags q (.inl hq) station)⟩
  · cases field : (s.station a).exchange with
    | none => rfl
    | some p =>
      cases p with
      | service k => simp [here.service k field] at joining
      | command j =>
        obtain ⟨x, hx, station⟩ := here.command j field
        obtain ⟨q, hq, same⟩ := queued
        exact absurd (same.trans (tags x (.inr ⟨j, hx⟩) station).symm) (work.bothApart q hq j x hx)
  · refine Bool.eq_false_iff.mpr fun flag => ?_
    have states := (here.flag flag).1
    simp [joining] at states
  · simp [(here.queued wakes).2.1] at joining

theorem drowse (kind : e.kind = .drowse) (queued : ∃ q ∈ s.calls.queue, q.tag = e.tag) :
    exec .cancel s = .next { s with
      stations := s.stations.set a { s.station a with operation := none }
      calls := { s.calls with queue := s.calls.queue.filter (fun q => q.tag != e.tag) }
      port := s.port.withdrawn f e .short } := by
  have held := h.operation low bounded agree owned target .drowse kind
  have operation : ((s.popIntake.dequeue (fun q => q.tag == e.tag)).station a).operation = some (.drowse, e.tag) := held
  have isQueued : s.popIntake.isQueued e.tag = true := by simpa [State.isQueued] using queued
  have rule : cancelEntry e s.popIntake = some (((s.popIntake.dequeue (fun q => q.tag == e.tag)).onStation a
      (fun r => { r with operation := none })).answer e.tag .cancelled .short) := by
    simp only [cancelEntry, kind, cancelDrowse, target, Option.getD_some, isQueued, if_true,
      State.endOperation_of_pending operation]
  rw [h.exec_withdrawn rule, ← h.withdrawn_port]
  rfl

theorem trim (kind : e.kind = .trim) (active : (s.station a).state = .active)
    (free : ∀ k ∈ pairNumbers, s.trims.held k ≠ some a) :
    exec .cancel s = .next { s with
      stations := s.stations.set a { s.station a with hostTrim := false, refusals := 0 }
      port := s.port.withdrawn f e .short } := by
  obtain ⟨flag, waiting⟩ := h.trim_waits low bounded agree owned target kind
  have flag' : (s.popIntake.station a).hostTrim = true := flag
  have waiting' : (s.popIntake.onStation a (fun r => { r with hostTrim := false, refusals := 0 })).port.waiting .trim
      (some a) = some e.tag := waiting
  have rule : cancelEntry e s.popIntake = some ((s.popIntake.onStation a
      (fun r => { r with hostTrim := false, refusals := 0 })).answer e.tag .cancelled .short) := by
    have idle : (s.popIntake.station a).state = .active ∧
        !pairNumbers.any (fun k => s.popIntake.trims.held k == some a) := ⟨active, by simpa using free⟩
    simp only [cancelEntry, kind, cancelTrim, target, Option.getD_some, if_pos idle, State.endHostTrim, flag', if_true,
      State.answerKind, waiting']
  rw [h.exec_withdrawn rule, ← h.withdrawn_port]
  rfl

theorem wake (kind : e.kind = .wake) (queued : a ∈ s.stations.wakeQueue) :
    ∃ t, exec .cancel s = .next t ∧
      t = { s with stations := t.stations, streams := t.streams, notices := t.notices
                   port := s.port.withdrawn f e .short } ∧
      t.station a = { s.station a with state := .drowsy, operation := none } ∧
      (∀ b, b ≠ a → t.station b = s.station b) ∧
      t.stations.wakeQueue = s.stations.wakeQueue.filter (· != a) ∧
      stationTold a .drowsy .cancelled s t ∧ streamsFollow a s t := by
  have good : goodStation a = true := (((work_owned low bounded agree owned).station a).queued queued).1
  obtain ⟨h1, h15⟩ := goodStation_iff.mp good
  have held := h.operation low bounded agree owned target .wake kind
  let left : State := { s.popIntake with stations :=
    { s.stations with wakeQueue := s.stations.wakeQueue.filter (· != a) } }
  have station : ∀ b, left.station b = s.station b := fun _ => rfl
  have operation : ((left.moveStation a .drowsy .cancelled).station a).operation = some (.wake, e.tag) := by
    simp [h1, h15, station, held]
  have rule : cancelEntry e s.popIntake = some (((left.moveStation a .drowsy .cancelled).onStation a
      (fun r => { r with operation := none })).answer e.tag .cancelled .short) := by
    have mem : a ∈ s.popIntake.stations.wakeQueue := queued
    simp only [cancelEntry, kind, cancelWake, target, Option.getD_some, if_pos mem]
    exact congrArg some (State.endOperation_of_pending operation .cancelled .short)
  generalize moved : left.moveStation a .drowsy .cancelled = v at rule operation
  have frame := State.moveStation_frame left a .drowsy .cancelled
  rw [moved] at frame
  obtain ⟨engine, plans, trims, calls, faults, port, pending⟩ := frame
  refine ⟨_, h.exec_withdrawn rule, State.eq_mk _ engine plans trims calls faults ?_ pending, ?_, fun b other => ?_, ?_,
    ?_, ?_⟩
  · rw [← h.withdrawn_port]
    change (v.port.answer e.tag .cancelled .short).replyNow _ _ _ _ = _
    rw [port]
  · change (v.onStation a (fun r => { r with operation := none })).station a = _
    simp [h1, h15, ← moved, station]
  · change (v.onStation a (fun r => { r with operation := none })).station b = _
    simp [Ne.symm other, ← moved, station]
  · change (v.onStation a (fun r => { r with operation := none })).stations.wakeQueue = _
    simp [← moved, left]
  · exact stationTold_of_move (v := left) (fun n hn => by rw [moved] at hn; exact hn) rfl rfl (Nat.le_add_right _ 2)
  · refine streamsFollow_of_move (v := left) (reason := .cancelled) good (by rw [moved]; rfl) (by rw [moved]; rfl) ?_ rfl
      (Nat.le_add_right _ 2)
    change ((v.onStation a (fun r => { r with operation := none })).station a).state = .drowsy
    simp [h1, h15, ← moved]

theorem enroll (kind : e.kind = .enroll) (step : (s.station a).step = some .join)
    (queued : ∃ q ∈ s.calls.queue, q.tag = e.tag) :
    ∃ t, exec .cancel s = .next t ∧
      t = { s with stations := t.stations, streams := t.streams, trims := t.trims, notices := t.notices
                   calls := { s.calls with queue := s.calls.queue.filter (fun q => q.tag != e.tag) }
                   port := s.port.withdrawn f e .short } ∧
      t.station a = { s.station a with
        state := .absent, identity := none, interval := none, quiet := none, latency := none, misses := 0,
        operation := none, step := none, wakeCountdown := none } ∧
      t.account a = { s.account a with quietEnd := none, ackPair := none } ∧
      t.trims.pairs = s.trims.pairs ∧ t.stations.wakeQueue = s.stations.wakeQueue ∧
      (∀ b, b ≠ a → t.station b = s.station b ∧ t.account b = s.account b) ∧
      stationTold a .absent .cancelled s t ∧ streamsFollow a s t := by
  obtain ⟨idle, flag, awake, others⟩ := h.only_join low bounded agree owned target kind queued
  have held := h.operation low bounded agree owned target .enroll kind
  have mem : a ∈ addresses := by
    by_contra out
    simp [s.station_of_not_mem out] at held
  obtain ⟨h1, h15⟩ := mem_addresses.mp mem
  let left : State := s.popIntake.dequeue (fun q => q.tag == e.tag)
  have station : ∀ b, left.station b = s.station b := fun _ => rfl
  have isQueued : s.popIntake.isQueued e.tag = true := by simpa [State.isQueued] using queued
  have rule : cancelEntry e s.popIntake = some (left.enterAbsent a .cancelled .cancelled .cancelled) := by
    have asked : (s.popIntake.station a).step = some .join ∧ s.popIntake.isQueued e.tag = true := ⟨step, isQueued⟩
    simp only [cancelEntry, kind, cancelEnroll, target, Option.getD_some, if_pos asked]
    rfl
  have free : ∀ q ∈ left.calls.queue, q.station ≠ a := fun q hq => by
    obtain ⟨hq, other⟩ := List.mem_filter.mp hq
    exact others q hq (by simpa using other)
  obtain ⟨calls, pairs, port⟩ := State.enterAbsent_of_idle (station a ▸ idle) (station a ▸ flag) free .cancelled .cancelled
    .cancelled
  have pending : ((left.moveStation a .absent .cancelled).station a).operation = some (.enroll, e.tag) := by
    simp [h1, h15, station, held]
  rw [State.endOperation_of_pending pending] at port
  have record := left.enterAbsent_station a a .cancelled .cancelled .cancelled
  rw [if_pos ⟨rfl, h1, h15⟩, station] at record
  have account := left.enterAbsent_account a .cancelled .cancelled .cancelled
  have streams := left.enterAbsent_streams a .cancelled .cancelled .cancelled
  have notices := left.enterAbsent_notices a .cancelled .cancelled .cancelled
  have wakes := left.enterAbsent_wakes a .cancelled .cancelled .cancelled
  have apart := fun b => left.enterAbsent_station a b .cancelled .cancelled .cancelled
  have frame := left.enterAbsent_frame a .cancelled .cancelled .cancelled
  generalize left.enterAbsent a .cancelled .cancelled .cancelled = v at *
  obtain ⟨engine, plans, faults, pending⟩ := frame
  refine ⟨_, h.exec_withdrawn rule, ?_, ?_, ?_, pairs, ?_, fun b other => ⟨?_, ?_⟩, ?_, ?_⟩
  · refine State.eq_mk _ engine plans rfl calls faults ?_ pending
    rw [← h.withdrawn_port]
    change v.port.replyNow _ _ _ _ = _
    rw [port]
    simp [left]
  · change v.station a = _
    rw [record]
    simp [Station.clear, flag, idle]
  · change v.account a = _
    rw [account, if_pos ⟨rfl, h1, h15⟩]
    rfl
  · change v.stations.wakeQueue = _
    rw [wakes.2]
    exact List.filter_eq_self.mpr fun b hb => by simpa using fun same : b = a => awake (same ▸ hb)
  · exact (apart b).trans (if_neg fun same => other same.1.symm)
  · exact (account b).trans (if_neg fun same => other same.1.symm)
  · exact stationTold_of_move (v := left) (fun n hn => by rw [← notices] at hn; exact hn) rfl rfl (Nat.le_add_right _ 2)
  · refine streamsFollow_of_move (v := left) (reason := .cancelled) (goodStation_iff.mpr ⟨h1, h15⟩) streams notices ?_ rfl
      (Nat.le_add_right _ 2)
    change (v.station a).state = .absent
    rw [record]

end

/-! ### Too late (R158) -/

omit h in
theorem tooLate_of_not_queued (kind : e.kind = .call ∨ e.kind = .drowse) (gone : ¬ ∃ q ∈ s.calls.queue, q.tag = e.tag) :
    cancelEntry e s.popIntake = none := by
  obtain kind | kind := kind
  · have missing : s.popIntake.calls.queue.find? (fun q => q.tag == e.tag) = none :=
      List.find?_eq_none.mpr fun q hq => by simpa using fun same => gone ⟨q, hq, same⟩
    simp only [cancelEntry, kind, cancelCall, missing]
  · have missing : s.popIntake.isQueued e.tag = false := by
      simpa [State.isQueued] using fun q hq same => gone ⟨q, hq, same⟩
    simp [cancelEntry, kind, cancelDrowse, missing]

omit h in
theorem tooLate_of_no_commit (kind : e.kind = .commit) (gone : ∀ c, s.plans.commit = some c → c.tag ≠ e.tag) :
    cancelEntry e s.popIntake = none := by
  have commit : s.popIntake.plans.commit = s.plans.commit := rfl
  simp only [cancelEntry, kind, cancelCommit, commit]
  cases hc : s.plans.commit with
  | none => rfl
  | some c => exact if_neg (gone c hc)

end Cancels

/-- Settles O10: the owner's rule for the target, case by case; where the owner finds the request in its own records the
invariants say that these are the request's, and that a joining station has no other work. -/
theorem cancelWithdrawsCallOrCommit : Obligations.CancelWithdrawsCallOrCommit := by
  intro f s tag e taken payload found waits phase after rest queued tooLate hafter hrest hqueued htooLate
  obtain rfl : e.tag = tag := by simpa using List.find?_some found
  have h : Cancels s f e := ⟨taken, payload, found, waits, phase⟩
  have port : ∀ body, after body = s.port.withdrawn f e body := hafter
  have late : cancelEntry e s.popIntake = none → tooLate := fun none => htooLate ▸ h.exec_tooLate none
  subst hrest hqueued
  refine ⟨fun q kind first owner => ?_, fun c kind pending same => ?_, fun kind gone => late (Cancels.tooLate_of_not_queued kind gone),
    fun kind gone => late (Cancels.tooLate_of_no_commit kind gone), fun a target => ⟨fun kind gone => late ?_,
    fun kind gone => late ?_, fun kind busy => late ?_, fun bounded agree owned => ?_⟩⟩
  · rw [port]
    exact h.call kind first owner
  · rw [port]
    exact h.commit kind pending same
  · have missing : ¬ ((s.popIntake.station a).step = some .join ∧ s.popIntake.isQueued e.tag = true) := fun ⟨step, queued⟩ =>
      gone.elim (fun other => other step) fun none => none (by simpa [State.isQueued] using queued)
    simp only [cancelEntry, kind, cancelEnroll, target, Option.getD_some, if_neg missing]
  · have missing : a ∉ s.popIntake.stations.wakeQueue := gone
    simp only [cancelEntry, kind, cancelWake, target, Option.getD_some, if_neg missing]
  · have missing : ¬ ((s.popIntake.station a).state = .active ∧
        (!pairNumbers.any (fun k => s.popIntake.trims.held k == some a)) = true) := fun ⟨active, free⟩ =>
      busy.elim (fun other => other active) fun ⟨k, hk, held⟩ => by
        simp only [Bool.not_eq_true', List.any_eq_false, beq_iff_eq] at free
        exact free k hk held
    simp only [cancelEntry, kind, cancelTrim, target, Option.getD_some, if_neg missing]
  · rw [port]
    exact ⟨h.drowse taken.1.1 bounded agree owned target, h.trim taken.1.1 bounded agree owned target,
      h.wake taken.1.1 bounded agree owned target, h.enroll taken.1.1 bounded agree owned target⟩

end Sys2Proof.Machine
end

section

namespace Sys2Proof.Machine

/-! ## What the operations make of the work (R153)

Each shared operation on the state is an operation on the view. -/

namespace WorkView

@[ext] theorem ext {v w : WorkView} (station : v.station = w.station) (wakes : v.wakes = w.wakes)
    (queue : v.queue = w.queue) (caller : v.caller = w.caller) (held : v.held = w.held) (awaits : v.awaits = w.awaits)
    (restarting : v.restarting = w.restarting) (commit : v.commit = w.commit) : v = w := by
  cases v
  cases w
  simp_all

/-- One station's work is changed. -/
def on (a : Nat) (g : StationWork → StationWork) (v : WorkView) : WorkView :=
  { v with station := fun b => if b = a then g (v.station b) else v.station b }

/-- The reply of a tag is queued. -/
def answered (tag : Byte) (v : WorkView) : WorkView := { v with awaits := fun t k x => v.awaits t k x ∧ t ≠ tag }

/-- A request enters the table. -/
def entered (tag : Byte) (kind : ReqKind) (target : Option Nat) (v : WorkView) : WorkView :=
  { v with awaits := fun t k x => v.awaits t k x ∨ (t = tag ∧ k = kind ∧ x = target) }

/-- Entries leave the command queue. -/
def dequeued (leaves : Entry → Bool) (v : WorkView) : WorkView := { v with queue := v.queue.filter (fun e => !leaves e) }

/-- An entry joins the command queue, outside a full restart alone (R112, R160). -/
def enqueued (e : Entry) (v : WorkView) : WorkView := { v with queue := if v.restarting then v.queue else v.queue ++ [e] }

/-- A command pair is freed, with its station's field (R117). -/
def pairFreed (j a : Nat) (v : WorkView) : WorkView :=
  { v.on a (fun r => { r with exchange := none }) with caller := fun i => if i = j then none else v.caller i }

/-- A service pair is freed, with its station's field (R99). -/
def serviceFreed (k a : Nat) (v : WorkView) : WorkView :=
  { v.on a (fun r => { r with exchange := none }) with held := fun i => if i = k then none else v.held i }

/-- The pending operation ends with its reply (R67, step 4). -/
def operationEnded (a : Nat) (v : WorkView) : WorkView :=
  { v.on a (fun r => { r with operation := none }) with
    awaits := fun t k x => v.awaits t k x ∧ ∀ o, (v.station a).operation ≠ some (o, t) }

/-- A host TRIM ends with its reply (R106 to R108). -/
def trimEnded (a : Nat) (v : WorkView) : WorkView :=
  { v.on a (fun r => { r with hostTrim := false }) with
    awaits := fun t k x => v.awaits t k x ∧ ((v.station a).hostTrim = true → ¬ v.awaits t .trim (some a)) }

/-- The state of a station changes. -/
def moved (a : Nat) (new : StationState) (v : WorkView) : WorkView := v.on a (fun r => { r with state := new })

/-- The tags that the end of all work of a station answers (R68). -/
def ends (a : Nat) (v : WorkView) (t : Byte) : Prop :=
  (∃ o, (v.station a).operation = some (o, t)) ∨ ((v.station a).hostTrim = true ∧ v.awaits t .trim (some a)) ∨
  ∃ e, v.has e ∧ e.station = a ∧ e.owner = .call ∧ e.tag = t

/-- A station takes a state without work, and all its work ends (R68). -/
def retired (a : Nat) (new : StationState) (v : WorkView) : WorkView :=
  { v with
    station := fun b => if b = a then
        { state := new, exchange := none, operation := none, counting := false, hostTrim := false } else v.station b
    wakes := v.wakes.filter (· != a)
    queue := v.queue.filter (fun e => e.station != a)
    caller := fun j => if (v.station a).exchange = some (.command j) then none else v.caller j
    held := fun k => if (v.station a).exchange = some (.service k) then none else v.held k
    awaits := fun t k x => v.awaits t k x ∧ ¬ v.ends a t }

@[simp] theorem on_station (v : WorkView) (a : Nat) (g : StationWork → StationWork) (b : Nat) :
    (v.on a g).station b = if b = a then g (v.station b) else v.station b := rfl

end WorkView

/-! ### The port and the table -/

theorem HostPort.awaits_answer {p : HostPort} {tag : Byte} {st : Status} {b : ReplyBody} {t : Byte} {k : ReqKind}
    {x : Option Nat} : (p.answer tag st b).awaits t k x ↔ p.awaits t k x ∧ t ≠ tag := by
  refine ⟨fun h => ?_, fun ⟨h, ne⟩ => HostPort.awaits_answer_of_ne ne st b h⟩
  unfold HostPort.answer at h
  split at h
  · next missing =>
    refine ⟨h, ?_⟩
    rintro rfl
    obtain ⟨o, ho, rfl, -, -, waits⟩ := h
    simpa [Outstanding.waits, waits] using List.find?_eq_none.mp missing o ho
  · obtain ⟨o, ho, rfl, rfl, rfl, waits⟩ := h
    obtain ⟨q, hq, rfl⟩ := List.mem_map.mp ho
    rw [Outstanding.mark_replied] at waits
    obtain ⟨waits, ne⟩ : q.replied = false ∧ q.tag ≠ tag := by simpa using waits
    rw [Outstanding.mark_of_ne ne]
    exact ⟨⟨q, hq, rfl, rfl, rfl, waits⟩, ne⟩

theorem HostPort.awaits_setPhase {p : HostPort} {tag : Byte} {ph : Phase} {t : Byte} {k : ReqKind} {x : Option Nat} :
    (p.setPhase tag ph).awaits t k x ↔ p.awaits t k x := by
  have fields : ∀ o : Outstanding, (if o.tag = tag then { o with phase := ph } else o).tag = o.tag ∧
      (if o.tag = tag then { o with phase := ph } else o).kind = o.kind ∧
      (if o.tag = tag then { o with phase := ph } else o).target = o.target ∧
      (if o.tag = tag then { o with phase := ph } else o).replied = o.replied := fun o => by split <;> simp
  simp [HostPort.awaits, HostPort.setPhase, fields]

theorem HostPort.awaits_enter {p : HostPort} {e : Outstanding} (waits : e.replied = false) {t : Byte} {k : ReqKind}
    {x : Option Nat} : (p.enter e).awaits t k x ↔ p.awaits t k x ∨ (t = e.tag ∧ k = e.kind ∧ x = e.target) := by
  constructor
  · rintro ⟨o, ho, rfl, rfl, rfl, open_⟩
    obtain ho | ho := List.mem_append.mp ho
    · exact .inl ⟨o, ho, rfl, rfl, rfl, open_⟩
    · obtain rfl := List.mem_singleton.mp ho
      exact .inr ⟨rfl, rfl, rfl⟩
  · rintro (⟨o, ho, rest⟩ | ⟨rfl, rfl, rfl⟩)
    · exact ⟨o, List.mem_append_left _ ho, rest⟩
    · exact ⟨e, List.mem_append_right _ (List.mem_singleton.mpr rfl), rfl, rfl, rfl, waits⟩

/-- Without a request of a kind and target none waits of it. -/
theorem HostPort.waiting_of_awaits {p : HostPort} {t : Byte} {k : ReqKind} {x : Option Nat} (h : p.awaits t k x) :
    ∃ tag, p.waiting k x = some tag := by
  obtain ⟨o, ho, -, rfl, rfl, waits⟩ := h
  cases found : p.waiting o.kind o.target with
  | some tag => exact ⟨tag, rfl⟩
  | none => simpa [waits] using List.find?_eq_none.mp (Option.map_eq_none_iff.mp found) o ho

/-! ### The operations of the state -/

namespace State

/-- What the view shows of a state. -/
theorem work_eq {s t : State} (station : ∀ a, (t.station a).work = (s.station a).work)
    (wakes : t.stations.wakeQueue = s.stations.wakeQueue) (queue : t.calls.queue = s.calls.queue)
    (caller : ∀ j, (t.exchange j).map (·.entry) = (s.exchange j).map (·.entry)) (held : t.trims.held = s.trims.held)
    (awaits : ∀ g k x, t.port.awaits g k x ↔ s.port.awaits g k x) (restarting : t.port.restarting = s.port.restarting)
    (commit : t.plans.commit = s.plans.commit) : t.work = s.work := by
  refine WorkView.ext (funext station) wakes queue (funext caller) held ?_ restarting
    (congrArg (Option.map PendingCommit.tag) commit)
  funext g k x
  exact propext (awaits g k x)

theorem work_of_blocks {s t : State} (stations : t.stations = s.stations) (calls : t.calls = s.calls)
    (held : t.trims.held = s.trims.held) (port : t.port = s.port) (commit : t.plans.commit = s.plans.commit) :
    t.work = s.work := by
  refine work_eq (fun a => ?_) (by rw [stations]) (by rw [calls]) (fun j => ?_) held (fun g k x => by rw [port])
    (by rw [port]) commit
  · simp only [State.station, stations]
  · simp only [State.exchange, calls]

variable (s : State)

theorem work_onStation {a : Nat} (ha : a ∈ addresses) {f : Station → Station} {g : StationWork → StationWork}
    (hg : ∀ r, (f r).work = g r.work) : (s.onStation a f).work = s.work.on a g := by
  refine WorkView.ext (funext fun b => ?_) ?_ rfl rfl ?_ rfl rfl rfl
  · change ((s.onStation a f).station b).work = if b = a then g (s.station b).work else (s.station b).work
    rw [State.onStation_station]
    by_cases hab : a = b
    · subst hab
      rw [if_pos ⟨rfl, mem_addresses.mp ha⟩, if_pos rfl, hg]
    · rw [if_neg fun h => hab h.1, if_neg (Ne.symm hab)]
  · change (s.onStation a f).stations.wakeQueue = s.stations.wakeQueue
    simp
  · rfl

/-- Fields of a record that hold no work. -/
theorem work_onStation_same (a : Nat) {f : Station → Station} (hf : ∀ r, (f r).work = r.work) :
    (s.onStation a f).work = s.work := by
  refine work_eq (fun b => ?_) (by simp) rfl (fun _ => rfl) rfl (fun _ _ _ => Iff.rfl) rfl rfl
  rw [State.onStation_station]
  split
  · next h => rw [hf, h.1]
  · rfl

@[simp] theorem work_onAccount (a : Nat) (f : TrimAccount → TrimAccount) : (s.onAccount a f).work = s.work :=
  work_of_blocks rfl rfl (s.onAccount_held a f) rfl rfl

@[simp] theorem work_setAccount (a : Nat) (r : TrimAccount) : (s.setAccount a r).work = s.work :=
  work_of_blocks rfl rfl (funext fun _ => TrimScheduler.set_held ..) rfl rfl

@[simp] theorem work_endQuiet (a : Nat) : (s.endQuiet a).work = s.work := s.work_onAccount a _

@[simp] theorem work_reportValid (a : Nat) : (s.reportValid a).work = s.work := s.work_onStation_same a fun _ => rfl
@[simp] theorem work_reportMiss (a : Nat) : (s.reportMiss a).work = s.work := s.work_onStation_same a fun _ => rfl

@[simp] theorem work_reportFault (a : Nat) (kind : FaultKind) (slot : Nat) (raw : Option Word) :
    (s.reportFault a kind slot raw).work = s.work :=
  work_of_blocks (by simp) (by simp) (by simp) (by simp) (by simp)

@[simp] theorem work_answer (tag : Byte) (st : Status) (b : ReplyBody) :
    (s.answer tag st b).work = s.work.answered tag := by
  refine WorkView.ext rfl rfl rfl rfl rfl ?_ ?_ rfl
  · funext t k x
    exact propext HostPort.awaits_answer
  · exact (HostPort.answer_frame ..).2.2.2.2.2.2

@[simp] theorem work_replyNow (kind tag : Byte) (st : Status) (b : ReplyBody) :
    (s.replyNow kind tag st b).work = s.work := work_eq (fun _ => rfl) rfl rfl (fun _ => rfl) rfl (fun _ _ _ => Iff.rfl) rfl rfl

@[simp] theorem work_setPhase (tag : Byte) (ph : Phase) : (s.setPhase tag ph).work = s.work :=
  work_eq (fun _ => rfl) rfl rfl (fun _ => rfl) rfl (fun _ _ _ => HostPort.awaits_setPhase) rfl rfl

theorem work_enter {e : Outstanding} (waits : e.replied = false) :
    (s.enter e).work = s.work.entered e.tag e.kind e.target := by
  refine WorkView.ext rfl rfl rfl rfl rfl ?_ rfl rfl
  funext t k x
  exact propext (HostPort.awaits_enter waits)

@[simp] theorem work_dequeue (leaves : Entry → Bool) : (s.dequeue leaves).work = s.work.dequeued leaves := rfl

@[simp] theorem work_enqueue (e : Entry) : (s.enqueue e).work = s.work.enqueued e := by
  unfold State.enqueue WorkView.enqueued
  split
  · next h => exact WorkView.ext rfl rfl (by simp [State.work, h]) rfl rfl rfl rfl rfl
  · next h => exact WorkView.ext rfl rfl (by simp [State.work, h]) rfl rfl rfl rfl rfl

theorem work_moveStation {a : Nat} (ha : a ∈ addresses) (new : StationState) (reason : Reason) :
    (s.moveStation a new reason).work = s.work.moved a new := by
  obtain ⟨-, plans, trims, calls, -, port, -⟩ := s.moveStation_frame a new reason
  have record : ∀ b, (s.moveStation a new reason).station b = (s.onStation a fun r => { r with state := new }).station b :=
    fun b => by rw [State.moveStation_station, State.onStation_station]
  have wakes : (s.moveStation a new reason).stations.wakeQueue = s.stations.wakeQueue := by simp
  have kept : (s.moveStation a new reason).work = (s.onStation a fun r => { r with state := new }).work :=
    work_eq (fun b => by rw [record]) (by rw [wakes]; simp) (by rw [calls]; rfl)
      (fun j => by simp only [State.exchange, calls]; rfl) (by rw [trims]; rfl) (fun g k x => by rw [port]; rfl)
      (by rw [port]; rfl) (by rw [plans]; rfl)
  rw [kept]
  exact s.work_onStation ha fun _ => rfl

theorem work_freePair (j : Nat) {a : Nat} (ha : a ∈ addresses) : (s.freePair j a).work = s.work.pairFreed j a := by
  refine WorkView.ext ?_ ?_ (by simp [State.work, WorkView.pairFreed, WorkView.on]) ?_ ?_ ?_ ?_ ?_
  · funext b
    by_cases hab : b = a
    · subst hab
      simp [State.work, WorkView.pairFreed, WorkView.on, mem_addresses.mp ha, Station.work]
    · simp [State.work, WorkView.pairFreed, WorkView.on, hab, Ne.symm hab]
  · simp [State.work, WorkView.pairFreed, WorkView.on]
  · funext i
    by_cases hij : i = j
    · simp [State.work, WorkView.pairFreed, hij]
    · simp [State.work, WorkView.pairFreed, hij, Ne.symm hij]
  all_goals simp [State.work, WorkView.pairFreed, WorkView.on]

theorem work_freeService (k : Nat) {a : Nat} (ha : a ∈ addresses) :
    (s.freeService k a).work = s.work.serviceFreed k a := by
  refine WorkView.ext ?_ ?_ (by simp [State.work, WorkView.serviceFreed, WorkView.on]) ?_ ?_ ?_ ?_ ?_
  · funext b
    by_cases hab : b = a
    · subst hab
      simp [State.work, WorkView.serviceFreed, WorkView.on, mem_addresses.mp ha, Station.work]
    · simp [State.work, WorkView.serviceFreed, WorkView.on, hab, Ne.symm hab]
  · simp [State.work, WorkView.serviceFreed, WorkView.on]
  · simp [State.work, WorkView.serviceFreed, WorkView.on, State.exchange]
  · funext i
    by_cases hij : i = k
    · simp [State.work, WorkView.serviceFreed, hij]
    · simp [State.work, WorkView.serviceFreed, hij, Ne.symm hij]
  all_goals simp [State.work, WorkView.serviceFreed, WorkView.on]

theorem work_endOperation {a : Nat} (ha : a ∈ addresses) (st : Status) (b : ReplyBody) :
    (s.endOperation a st b).work = s.work.operationEnded a := by
  unfold State.endOperation
  split
  · next none =>
    have none' : (s.work.station a).operation = Option.none := none
    refine WorkView.ext (funext fun c => ?_) rfl rfl rfl rfl ?_ rfl rfl
    · by_cases hca : c = a
      · subst hca
        simp only [WorkView.operationEnded, WorkView.on_station, if_true]
        rw [← none']
      · simp [WorkView.operationEnded, hca]
    · funext t k x
      simp [WorkView.operationEnded, none']
  · next o tag pending =>
    have pending' : (s.work.station a).operation = some (o, tag) := pending
    rw [work_answer, s.work_onStation ha (g := fun r => { r with operation := Option.none }) fun _ => rfl]
    refine WorkView.ext rfl rfl rfl rfl rfl ?_ rfl rfl
    funext t k x
    simp [WorkView.operationEnded, WorkView.answered, WorkView.on, pending', eq_comm]

theorem work_endHostTrim {a : Nat} (ha : a ∈ addresses)
    (one : ∀ t u, s.port.awaits t .trim (some a) → s.port.awaits u .trim (some a) → t = u) (st : Status) (b : ReplyBody) :
    (s.endHostTrim a st b).work = s.work.trimEnded a := by
  unfold State.endHostTrim
  split
  · next flag =>
    have flag' : (s.work.station a).hostTrim = true := flag
    have cleared := s.work_onStation ha (f := fun r => { r with hostTrim := false, refusals := 0 })
      (g := fun r => { r with hostTrim := false }) fun _ => rfl
    unfold State.answerKind
    have port : (s.onStation a fun r => { r with hostTrim := false, refusals := 0 }).port = s.port := rfl
    rw [port]
    split
    · next waiting =>
      rw [cleared]
      refine WorkView.ext rfl rfl rfl rfl rfl ?_ rfl rfl
      funext t k x
      have none : ¬ s.work.awaits t .trim (some a) := fun h => by
        obtain ⟨tag, found⟩ := HostPort.waiting_of_awaits h
        simp [waiting] at found
      simp [WorkView.trimEnded, WorkView.on, none]
    · next tag waiting =>
      rw [work_answer, cleared]
      refine WorkView.ext rfl rfl rfl rfl rfl ?_ rfl rfl
      funext t k x
      have awaited := HostPort.awaits_of_waiting waiting
      have same : s.work.awaits t .trim (some a) ↔ t = tag := ⟨fun h => one _ _ h awaited, fun h => h ▸ awaited⟩
      simp [WorkView.trimEnded, WorkView.on, WorkView.answered, flag', same]
  · next flag =>
    have flag' : (s.work.station a).hostTrim = false := Bool.eq_false_iff.mpr flag
    refine WorkView.ext (funext fun c => ?_) rfl rfl rfl rfl ?_ rfl rfl
    · by_cases hca : c = a
      · subst hca
        simp only [WorkView.trimEnded, WorkView.on_station, if_true]
        rw [← flag']
      · simp [WorkView.trimEnded, hca]
    · funext t k x
      simp [WorkView.trimEnded, flag']

theorem failCalls_awaits (st : Status) : ∀ (es : List Entry) (s : State) (t : Byte) (k : ReqKind) (x : Option Nat),
    (s.failCalls es st).port.awaits t k x ↔ s.port.awaits t k x ∧ ∀ e ∈ es, e.owner = .call → e.tag ≠ t
  | [], s, t, k, x => by simp [State.failCalls]
  | e :: es, s, t, k, x => by
    have step : (s.failCall e st).port.awaits t k x ↔ s.port.awaits t k x ∧ (e.owner = .call → e.tag ≠ t) := by
      unfold State.failCall
      split
      · next call => simp [HostPort.awaits_answer, call, eq_comm]
      · next other => simp [other]
    have rest := failCalls_awaits st es (s.failCall e st) t k x
    rw [State.failCalls, List.foldl_cons, ← State.failCalls, rest, step, and_assoc]
    simp

end State

/-! ### A station whose work ends (R68) -/

/-- The entries of a station's work are those of the queue and the pairs for it. -/
theorem State.mem_workEntries {s : State} {a : Nat} (h : s.work.At a) {e : Entry} :
    e ∈ s.workEntries a ↔ s.work.has e ∧ e.station = a := by
  have flight : s.entryInFlight a = some e ↔ (∃ j, s.work.caller j = some e) ∧ e.station = a := by
    constructor
    · intro found
      obtain ⟨p, field, found⟩ := Option.bind_eq_some_iff.mp found
      cases p with
      | service k => simp at found
      | command j =>
        obtain ⟨d, hd, station⟩ := h.command j field
        obtain rfl := Option.some.inj (hd.symm.trans found)
        exact ⟨⟨j, hd⟩, station⟩
    · rintro ⟨⟨j, hj⟩, station⟩
      have field : (s.station a).exchange = some (.command j) := (h.caller j e hj station).1
      rw [State.entryInFlight, field]
      exact hj
  have queued : e ∈ s.calls.queue.filter (fun e => e.station == a) ↔ e ∈ s.work.queue ∧ e.station = a := by
    simp [State.work]
  rw [State.workEntries, List.mem_append, Option.mem_toList, flight, queued, WorkView.has, or_and_right,
    or_comm]

/-- Once the operation has ended, the disposal answers what is left of the work (R67, R68). -/
theorem State.disposeWork_awaits {s v : State} {a : Nat} (h : s.work.At a) (ha : a ∈ addresses) (w : Status)
    (ended : ∀ t k x, v.port.awaits t k x ↔ s.port.awaits t k x ∧ ∀ o, (s.station a).operation ≠ some (o, t))
    (entries : v.workEntries a = s.workEntries a) (flag : (v.station a).hostTrim = (s.station a).hostTrim) (t : Byte)
    (k : ReqKind) (x : Option Nat) :
    (v.disposeWork a w).port.awaits t k x ↔ s.work.awaits t k x ∧ ¬ s.work.ends a t := by
  have trim : (v.endHostTrim a w .short).port.awaits t k x ↔
      v.port.awaits t k x ∧ ((v.station a).hostTrim = true → ¬ v.port.awaits t .trim (some a)) := by
    have whole := v.work_endHostTrim ha (fun t u ht hu => h.oneTrim t u ((ended ..).mp ht).1 ((ended ..).mp hu).1) w .short
    have same := congrArg (fun u : WorkView => u.awaits t k x) whole
    exact iff_of_eq same
  rw [State.disposeWork_port, State.failCalls_awaits, trim, ended, ended, entries, flag]
  simp only [State.mem_workEntries h]
  have operation : (s.work.station a).operation = (s.station a).operation := rfl
  have hostTrim : (s.work.station a).hostTrim = (s.station a).hostTrim := rfl
  have awaits : s.work.awaits = s.port.awaits := rfl
  rw [WorkView.ends, operation, hostTrim, awaits, not_or, not_or]
  constructor
  · rintro ⟨⟨⟨waits, other⟩, noTrim⟩, noCall⟩
    exact ⟨waits, fun ⟨o, ho⟩ => other o ho, fun ⟨set, trim⟩ => noTrim set ⟨trim, other⟩,
      fun ⟨e, has, station, call, same⟩ => noCall e ⟨has, station⟩ call same⟩
  · rintro ⟨waits, other, noTrim, noCall⟩
    exact ⟨⟨⟨waits, fun o ho => other ⟨o, ho⟩⟩, fun set trim => noTrim ⟨set, trim.1⟩⟩,
      fun e ⟨has, station⟩ call same => noCall ⟨e, has, station, call, same⟩⟩

/-- Steps 1 to 4 of R67, seen from the requests. -/
theorem State.operationEnded_awaits {s : State} {a : Nat} (ha : a ∈ addresses) (new : StationState) (reason : Reason)
    (o : Status) (t : Byte) (k : ReqKind) (x : Option Nat) :
    (s.operationEnded a new reason o).port.awaits t k x ↔
      s.port.awaits t k x ∧ ∀ o, (s.station a).operation ≠ some (o, t) := by
  have whole := (s.moveStation a new reason).work_endOperation ha o .short
  rw [s.work_moveStation ha] at whole
  have same := congrArg (fun u : WorkView => u.awaits t k x) whole
  have operation : ((s.work.moved a new).station a).operation = (s.station a).operation := by
    simp [WorkView.moved, State.work, Station.work]
  refine (iff_of_eq same).trans ?_
  rw [WorkView.operationEnded]
  simp only [operation]
  rfl

theorem State.work_enterAbsent {s : State} {a : Nat} (h : s.work.At a) (ha : a ∈ addresses) (reason : Reason)
    (o w : Status) : (s.enterAbsent a reason o w).work = s.work.retired a .absent := by
  obtain ⟨-, plans, -⟩ := s.enterAbsent_frame a reason o w
  refine WorkView.ext (funext fun b => ?_) (s.enterAbsent_wakes a reason o w).2 (s.enterAbsent_queue a reason o w)
    (funext fun j => ?_) (funext fun k => s.enterAbsent_held a reason o w k) ?_
    (s.enterAbsent_answering a reason o w).kept.2.1 (by simp only [State.work, plans]; rfl)
  · change ((s.enterAbsent a reason o w).station b).work = _
    rw [State.enterAbsent_station]
    by_cases hab : b = a
    · subst hab
      simp [WorkView.retired, mem_addresses.mp ha, Station.work, Station.clear]
    · rw [if_neg fun h => hab h.1.symm]
      simp [WorkView.retired, hab, State.work]
  · exact (congrArg (Option.map Exchange.entry) (s.enterAbsent_exchange a reason o w j)).trans (apply_ite ..)
  · funext t k x
    have cleared := (s.operationEnded a .absent reason o).clearStation_frame a
    obtain ⟨entries, flag⟩ := s.operationEnded_work a .absent reason o
    refine propext (State.disposeWork_awaits (v := (s.operationEnded a .absent reason o).clearStation a) h ha w ?_ ?_ ?_ t k x)
    · exact fun t k x => State.operationEnded_awaits ha .absent reason o t k x
    · rw [← entries, State.workEntries, State.workEntries, cleared.2.2.2.1,
        State.entryInFlight_congr (State.clearStation_exchange_field ..) cleared.2.2.2.2.2.2.2.1]
    · rw [← flag, State.clearStation_station]
      split <;> rfl

theorem State.work_enterFaulted {s : State} {a : Nat} (h : s.work.At a) (ha : a ∈ addresses)
    (asleep : a ∉ s.stations.wakeQueue) (still : (s.station a).wakeCountdown = none) (reason : Reason) (o w : Status) :
    (s.enterFaulted a reason o w).work = s.work.retired a .faulted := by
  obtain ⟨-, plans, -⟩ := s.enterFaulted_frame a reason o w
  have queue : (s.enterFaulted a reason o w).calls.queue = s.calls.queue.filter (fun e => e.station != a) := by
    rw [State.enterFaulted_eq, State.disposeWork_queue, (s.operationEnded_frame a .faulted reason o).2.2.2.1]
  have wakes : s.stations.wakeQueue.filter (· != a) = s.stations.wakeQueue :=
    List.filter_eq_self.mpr fun b hb => by simpa using fun same : b = a => asleep (same ▸ hb)
  refine WorkView.ext (funext fun b => ?_) ((s.enterFaulted_wakes a reason o w).2.trans wakes.symm) queue
    (funext fun j => ?_) (funext fun k => s.enterFaulted_held a reason o w k) ?_
    (s.enterFaulted_answering a reason o w).kept.2.1 (by simp only [State.work, plans]; rfl)
  · change ((s.enterFaulted a reason o w).station b).work = _
    rw [State.enterFaulted_station]
    by_cases hab : b = a
    · subst hab
      simp [WorkView.retired, mem_addresses.mp ha, Station.work, still]
    · rw [if_neg fun h => hab h.1.symm]
      simp [WorkView.retired, hab, State.work]
  · exact (congrArg (Option.map Exchange.entry) (s.enterFaulted_exchange a reason o w j)).trans (apply_ite ..)
  · funext t k x
    obtain ⟨entries, flag⟩ := s.operationEnded_work a .faulted reason o
    exact propext (State.disposeWork_awaits h ha w (State.operationEnded_awaits ha .faulted reason o) entries flag t k x)

end Sys2Proof.Machine
end

section

namespace Sys2Proof.Machine

namespace WorkView

/-! ## The work of one station, clause by clause (R64, R69, R80, R105, R111) -/

/-- The exchanges of a station (R69, R97, R115). -/
structure PairsAt (v : WorkView) (a : Nat) : Prop where
  caller : ∀ j e, v.caller j = some e → e.station = a →
    (v.station a).exchange = some (.command j) ∧ (v.station a).state = e.owner.needs
  trim : ∀ k, v.held k = some a → (v.station a).exchange = some (.service k) ∧ (v.station a).state = .active
  service : ∀ k, (v.station a).exchange = some (.service k) → (v.station a).state = .active
  command : ∀ j, (v.station a).exchange = some (.command j) → ∃ e, v.caller j = some e ∧ e.station = a

/-- The wake of a station (R80, R81). -/
structure WakesAt (v : WorkView) (a : Nat) : Prop where
  queued : a ∈ v.wakes → goodStation a = true ∧ (v.station a).state = .waking ∧ (v.station a).counting = false ∧
    v.noProbe a
  counting : (v.station a).counting = true → (v.station a).state = .waking ∧ v.noProbe a

/-- The host TRIM of a station (R105, R108). -/
structure TrimsAt (v : WorkView) (a : Nat) : Prop where
  flag : (v.station a).hostTrim = true → ((v.station a).state = .active ∨ (v.station a).state = .trimming) ∧
    (v.restarting = true ∨ ∃ tag, v.awaits tag .trim (some a))
  one : ∀ t u, v.awaits t .trim (some a) → v.awaits u .trim (some a) → t = u
  held : ∀ tag, v.awaits tag .trim (some a) → (v.station a).hostTrim = true

/-- The pending operation of a station (R64). -/
structure OperationAt (v : WorkView) (a : Nat) : Prop where
  owned : ∀ o tag, (v.station a).operation = some (o, tag) →
    v.awaits tag o.request (some a) ∧ (v.station a).state ∈ o.states
  held : ∀ tag (o : Operation), v.awaits tag o.request (some a) → (v.station a).operation = some (o, tag)

/-- The entries of a station (R111, R113). -/
structure EntriesAt (v : WorkView) (a : Nat) : Prop where
  entry : ∀ e, v.has e → e.station = a → v.OwnsEntry e
  held : ∀ tag, v.awaits tag .call (some a) → ∃ e, v.has e ∧ e.station = a ∧ e.tag = tag

variable {v w : WorkView} {a : Nat}

theorem At.pairs (h : v.At a) : v.PairsAt a := ⟨h.caller, h.trim, h.service, h.command⟩
theorem At.wake (h : v.At a) : v.WakesAt a := ⟨h.queued, h.counting⟩
theorem At.trims (h : v.At a) : v.TrimsAt a := ⟨h.flag, h.oneTrim, h.trimHeld⟩
theorem At.operations (h : v.At a) : v.OperationAt a := ⟨h.operation, h.operationHeld⟩
theorem At.entries (h : v.At a) : v.EntriesAt a := ⟨h.entry, h.callHeld⟩

theorem At.of_parts (pairs : v.PairsAt a) (wake : v.WakesAt a) (trims : v.TrimsAt a) (operations : v.OperationAt a)
    (entries : v.EntriesAt a) : v.At a where
  entry := entries.entry
  caller := pairs.caller
  trim := pairs.trim
  service := pairs.service
  command := pairs.command
  operation := operations.owned
  queued := wake.queued
  counting := wake.counting
  flag := trims.flag
  oneTrim := trims.one
  callHeld := entries.held
  operationHeld := operations.held
  trimHeld := trims.held

theorem noProbe.mono (h : v.noProbe a) (has : ∀ e, e.station = a → w.has e → v.has e) : w.noProbe a :=
  fun e he probe station => h e (has e station he) probe station

/-! ### Clauses that a change leaves -/

theorem PairsAt.congr (h : v.PairsAt a)
    (caller : ∀ j e, e.station = a → (w.caller j = some e ↔ v.caller j = some e))
    (held : ∀ k, w.held k = some a → v.held k = some a) (exchange : (w.station a).exchange = (v.station a).exchange)
    (state : (w.station a).state = (v.station a).state) : w.PairsAt a where
  caller j e he station := by
    rw [exchange, state]
    exact h.caller j e ((caller j e station).mp he) station
  trim k hk := by
    rw [exchange, state]
    exact h.trim k (held k hk)
  service k hk := state ▸ h.service k (exchange ▸ hk)
  command j hj := by
    obtain ⟨e, he, station⟩ := h.command j (exchange ▸ hj)
    exact ⟨e, (caller j e station).mpr he, station⟩

/-- A station with no exchange in flight. -/
theorem PairsAt.of_idle (exchange : (w.station a).exchange = none) (caller : ∀ j e, w.caller j = some e → e.station ≠ a)
    (held : ∀ k, w.held k ≠ some a) : w.PairsAt a where
  caller j e he station := absurd station (caller j e he)
  trim k hk := absurd hk (held k)
  service k hk := by simp [exchange] at hk
  command j hj := by simp [exchange] at hj

theorem PairsAt.no_caller (h : v.PairsAt a) (idle : (v.station a).exchange = none) (j : Nat) (e : Entry)
    (he : v.caller j = some e) : e.station ≠ a := fun station => by
  simp [(h.caller j e he station).1] at idle

theorem PairsAt.not_held (h : v.PairsAt a) (idle : (v.station a).exchange = none) (k : Nat) : v.held k ≠ some a :=
  fun held => by simp [(h.trim k held).1] at idle

/-- Where no exchange is in flight the state is free to change. -/
theorem PairsAt.idle (h : v.PairsAt a) (none : (v.station a).exchange = none)
    (exchange : (w.station a).exchange = Option.none) (caller : w.caller = v.caller) (held : w.held = v.held) :
    w.PairsAt a :=
  .of_idle exchange (fun j e he => h.no_caller none j e (caller ▸ he)) (fun k hk => h.not_held none k (held ▸ hk))

theorem WakesAt.mono (h : v.WakesAt a) (wakes : a ∈ w.wakes → a ∈ v.wakes)
    (counting : (w.station a).counting = true → (v.station a).counting = true)
    (state : (w.station a).state = (v.station a).state) (has : ∀ e, e.station = a → w.has e → v.has e) : w.WakesAt a where
  queued ha := by
    obtain ⟨good, waking, still, quiet⟩ := h.queued (wakes ha)
    refine ⟨good, state ▸ waking, Bool.eq_false_iff.mpr fun going => ?_, quiet.mono has⟩
    simp [counting going] at still
  counting hc := by
    obtain ⟨waking, quiet⟩ := h.counting (counting hc)
    exact ⟨state ▸ waking, quiet.mono has⟩

/-- A station that neither waits to be woken nor counts. -/
theorem WakesAt.of_still (asleep : a ∉ w.wakes) (still : (w.station a).counting = false) : w.WakesAt a where
  queued ha := absurd ha asleep
  counting hc := by simp [still] at hc

theorem WakesAt.asleep (h : v.WakesAt a) (other : (v.station a).state ≠ .waking) :
    a ∉ v.wakes ∧ (v.station a).counting = false :=
  ⟨fun ha => other (h.queued ha).2.1, Bool.eq_false_iff.mpr fun hc => other (h.counting hc).1⟩

theorem TrimsAt.congr (h : v.TrimsAt a) (hostTrim : (w.station a).hostTrim = (v.station a).hostTrim)
    (state : (v.station a).hostTrim = true → (w.station a).state = .active ∨ (w.station a).state = .trimming)
    (restarting : w.restarting = v.restarting) (awaits : ∀ t, w.awaits t .trim (some a) ↔ v.awaits t .trim (some a)) :
    w.TrimsAt a where
  flag hf := by
    rw [hostTrim] at hf
    simp only [restarting, awaits]
    exact ⟨state hf, (h.flag hf).2⟩
  one t u ht hu := h.one t u ((awaits t).mp ht) ((awaits u).mp hu)
  held t ht := hostTrim ▸ h.held t ((awaits t).mp ht)

theorem OperationAt.congr (h : v.OperationAt a) (operation : (w.station a).operation = (v.station a).operation)
    (state : ∀ o tag, (v.station a).operation = some (o, tag) → (v.station a).state ∈ o.states →
      (w.station a).state ∈ o.states)
    (awaits : ∀ t (o : Operation), w.awaits t o.request (some a) ↔ v.awaits t o.request (some a)) : w.OperationAt a where
  owned o tag ho := by
    rw [operation] at ho
    obtain ⟨waits, here⟩ := h.owned o tag ho
    exact ⟨(awaits tag o).mpr waits, state o tag ho here⟩
  held t o ht := operation ▸ h.held t o ((awaits t o).mp ht)

theorem OperationAt.of_none (operation : (w.station a).operation = none)
    (gone : ∀ t (o : Operation), ¬ w.awaits t o.request (some a)) : w.OperationAt a where
  owned o tag ho := by simp [operation] at ho
  held t o ht := absurd ht (gone t o)

/-- Some entries of the station leave, the others stay with their requests. -/
theorem EntriesAt.shrink (h : v.EntriesAt a) (has : ∀ e, e.station = a → w.has e → v.has e)
    (awaits : ∀ e, e.station = a → w.has e → v.awaits e.tag e.owner.request (some a) →
      w.awaits e.tag e.owner.request (some a))
    (operation : ∀ e, e.station = a → w.has e → ∀ o ∈ e.owner.operation,
      (w.station a).operation = (v.station a).operation)
    (takes : ∀ e, e.station = a → w.has e → e.owner = .call → (v.station a).state.takesCalls = true →
      (w.station a).state.takesCalls = true)
    (held : ∀ t, w.awaits t .call (some a) → v.awaits t .call (some a) ∧
      ∀ e, v.has e → e.station = a → e.tag = t → w.has e) : w.EntriesAt a where
  entry e he station := by
    subst station
    obtain ⟨good, waits, beside, calls⟩ := h.entry e (has e rfl he) rfl
    exact ⟨good, awaits e rfl he waits, fun o ho => (operation e rfl he o ho).trans (beside o ho),
      fun call => takes e rfl he call (calls call)⟩
  held t ht := by
    obtain ⟨before, stays⟩ := held t ht
    obtain ⟨e, he, station, tag⟩ := h.held t before
    exact ⟨e, stays e he station tag, station, tag⟩

/-- Nothing of the station's entries changes; its state may, if it still takes what is there. -/
theorem EntriesAt.congr (h : v.EntriesAt a) (has : ∀ e, e.station = a → (w.has e ↔ v.has e))
    (awaits : ∀ e, e.station = a → v.has e → v.awaits e.tag e.owner.request (some a) →
      w.awaits e.tag e.owner.request (some a))
    (calls : ∀ t, w.awaits t .call (some a) → v.awaits t .call (some a))
    (operation : ∀ e, e.station = a → v.has e → ∀ o ∈ e.owner.operation,
      (w.station a).operation = (v.station a).operation)
    (takes : ∀ e, e.station = a → v.has e → e.owner = .call → (v.station a).state.takesCalls = true →
      (w.station a).state.takesCalls = true) : w.EntriesAt a :=
  h.shrink (fun e station => (has e station).mp) (fun e station he => awaits e station ((has e station).mp he))
    (fun e station he => operation e station ((has e station).mp he))
    (fun e station he => takes e station ((has e station).mp he))
    (fun t ht => ⟨calls t ht, fun e he station _ => (has e station).mpr he⟩)

/-! ### The other stations -/

/-- Nothing but the work of station a changes. -/
structure Aside (a : Nat) (v w : WorkView) : Prop where
  station : ∀ b, b ≠ a → w.station b = v.station b
  wakes : ∀ b, b ≠ a → b ∈ w.wakes → b ∈ v.wakes
  has : ∀ e, e.station ≠ a → (w.has e ↔ v.has e)
  caller : ∀ j e, e.station ≠ a → (w.caller j = some e ↔ v.caller j = some e)
  held : ∀ k b, b ≠ a → w.held k = some b → v.held k = some b
  awaits : ∀ t k x, x ≠ some a → (w.awaits t k x ↔ v.awaits t k x)
  restarting : w.restarting = v.restarting
  commit : w.commit = v.commit

theorem At.aside (aside : Aside a v w) {b : Nat} (other : b ≠ a) (h : v.At b) : w.At b := by
  have here : ∀ e : Entry, e.station = b → e.station ≠ a := fun e station => station ▸ other
  have target : some b ≠ some a := by simpa using other
  have station := aside.station b other
  refine .of_parts (h.pairs.congr (fun j e he => aside.caller j e (here e he)) (fun k => aside.held k b other)
      (by rw [station]) (by rw [station]))
    (h.wake.mono (aside.wakes b other) (by rw [station]; exact id) (by rw [station])
      fun e he => (aside.has e (here e he)).mp)
    (h.trims.congr (by rw [station]) (fun hf => ?_) aside.restarting fun t => aside.awaits _ _ _ target)
    (h.operations.congr (by rw [station]) (fun o tag _ => by rw [station]; exact id) fun t o => aside.awaits _ _ _ target)
    (h.entries.congr (fun e he => aside.has e (here e he)) (fun e _ _ => (aside.awaits _ _ _ target).mpr)
      (fun t => (aside.awaits _ _ _ target).mp) (fun e _ _ o _ => by rw [station]) (fun e _ _ _ => by rw [station]; exact id))
  rw [station]
  exact (h.flag hf).1

/-- Work only leaves. -/
structure Shrinks (v w : WorkView) : Prop where
  queue : w.queue.Sublist v.queue
  caller : ∀ j e, w.caller j = some e → v.caller j = some e
  wakes : w.wakes.Sublist v.wakes
  awaits : ∀ t k x, w.awaits t k x → v.awaits t k x

theorem Shrinks.has (h : Shrinks v w) {e : Entry} (he : w.has e) : v.has e :=
  he.imp (fun mem => h.queue.subset mem) fun ⟨j, hj⟩ => ⟨j, h.caller j e hj⟩

/-- Where work only leaves, and of one station alone, that station decides. -/
theorem Owned.shrink (h : v.Owned) (aside : Aside a v w) (shrinks : Shrinks v w) (at_ : w.At a) : w.Owned where
  queueApart := (shrinks.queue.map _).nodup h.queueApart
  pairsApart i j d e hd he := h.pairsApart i j d e (shrinks.caller i d hd) (shrinks.caller j e he)
  bothApart d hd j e he := h.bothApart d (shrinks.queue.subset hd) j e (shrinks.caller j e he)
  once := shrinks.wakes.nodup h.once
  single t k l x y hk hl := h.single t k l x y (shrinks.awaits t k x hk) (shrinks.awaits t l y hl)
  targets t k x hk := h.targets t k x (shrinks.awaits t k x hk)
  commit t ht := (aside.awaits t .commit none (by simp)).mpr (h.commit t (aside.commit ▸ ht))
  station b := by
    by_cases here : b = a
    · exact here ▸ at_
    · exact (h.station b).aside aside here

/-! ### Entries and their tags -/

/-- Entries with one tag are the same. -/
theorem Owned.entry_eq (h : v.Owned) {d e : Entry} (hd : v.has d) (he : v.has e) (same : d.tag = e.tag) : d = e := by
  obtain hd | ⟨i, hi⟩ := hd
  · obtain he | ⟨j, hj⟩ := he
    · exact List.inj_on_of_nodup_map h.queueApart hd he same
    · exact absurd same (h.bothApart d hd j e hj)
  · obtain he | ⟨j, hj⟩ := he
    · exact absurd same.symm (h.bothApart e he i d hi)
    · obtain rfl := h.pairsApart i j d e hi hj same
      exact Option.some.inj (hi.symm.trans hj)

theorem Owned.owns (h : v.Owned) {e : Entry} (he : v.has e) : v.OwnsEntry e := (h.station e.station).entry e he rfl

/-- The entry of a tag that a request awaits is of that request's kind and station. -/
theorem Owned.entry_of_awaits (h : v.Owned) {e : Entry} (he : v.has e) {t : Byte} {k : ReqKind} {x : Option Nat}
    (tag : e.tag = t) (awaits : v.awaits t k x) : e.owner.request = k ∧ x = some e.station := by
  obtain ⟨kind, target⟩ := h.single _ _ _ _ _ (h.owns he).awaits (tag ▸ awaits)
  exact ⟨kind, target.symm⟩

/-- Beside a CALL the entries of a station carry the tag of its pending operation. -/
theorem Owned.entry_operation (h : v.Owned) {e : Entry} (he : v.has e) (other : e.owner ≠ .call) :
    ∃ o, (v.station e.station).operation = some (o, e.tag) ∧ o.request = e.owner.request := by
  obtain ⟨call, -⟩ | ⟨p, hp, request, -⟩ := e.owner.cases_operation
  · exact absurd call other
  · exact ⟨p, (h.owns he).operation p hp, request⟩

/-- The end of a station's work answers requests of that station. -/
theorem Owned.ends_awaits (h : v.Owned) {t : Byte} (ends : v.ends a t) : ∃ k, v.awaits t k (some a) := by
  obtain ⟨o, ho⟩ | ⟨-, trim⟩ | ⟨e, he, rfl, -, rfl⟩ := ends
  · exact ⟨_, ((h.station a).operation o t ho).1⟩
  · exact ⟨_, trim⟩
  · exact ⟨_, (h.owns he).awaits⟩

/-- A request of one station is not of another. -/
theorem Owned.apart (h : v.Owned) {t : Byte} {k l : ReqKind} {x : Option Nat} (here : v.awaits t k (some a))
    (there : v.awaits t l x) : x = some a := (h.single t l k x _ there here).2

/-! ## The station retires (R68) -/

theorem retired_has {new : StationState} (h : v.Owned) {e : Entry} :
    (v.retired a new).has e ↔ v.has e ∧ e.station ≠ a := by
  constructor
  · rintro (mem | ⟨j, hj⟩)
    · obtain ⟨mem, other⟩ := List.mem_filter.mp mem
      exact ⟨.inl mem, by simpa using other⟩
    · simp only [retired] at hj
      split at hj
      · simp at hj
      · next free => exact ⟨.inr ⟨j, hj⟩, fun station => free ((h.station a).caller j e hj station).1⟩
  · rintro ⟨mem | ⟨j, hj⟩, other⟩
    · exact .inl (List.mem_filter.mpr ⟨mem, by simpa using other⟩)
    · refine .inr ⟨j, ?_⟩
      simp only [retired]
      split
      · next field =>
        obtain ⟨d, hd, station⟩ := (h.station a).command j field
        exact absurd (Option.some.inj (hd.symm.trans hj) ▸ station) other
      · exact hj

theorem Owned.retired (h : v.Owned) (a : Nat) (new : StationState) : (v.retired a new).Owned := by
  have none : ∀ e, (v.retired a new).has e → e.station ≠ a := fun e he => ((retired_has h).mp he).2
  refine h.shrink (a := a) ⟨fun b other => if_neg other, fun b _ mem => (List.mem_filter.mp mem).1, fun e other => ?_,
    fun j e other => ?_, fun k b other hk => ?_, fun t k x other => ?_, rfl, rfl⟩
    ⟨List.filter_sublist, fun j e hj => ?_, List.filter_sublist, fun t k x => And.left⟩ (.of_parts ?_ ?_ ?_ ?_ ?_)
  · exact (retired_has h).trans (and_iff_left other)
  · simp only [WorkView.retired]
    split
    · next field =>
      obtain ⟨d, hd, station⟩ := (h.station a).command j field
      refine ⟨fun hj => by simp at hj, fun hj => ?_⟩
      exact absurd (Option.some.inj (hd.symm.trans hj) ▸ station) other
    · exact Iff.rfl
  · simp only [WorkView.retired] at hk
    split at hk
    · simp at hk
    · exact hk
  · refine ⟨And.left, fun waits => ⟨waits, fun ends => ?_⟩⟩
    obtain ⟨l, here⟩ := h.ends_awaits ends
    exact other (h.apart here waits)
  · simp only [WorkView.retired] at hj
    split at hj
    · simp at hj
    · exact hj
  · refine .of_idle (by simp [WorkView.retired]) (fun j e he => none e (.inr ⟨j, he⟩)) fun k hk => ?_
    simp only [WorkView.retired] at hk
    split at hk
    · simp at hk
    · next free => exact free ((h.station a).trim k hk).1
  · exact .of_still (fun mem => by simpa using (List.mem_filter.mp mem).2) (by simp [WorkView.retired])
  · refine ⟨fun hf => by simp [WorkView.retired] at hf, fun t u ht hu => (h.station a).oneTrim t u ht.1 hu.1, fun t ht => ?_⟩
    exact absurd (.inr (.inl ⟨(h.station a).trimHeld t ht.1, ht.1⟩)) ht.2
  · exact .of_none (by simp [WorkView.retired]) fun t o ht => ht.2 (.inl ⟨o, (h.station a).operationHeld t o ht.1⟩)
  · refine ⟨fun e he station => absurd station (none e he), fun t ht => ?_⟩
    obtain ⟨e, he, station, tag⟩ := (h.station a).callHeld t ht.1
    have call : e.owner = .call := OwnerKind.request_eq_call (h.entry_of_awaits he tag ht.1).1
    exact absurd (.inr (.inr ⟨e, he, station, call, tag⟩)) ht.2

end WorkView

end Sys2Proof.Machine
end

section

namespace Sys2Proof.Machine

namespace WorkView

variable {v w : WorkView} {a : Nat}

/-! ## Exchanges, operations and host TRIMs end -/

theorem Aside.trans {u : WorkView} (h : Aside a v w) (k : Aside a w u) : Aside a v u where
  station b other := (k.station b other).trans (h.station b other)
  wakes b other := h.wakes b other ∘ k.wakes b other
  has e other := (k.has e other).trans (h.has e other)
  caller j e other := (k.caller j e other).trans (h.caller j e other)
  held i b other := h.held i b other ∘ k.held i b other
  awaits t l x other := (k.awaits t l x other).trans (h.awaits t l x other)
  restarting := k.restarting.trans h.restarting
  commit := k.commit.trans h.commit

theorem Shrinks.trans {u : WorkView} (h : Shrinks v w) (k : Shrinks w u) : Shrinks v u where
  queue := k.queue.trans h.queue
  caller j e := h.caller j e ∘ k.caller j e
  wakes := k.wakes.trans h.wakes
  awaits t l x := h.awaits t l x ∘ k.awaits t l x

/-- A change of one station's record. -/
theorem on_aside (v : WorkView) (a : Nat) (g : StationWork → StationWork) : Aside a v (v.on a g) :=
  ⟨fun _ other => if_neg other, fun _ _ => id, fun _ _ => Iff.rfl, fun _ _ _ => Iff.rfl, fun _ _ _ => id,
    fun _ _ _ _ => Iff.rfl, rfl, rfl⟩

theorem on_shrinks (v : WorkView) (a : Nat) (g : StationWork → StationWork) : Shrinks v (v.on a g) :=
  ⟨.refl _, fun _ _ => id, .refl _, fun _ _ _ => id⟩

/-! ### A command pair is freed (R117) -/

section
variable {j : Nat} {e : Entry} (h : v.Owned) (hj : v.caller j = some e)
include h hj

theorem pairFreed_has {d : Entry} : (v.pairFreed j a).has d ↔ v.has d ∧ d.tag ≠ e.tag := by
  constructor
  · rintro (mem | ⟨i, hi⟩)
    · exact ⟨.inl mem, h.bothApart d mem j e hj⟩
    · simp only [pairFreed] at hi
      split at hi
      · simp at hi
      · next other => exact ⟨.inr ⟨i, hi⟩, fun same => other (h.pairsApart i j d e hi hj same)⟩
  · rintro ⟨mem | ⟨i, hi⟩, other⟩
    · exact .inl mem
    · refine .inr ⟨i, ?_⟩
      simp only [pairFreed]
      split
      · next here =>
        subst here
        exact absurd (congrArg Entry.tag (Option.some.inj (hi.symm.trans hj))) other
      · exact hi

theorem pairFreed_aside : Aside e.station v (v.pairFreed j e.station) := by
  refine ⟨fun _ other => if_neg other, fun _ _ => id, fun d other => ?_, fun i d other => ?_, fun _ _ _ => id,
    fun _ _ _ _ => Iff.rfl, rfl, rfl⟩
  · refine (pairFreed_has h hj).trans (and_iff_left_of_imp fun hd same => other ?_)
    rw [h.entry_eq hd (.inr ⟨j, hj⟩) same]
  · simp only [pairFreed]
    split
    · next here =>
      subst here
      refine ⟨fun hd => by simp at hd, fun hd => ?_⟩
      exact absurd (congrArg Entry.station (Option.some.inj (hd.symm.trans hj))) other
    · exact Iff.rfl

omit h hj in
theorem pairFreed_shrinks (v : WorkView) (j a : Nat) : Shrinks v (v.pairFreed j a) := by
  refine ⟨.refl _, fun i d hi => ?_, .refl _, fun _ _ _ => id⟩
  simp only [pairFreed] at hi
  split at hi
  · simp at hi
  · exact hi

/-- The station of the freed pair has no other exchange. -/
theorem pairFreed_pairs : (v.pairFreed j e.station).PairsAt e.station := by
  have field := ((h.station e.station).caller j e hj rfl).1
  refine .of_idle (by simp [pairFreed]) (fun i d hi station => ?_) fun k hk => ?_
  · simp only [pairFreed] at hi
    split at hi
    · simp at hi
    · next other =>
      have named := ((h.station e.station).caller i d hi station).1
      rw [field] at named
      exact other (PairRef.command.inj (Option.some.inj named)).symm
  · have held : v.held k = some e.station := hk
    simp [((h.station e.station).trim k held).1] at field

omit hj in
theorem pairFreed_entries
    (held : w.station = (v.pairFreed j e.station).station) (has : ∀ d, w.has d ↔ v.has d ∧ d.tag ≠ e.tag)
    (awaits : ∀ t k, t ≠ e.tag → (w.awaits t k (some e.station) ↔ v.awaits t k (some e.station)))
    (ended : ¬ w.awaits e.tag .call (some e.station)) : w.EntriesAt e.station := by
  have fields : (w.station e.station).operation = (v.station e.station).operation ∧
      (w.station e.station).state = (v.station e.station).state := by simp [held, pairFreed]
  obtain ⟨operation, state⟩ := fields
  refine (h.station e.station).entries.shrink (fun d _ hd => ((has d).mp hd).1)
    (fun d _ hd => (awaits _ _ ((has d).mp hd).2).mpr) (fun _ _ _ _ _ => operation)
    (fun _ _ _ _ => by rw [state]; exact id) fun t ht => ?_
  have other : t ≠ e.tag := fun same => ended (same ▸ ht)
  exact ⟨(awaits t _ other).mp ht, fun d hd _ tag => (has d).mpr ⟨hd, tag ▸ other⟩⟩

/-- The exchange of a pending operation is over; the operation stays (R122). -/
theorem Owned.pairFreed (other : e.owner ≠ .call) : (v.pairFreed j e.station).Owned := by
  have has : ∀ d, (v.pairFreed j e.station).has d → v.has d := fun d hd => ((pairFreed_has h hj).mp hd).1
  have record : (v.pairFreed j e.station).station e.station = { v.station e.station with exchange := none } := if_pos rfl
  refine h.shrink (pairFreed_aside h hj) (pairFreed_shrinks ..) (.of_parts (pairFreed_pairs h hj) ?_ ?_ ?_ ?_)
  · exact (h.station _).wake.mono id (by rw [record]; exact id) (by rw [record]) fun d _ => has d
  · exact (h.station _).trims.congr (by rw [record]) (fun hf => by rw [record]; exact ((h.station _).flag hf).1) rfl
      fun _ => Iff.rfl
  · exact (h.station _).operations.congr (by rw [record]) (fun _ _ _ => by rw [record]; exact id) fun _ _ => Iff.rfl
  · refine pairFreed_entries h rfl (fun d => pairFreed_has h hj) (fun _ _ _ => Iff.rfl) fun call => other ?_
    exact OwnerKind.request_eq_call (h.entry_of_awaits (.inr ⟨j, hj⟩) rfl call).1

/-- The exchange of a CALL is over and the CALL is answered (R124). -/
theorem Owned.callEnded (call : e.owner = .call) : ((v.pairFreed j e.station).answered e.tag).Owned := by
  have owns := h.owns (.inr ⟨j, hj⟩)
  have has : ∀ d, ((v.pairFreed j e.station).answered e.tag).has d ↔ v.has d ∧ d.tag ≠ e.tag := fun d =>
    pairFreed_has (a := e.station) h hj
  have record : (v.pairFreed j e.station).station e.station = { v.station e.station with exchange := none } := if_pos rfl
  have kind : ∀ {k}, v.awaits e.tag k (some e.station) → k = .call := fun waits =>
    (h.single _ _ _ _ _ waits owns.awaits).1.trans (by rw [call]; rfl)
  have answered : Aside e.station (v.pairFreed j e.station) ((v.pairFreed j e.station).answered e.tag) := by
    refine ⟨fun _ _ => rfl, fun _ _ => id, fun _ _ => Iff.rfl, fun _ _ _ => Iff.rfl, fun _ _ _ => id,
      fun t k x other => ⟨And.left, fun waits => ⟨waits, ?_⟩⟩, rfl, rfl⟩
    rintro rfl
    exact other (h.apart owns.awaits waits)
  refine h.shrink ((pairFreed_aside h hj).trans answered)
    ((pairFreed_shrinks ..).trans ⟨.refl _, fun _ _ => id, .refl _, fun _ _ _ => And.left⟩) (.of_parts ?_ ?_ ?_ ?_ ?_)
  · exact (pairFreed_pairs h hj).congr (fun _ _ _ => Iff.rfl) (fun _ => id) rfl rfl
  · exact (h.station _).wake.mono id (by simp only [WorkView.answered, record]; exact id) (by simp only [WorkView.answered, record])
      fun d _ hd => ((has d).mp hd).1
  · refine (h.station _).trims.congr (by simp only [WorkView.answered, record])
      (fun hf => by simp only [WorkView.answered, record]; exact ((h.station _).flag hf).1) rfl
      fun t => ⟨And.left, fun waits => ⟨waits, ?_⟩⟩
    rintro rfl
    simpa using kind waits
  · refine (h.station _).operations.congr (by simp only [WorkView.answered, record])
      (fun _ _ _ => by simp only [WorkView.answered, record]; exact id) fun t o => ⟨And.left, fun waits => ⟨waits, ?_⟩⟩
    rintro rfl
    exact o.request_ne_call (kind waits)
  · exact pairFreed_entries (j := j) h rfl has (fun t k other => ⟨And.left, fun waits => ⟨waits, other⟩⟩) fun waits => waits.2 rfl

end

/-! ### A service pair is freed (R99) -/

theorem Owned.serviceFreed (h : v.Owned) {k : Nat} (hk : v.held k = some a) : (v.serviceFreed k a).Owned := by
  obtain ⟨field, active⟩ := (h.station a).trim k hk
  have record : (v.serviceFreed k a).station a = { v.station a with exchange := none } := if_pos rfl
  have kept : ∀ i b, (v.serviceFreed k a).held i = some b → v.held i = some b ∧ i ≠ k := fun i b hi => by
    simp only [WorkView.serviceFreed] at hi
    split at hi
    · simp at hi
    · next other => exact ⟨hi, other⟩
  refine h.shrink (a := a) ⟨fun _ other => if_neg other, fun _ _ => id, fun _ _ => Iff.rfl, fun _ _ _ => Iff.rfl,
    fun i b _ hi => (kept i b hi).1, fun _ _ _ _ => Iff.rfl, rfl, rfl⟩
    ⟨.refl _, fun _ _ => id, .refl _, fun _ _ _ => id⟩ (.of_parts (.of_idle ?_ (fun i e hi station => ?_) fun i hi => ?_) ?_ ?_
      ?_ ?_)
  · simp [record]
  · simp [((h.station a).caller i e hi station).1] at field
  · obtain ⟨held, other⟩ := kept i a hi
    have named := ((h.station a).trim i held).1
    rw [field] at named
    exact other (PairRef.service.inj (Option.some.inj named)).symm
  · exact (h.station a).wake.mono id (by rw [record]; exact id) (by rw [record]) fun _ _ => id
  · exact (h.station a).trims.congr (by rw [record]) (fun hf => by rw [record]; exact ((h.station a).flag hf).1) rfl
      fun _ => Iff.rfl
  · exact (h.station a).operations.congr (by rw [record]) (fun _ _ _ => by rw [record]; exact id) fun _ _ => Iff.rfl
  · exact (h.station a).entries.congr (fun _ _ => Iff.rfl) (fun _ _ _ => id) (fun _ => id)
      (fun _ _ _ _ _ => by rw [record]) (fun _ _ _ _ => by rw [record]; exact id)

/-! ### A host TRIM is answered (R106 to R108) -/

theorem Owned.trimEnded (h : v.Owned) (a : Nat) : (v.trimEnded a).Owned := by
  have record : (v.trimEnded a).station a = { v.station a with hostTrim := false } := if_pos rfl
  have stays : ∀ {t k x}, k ≠ .trim → v.awaits t k x → (v.trimEnded a).awaits t k x := fun other waits =>
    ⟨waits, fun _ trim => other (h.single _ _ _ _ _ waits trim).1⟩
  refine h.shrink (a := a) ⟨fun _ other => if_neg other, fun _ _ => id, fun _ _ => Iff.rfl, fun _ _ _ => Iff.rfl,
    fun _ _ _ => id, fun t k x other => ⟨And.left, fun waits => ⟨waits, fun _ trim => other (h.apart trim waits)⟩⟩, rfl, rfl⟩
    ⟨.refl _, fun _ _ => id, .refl _, fun _ _ _ => And.left⟩ (.of_parts ?_ ?_ ?_ ?_ ?_)
  · exact (h.station a).pairs.congr (fun _ _ _ => Iff.rfl) (fun _ => id) (by rw [record]) (by rw [record])
  · exact (h.station a).wake.mono id (by rw [record]; exact id) (by rw [record]) fun _ _ => id
  · refine ⟨fun hf => by simp [record] at hf, fun t u ht hu => (h.station a).oneTrim t u ht.1 hu.1, fun t ht => ?_⟩
    exact absurd ht.1 (ht.2 ((h.station a).trimHeld t ht.1))
  · exact (h.station a).operations.congr (by rw [record]) (fun _ _ _ => by rw [record]; exact id)
      fun t o => ⟨And.left, stays o.request_ne_trim⟩
  · exact (h.station a).entries.congr (fun _ _ => Iff.rfl) (fun e _ _ => stays e.owner.request_ne_trim) (fun _ => And.left)
      (fun _ _ _ _ _ => by rw [record]) (fun _ _ _ _ => by rw [record]; exact id)

/-! ### A change of state (R66) -/

theorem moved_self (v : WorkView) (a : Nat) : v.moved a (v.station a).state = v := by
  refine ext (funext fun b => ?_) rfl rfl rfl rfl rfl rfl rfl
  by_cases here : b = a
  · subst here
    simp [moved]
  · simp [moved, here]

/-- The state of a station without an exchange changes to one that all its work can stand in. -/
theorem Owned.moved (h : v.Owned) {new : StationState} (idle : (v.station a).exchange = none) (asleep : a ∉ v.wakes)
    (still : (v.station a).counting = false)
    (flag : (v.station a).hostTrim = true → new = .active ∨ new = .trimming)
    (operation : ∀ o tag, (v.station a).operation = some (o, tag) → new ∈ o.states)
    (takes : ∀ e, v.has e → e.station = a → e.owner = .call → new.takesCalls = true) : (v.moved a new).Owned := by
  have record : (v.moved a new).station a = { v.station a with state := new } := if_pos rfl
  refine h.shrink (on_aside ..) (on_shrinks ..) (.of_parts ?_ (.of_still asleep (by rw [record]; exact still)) ?_ ?_ ?_)
  · exact (h.station a).pairs.idle idle (by rw [record]; exact idle) rfl rfl
  · exact (h.station a).trims.congr (by rw [record]) (fun hf => by rw [record]; exact flag hf) rfl fun _ => Iff.rfl
  · exact (h.station a).operations.congr (by rw [record]) (fun o tag ho _ => by rw [record]; exact operation o tag ho)
      fun _ _ => Iff.rfl
  · exact (h.station a).entries.congr (fun _ _ => Iff.rfl) (fun _ _ _ => id) (fun _ => id) (fun _ _ _ _ _ => by rw [record])
      fun e station he call _ => by rw [record]; exact takes e he station call

/-- The pending operation of a station ends, with or without a change of state, once none of its own entries is left. -/
theorem Owned.settled (h : v.Owned) {new : StationState} (pairs : (v.moved a new).PairsAt a)
    (wake : (v.moved a new).WakesAt a) (flag : (v.station a).hostTrim = true → new = .active ∨ new = .trimming)
    (calls : ∀ e, v.has e → e.station = a → e.owner = .call ∧ new.takesCalls = true) :
    ((v.moved a new).operationEnded a).Owned := by
  have record : ((v.moved a new).operationEnded a).station a =
      { v.station a with state := new, operation := none } := by simp [WorkView.operationEnded, WorkView.moved]
  have operation : ((v.moved a new).station a).operation = (v.station a).operation := by simp [WorkView.moved]
  have owned := (h.station a).operation
  have stays : ∀ {t k x}, (∀ o : Operation, k ≠ o.request) → v.awaits t k x →
      ((v.moved a new).operationEnded a).awaits t k x := fun other waits =>
    ⟨waits, fun o ho => other o (h.single _ _ _ _ _ waits (owned o _ (operation ▸ ho)).1).1⟩
  refine h.shrink (a := a) ⟨fun b other => ?_, fun _ _ => id, fun _ _ => Iff.rfl, fun _ _ _ => Iff.rfl, fun _ _ _ => id,
    fun t k x other => ⟨And.left, fun waits => ⟨waits, fun o ho => ?_⟩⟩, rfl, rfl⟩
    ⟨.refl _, fun _ _ => id, .refl _, fun _ _ _ => And.left⟩ (.of_parts ?_ ?_ ?_ ?_ ?_)
  · simp [WorkView.operationEnded, WorkView.moved, other]
  · exact other (h.apart (owned o t (operation ▸ ho)).1 waits)
  · exact pairs.congr (fun _ _ _ => Iff.rfl) (fun _ => id) (by simp [WorkView.operationEnded]) (by simp [WorkView.operationEnded])
  · exact wake.mono id (by simp [WorkView.operationEnded]) (by simp [WorkView.operationEnded]) fun _ _ => id
  · exact (h.station a).trims.congr (by rw [record]) (fun hf => by rw [record]; exact flag hf) rfl
      fun t => ⟨And.left, stays fun o => o.request_ne_trim.symm⟩
  · refine .of_none (by rw [record]) fun t o ht => ht.2 o ?_
    rw [operation]
    exact (h.station a).operationHeld t o ht.1
  · refine (h.station a).entries.congr (fun _ _ => Iff.rfl) (fun e station he => ?_) (fun _ => And.left)
      (fun e station he o ho => ?_) (fun e station he _ _ => by rw [record]; exact (calls e he station).2)
    · rw [(calls e he station).1]
      exact stays fun o => o.request_ne_call.symm
    · simp [(calls e he station).1, OwnerKind.operation] at ho

/-- The same where the state stays. -/
theorem Owned.operationEnded (h : v.Owned)
    (calls : ∀ e, v.has e → e.station = a → e.owner = .call) : (v.operationEnded a).Owned := by
  have self := v.moved_self a
  have takes : ∀ e, v.has e → e.station = a → e.owner = .call ∧ (v.station a).state.takesCalls = true :=
    fun e he station => ⟨calls e he station, station ▸ (h.owns he).takesCalls (calls e he station)⟩
  have settled := h.settled (a := a) (new := (v.station a).state) (by rw [self]; exact (h.station a).pairs)
    (by rw [self]; exact (h.station a).wake) (fun hf => ((h.station a).flag hf).1) takes
  rwa [self] at settled

/-- The host TRIM may be answered before or after the operation. -/
theorem trimEnded_comm (v : WorkView) (a : Nat) (new : StationState) :
    ((v.moved a new).operationEnded a).trimEnded a = ((v.trimEnded a).moved a new).operationEnded a := by
  refine ext (funext fun b => ?_) rfl rfl rfl rfl ?_ rfl rfl
  · by_cases here : b = a
    · subst here
      simp [trimEnded, moved, operationEnded]
    · simp [trimEnded, moved, operationEnded, here]
  · funext t k x
    simp only [trimEnded, moved, operationEnded, on_station, if_true]
    refine propext ⟨fun ⟨⟨waits, other⟩, trim⟩ => ⟨⟨waits, fun hf ht => trim hf ⟨ht, other⟩⟩, other⟩,
      fun ⟨⟨waits, trim⟩, other⟩ => ⟨⟨waits, other⟩, fun hf ht => trim hf ht.1⟩⟩

end WorkView

end Sys2Proof.Machine
end

section

namespace Sys2Proof.Machine

namespace WorkView

variable {v w : WorkView} {a : Nat}

/-! ## Work begins -/

/-- The parts of the invariant that do not speak of one station. -/
structure Apart (v : WorkView) : Prop where
  queueApart : (v.queue.map (·.tag)).Nodup
  pairsApart : ∀ i j d e, v.caller i = some d → v.caller j = some e → d.tag = e.tag → i = j
  bothApart : ∀ d ∈ v.queue, ∀ j e, v.caller j = some e → d.tag ≠ e.tag

/-- A change of one station's work, where the requests stay single. -/
theorem Owned.change (h : v.Owned) (aside : Aside a v w) (apart : w.Apart) (once : w.wakes.Nodup)
    (single : ∀ t k l x y, w.awaits t k x → w.awaits t l y → k = l ∧ x = y)
    (targets : ∀ t k x, w.awaits t k x → k.hasWork = true → ∃ a, x = some a) (at_ : w.At a) : w.Owned where
  queueApart := apart.queueApart
  pairsApart := apart.pairsApart
  bothApart := apart.bothApart
  once := once
  single := single
  targets := targets
  commit t ht := (aside.awaits t .commit none (by simp)).mpr (h.commit t (aside.commit ▸ ht))
  station b := by
    by_cases here : b = a
    · exact here ▸ at_
    · exact (h.station b).aside aside here

/-! ### An entry joins the queue (R112) -/

theorem enqueued_has (going : v.restarting = false) {d e : Entry} : (v.enqueued e).has d ↔ v.has d ∨ d = e := by
  simp only [WorkView.has, enqueued, going, Bool.false_eq_true, if_false, List.mem_append, List.mem_singleton]
  exact or_right_comm

/-- A tag that no request awaits is that of no entry. -/
theorem Owned.fresh (h : v.Owned) {tag : Byte} (unused : ∀ k x, ¬ v.awaits tag k x) {d : Entry} (hd : v.has d) :
    d.tag ≠ tag := fun same => unused _ _ (same ▸ (h.owns hd).awaits)

theorem enqueued_apart (h : v.Owned) (going : v.restarting = false) {e : Entry} (fresh : ∀ d, v.has d → d.tag ≠ e.tag) :
    (v.enqueued e).Apart := by
  have queue : (v.enqueued e).queue = v.queue ++ [e] := by simp [enqueued, going]
  refine ⟨?_, h.pairsApart, fun d hd j c hc => ?_⟩
  · rw [queue, List.map_append]
    refine List.nodup_append.mpr ⟨h.queueApart, List.nodup_singleton _, fun t ht u hu => ?_⟩
    obtain ⟨d, hd, rfl⟩ := List.mem_map.mp ht
    obtain rfl : u = e.tag := by simpa using hu
    exact fresh d (.inl hd)
  · rw [queue] at hd
    obtain hd | hd := List.mem_append.mp hd
    · exact h.bothApart d hd j c hc
    · obtain rfl := List.mem_singleton.mp hd
      exact (fresh c (.inr ⟨j, hc⟩)).symm

theorem enqueued_aside (going : v.restarting = false) (e : Entry) : Aside e.station v (v.enqueued e) :=
  ⟨fun _ _ => rfl, fun _ _ => id, fun _ other => (enqueued_has going).trans
    (or_iff_left fun same => other (congrArg Entry.station same)), fun _ _ _ => Iff.rfl, fun _ _ _ => id,
    fun _ _ _ _ => Iff.rfl, rfl, rfl⟩

/-- The station's wake bears an entry that is no PROBE, or a PROBE once the wait is over. -/
theorem enqueued_wake (h : v.Owned) (going : v.restarting = false) {e : Entry}
    (probe : e.owner = .wake → e.station ∉ v.wakes ∧ (v.station e.station).counting = false) :
    (v.enqueued e).WakesAt e.station := by
  by_cases wake : e.owner = .wake
  · exact .of_still (probe wake).1 (probe wake).2
  · have quiet : v.noProbe e.station → (v.enqueued e).noProbe e.station := fun none d hd owner station => by
      obtain hd | rfl := (enqueued_has going).mp hd
      · exact none d hd owner station
      · exact wake owner
    have before := (h.station e.station).wake
    refine ⟨fun ha => ?_, fun hc => ?_⟩
    · obtain ⟨good, waking, still, none⟩ := before.queued ha
      exact ⟨good, waking, still, quiet none⟩
    · obtain ⟨waking, none⟩ := before.counting hc
      exact ⟨waking, quiet none⟩

/-- An entry of a pending operation joins the queue (R71, R72, R78, R81). -/
theorem Owned.enqueued (h : v.Owned) {e : Entry} (fresh : ∀ d, v.has d → d.tag ≠ e.tag) (owns : v.OwnsEntry e)
    (probe : e.owner = .wake → e.station ∉ v.wakes ∧ (v.station e.station).counting = false) : (v.enqueued e).Owned := by
  cases going : v.restarting with
  | true =>
    have same : v.enqueued e = v := ext rfl rfl (by simp [WorkView.enqueued, going]) rfl rfl rfl rfl rfl
    rwa [same]
  | false =>
    refine h.change (enqueued_aside going e) (enqueued_apart h going fresh) h.once h.single h.targets
      (.of_parts ?_ (enqueued_wake h going probe) ?_ ?_ ?_)
    · exact (h.station _).pairs.congr (fun _ _ _ => Iff.rfl) (fun _ => id) rfl rfl
    · exact (h.station _).trims.congr rfl (fun hf => ((h.station _).flag hf).1) rfl fun _ => Iff.rfl
    · exact (h.station _).operations.congr rfl (fun _ _ _ => id) fun _ _ => Iff.rfl
    · refine ⟨fun d hd _ => ?_, fun t ht => ?_⟩
      · have owned : v.OwnsEntry d := by
          obtain hd | rfl := (enqueued_has going).mp hd
          · exact h.owns hd
          · exact owns
        exact ⟨owned.good, owned.awaits, owned.operation, owned.takesCalls⟩
      · obtain ⟨d, hd, rest⟩ := (h.station _).callHeld t ht
        exact ⟨d, (enqueued_has going).mpr (.inl hd), rest⟩

/-! ### The grants (R96, R114) -/

/-- A command pair takes an entry of the queue. -/
def granted (j : Nat) (e : Entry) (v : WorkView) : WorkView :=
  { v.on e.station (fun r => { r with exchange := some (.command j) }) with
    queue := v.queue.erase e
    caller := fun i => if i = j then some e else v.caller i }

theorem granted_caller {j i : Nat} {e d : Entry} (hd : (v.granted j e).caller i = some d) :
    (i = j ∧ d = e) ∨ (i ≠ j ∧ v.caller i = some d) := by
  simp only [granted] at hd
  split at hd
  · next here => exact .inl ⟨here, (Option.some.inj hd).symm⟩
  · next other => exact .inr ⟨other, hd⟩

theorem granted_has {j : Nat} {e : Entry} (free : v.caller j = none) (he : e ∈ v.queue) {d : Entry} :
    (v.granted j e).has d ↔ v.has d := by
  constructor
  · rintro (mem | ⟨i, hi⟩)
    · exact .inl (List.mem_of_mem_erase mem)
    · obtain ⟨-, rfl⟩ | ⟨-, hi⟩ := granted_caller hi
      · exact .inl he
      · exact .inr ⟨i, hi⟩
  · rintro (mem | ⟨i, hi⟩)
    · by_cases same : d = e
      · exact .inr ⟨j, by simp [granted, same]⟩
      · exact .inl ((List.mem_erase_of_ne same).mpr mem)
    · refine .inr ⟨i, ?_⟩
      have other : i ≠ j := fun here => by simp [here, free] at hi
      simpa [granted, other] using hi

theorem Owned.granted (h : v.Owned) {j : Nat} {e : Entry} (free : v.caller j = none) (he : e ∈ v.queue)
    (idle : (v.station e.station).exchange = none) (needs : (v.station e.station).state = e.owner.needs) :
    (v.granted j e).Owned := by
  have has : ∀ {d}, (v.granted j e).has d ↔ v.has d := granted_has free he
  have record : (v.granted j e).station e.station = { v.station e.station with exchange := some (.command j) } := if_pos rfl
  have nodup : v.queue.Nodup := h.queueApart.of_map _
  have queued : ∀ i d, v.caller i = some d → d.tag ≠ e.tag := fun i d hd same => h.bothApart e he i d hd same.symm
  refine h.change (a := e.station) ⟨fun _ other => if_neg other, fun _ _ => id, fun _ _ => has, fun i d other => ?_,
    fun _ _ _ => id, fun _ _ _ _ => Iff.rfl, rfl, rfl⟩ ⟨?_, fun i k c d hc hd same => ?_, fun d hd i c hc => ?_⟩ h.once
    h.single h.targets (.of_parts ?_ ?_ ?_ ?_ ?_)
  · simp only [WorkView.granted]
    split
    · next here =>
      subst here
      rw [free]
      exact ⟨fun same => absurd (congrArg Entry.station (Option.some.inj same).symm) other, fun hd => by simp at hd⟩
    · exact Iff.rfl
  · exact ((List.erase_sublist ..).map _).nodup h.queueApart
  · obtain ⟨rfl, rfl⟩ | ⟨-, first⟩ := granted_caller hc
    · obtain ⟨rfl, -⟩ | ⟨-, second⟩ := granted_caller hd
      · rfl
      · exact absurd same.symm (queued k d second)
    · obtain ⟨rfl, rfl⟩ | ⟨-, second⟩ := granted_caller hd
      · exact absurd same (queued i c first)
      · exact h.pairsApart i k c d first second same
  · have hd' : d ∈ v.queue := List.mem_of_mem_erase hd
    obtain ⟨-, rfl⟩ | ⟨-, hc⟩ := granted_caller hc
    · intro same
      obtain rfl := h.entry_eq (.inl hd') (.inl he) same
      exact (nodup.not_mem_erase) hd
    · exact h.bothApart d hd' i c hc
  · refine ⟨fun i d hd station => ?_, fun k hk => ?_, fun k hk => ?_, fun i hi => ?_⟩
    · obtain ⟨rfl, rfl⟩ | ⟨-, hd⟩ := granted_caller hd
      · exact ⟨by rw [record], by rw [record]; exact needs⟩
      · exact absurd station ((h.station e.station).pairs.no_caller idle i d hd)
    · exact absurd hk ((h.station e.station).pairs.not_held idle k)
    · simp [record] at hk
    · obtain rfl : j = i := by simpa [record] using hi
      exact ⟨e, if_pos rfl, rfl⟩
  · exact (h.station _).wake.mono id (by rw [record]; exact id) (by rw [record]) fun _ _ => has.mp
  · exact (h.station _).trims.congr (by rw [record]) (fun hf => by rw [record]; exact ((h.station _).flag hf).1) rfl
      fun _ => Iff.rfl
  · exact (h.station _).operations.congr (by rw [record]) (fun _ _ _ => by rw [record]; exact id) fun _ _ => Iff.rfl
  · exact (h.station _).entries.congr (fun _ _ => has) (fun _ _ _ => id) (fun _ => id) (fun _ _ _ _ _ => by rw [record])
      (fun _ _ _ _ => by rw [record]; exact id)

/-- A service pair is granted to a station. -/
def serviceGranted (k a : Nat) (v : WorkView) : WorkView :=
  { v.on a (fun r => { r with exchange := some (.service k) }) with
    held := fun i => if i = k then some a else v.held i }

theorem Owned.serviceGranted (h : v.Owned) (k : Nat) (idle : (v.station a).exchange = none)
    (active : (v.station a).state = .active) : (v.serviceGranted k a).Owned := by
  have record : (v.serviceGranted k a).station a = { v.station a with exchange := some (.service k) } := if_pos rfl
  have held : ∀ i b, (v.serviceGranted k a).held i = some b → (i = k ∧ b = a) ∨ v.held i = some b := fun i b hi => by
    simp only [WorkView.serviceGranted] at hi
    split at hi
    · next here => exact .inl ⟨here, (Option.some.inj hi).symm⟩
    · exact .inr hi
  refine h.change (a := a) ⟨fun _ other => if_neg other, fun _ _ => id, fun _ _ => Iff.rfl, fun _ _ _ => Iff.rfl,
    fun i b other hi => (held i b hi).resolve_left fun same => other same.2, fun _ _ _ _ => Iff.rfl, rfl, rfl⟩
    ⟨h.queueApart, h.pairsApart, h.bothApart⟩ h.once h.single h.targets (.of_parts ?_ ?_ ?_ ?_ ?_)
  · refine ⟨fun i d hd station => absurd station ((h.station a).pairs.no_caller idle i d hd), fun i hi => ?_, fun i _ => ?_,
      fun i hi => by simp [record] at hi⟩
    · obtain ⟨rfl, -⟩ | hi := held i a hi
      · exact ⟨by rw [record], by rw [record]; exact active⟩
      · exact absurd hi ((h.station a).pairs.not_held idle i)
    · rw [record]
      exact active
  · exact (h.station a).wake.mono id (by rw [record]; exact id) (by rw [record]) fun _ _ => id
  · exact (h.station a).trims.congr (by rw [record]) (fun hf => by rw [record]; exact ((h.station a).flag hf).1) rfl
      fun _ => Iff.rfl
  · exact (h.station a).operations.congr (by rw [record]) (fun _ _ _ => by rw [record]; exact id) fun _ _ => Iff.rfl
  · exact (h.station a).entries.congr (fun _ _ => Iff.rfl) (fun _ _ _ => id) (fun _ => id) (fun _ _ _ _ _ => by rw [record])
      (fun _ _ _ _ => by rw [record]; exact id)

/-! ### The wake queue and the countdowns (R80, R81) -/

/-- A change of a station's countdown and of its place in the wake queue alone. -/
theorem Owned.rewoken (h : v.Owned) {wakes : List Nat} {counting : Bool} (once : wakes.Nodup)
    (others : ∀ b, b ≠ a → b ∈ wakes → b ∈ v.wakes)
    (wake : ({ v.on a (fun r => { r with counting := counting }) with wakes := wakes } : WorkView).WakesAt a) :
    ({ v.on a (fun r => { r with counting := counting }) with wakes := wakes } : WorkView).Owned := by
  have record : (v.on a (fun r => { r with counting := counting })).station a = { v.station a with counting := counting } :=
    if_pos rfl
  refine h.change (a := a) ⟨fun _ other => if_neg other, others, fun _ _ => Iff.rfl, fun _ _ _ => Iff.rfl, fun _ _ _ => id,
    fun _ _ _ _ => Iff.rfl, rfl, rfl⟩ ⟨h.queueApart, h.pairsApart, h.bothApart⟩ once h.single h.targets (.of_parts ?_ wake ?_ ?_ ?_)
  · exact (h.station a).pairs.congr (fun _ _ _ => Iff.rfl) (fun _ => id) (by simp only [record]) (by simp only [record])
  · exact (h.station a).trims.congr (by simp only [record])
      (fun hf => by simp only [record]; exact ((h.station a).flag hf).1) rfl fun _ => Iff.rfl
  · exact (h.station a).operations.congr (by simp only [record]) (fun _ _ _ => by simp only [record]; exact id)
      fun _ _ => Iff.rfl
  · exact (h.station a).entries.congr (fun _ _ => Iff.rfl) (fun _ _ _ => id) (fun _ => id)
      (fun _ _ _ _ _ => by simp only [record]) (fun _ _ _ _ => by simp only [record]; exact id)

/-- The station at the head of the wake queue leaves it and counts (R81). -/
theorem Owned.wakeNamed (h : v.Owned) {rest : List Nat} (queue : v.wakes = a :: rest) :
    ({ v.on a (fun r => { r with counting := true }) with wakes := rest } : WorkView).Owned := by
  obtain ⟨fresh, once⟩ := List.nodup_cons.mp (queue ▸ h.once)
  obtain ⟨-, waking, -, quiet⟩ := (h.station a).queued (queue ▸ List.mem_cons_self)
  exact h.rewoken once (fun b _ hb => queue ▸ List.mem_cons_of_mem a hb)
    ⟨fun ha => absurd ha fresh, fun _ => ⟨by simpa using waking, quiet⟩⟩

/-- A wake countdown is over (R81). -/
theorem Owned.ticked (h : v.Owned) (a : Nat) : (v.on a (fun r => { r with counting := false })).Owned := by
  refine h.rewoken (wakes := v.wakes) h.once (fun _ _ => id) ⟨fun ha => ?_, fun hc => by simp at hc⟩
  obtain ⟨good, waking, -, quiet⟩ := (h.station a).queued ha
  exact ⟨good, by simpa using waking, by simp, quiet⟩

/-- A waking station joins the wake queue (R80) or leaves it (R82). -/
theorem Owned.wakesChanged (h : v.Owned) {wakes : List Nat} (once : wakes.Nodup)
    (others : ∀ b, b ≠ a → b ∈ wakes → b ∈ v.wakes)
    (here : a ∈ wakes → goodStation a = true ∧ (v.station a).state = .waking ∧ (v.station a).counting = false ∧ v.noProbe a) :
    ({ v with wakes := wakes } : WorkView).Owned := by
  have same : v.on a (fun r => { r with counting := (v.station a).counting }) = v := by
    refine ext (funext fun b => ?_) rfl rfl rfl rfl rfl rfl rfl
    by_cases at_ : b = a
    · subst at_
      simp
    · simp [at_]
  have changed := h.rewoken (a := a) (counting := (v.station a).counting) once others
    (by rw [same]; exact ⟨here, fun hc => (h.station a).counting hc⟩)
  rwa [same] at changed

end WorkView

end Sys2Proof.Machine
end

section

namespace Sys2Proof.Machine

namespace WorkView

variable {v w : WorkView} {a : Nat} {tag : Byte}

/-! ## Requests enter the table (R153) -/

theorem entered_single (h : v.Owned) (unused : ∀ k x, ¬ v.awaits tag k x) (kind : ReqKind) (target : Option Nat)
    (t : Byte) (k l : ReqKind) (x y : Option Nat) (hk : (v.entered tag kind target).awaits t k x)
    (hl : (v.entered tag kind target).awaits t l y) : k = l ∧ x = y := by
  obtain hk | ⟨rfl, rfl, rfl⟩ := hk
  · obtain hl | ⟨rfl, -, -⟩ := hl
    · exact h.single t k l x y hk hl
    · exact absurd hk (unused _ _)
  · obtain hl | ⟨-, rfl, rfl⟩ := hl
    · exact absurd hl (unused _ _)
    · exact ⟨rfl, rfl⟩

theorem entered_targets (h : v.Owned) {kind : ReqKind} {target : Option Nat}
    (named : kind.hasWork = true → ∃ a, target = some a) (t : Byte) (k : ReqKind) (x : Option Nat)
    (hk : (v.entered tag kind target).awaits t k x) (work : k.hasWork = true) : ∃ a, x = some a := by
  obtain hk | ⟨-, rfl, rfl⟩ := hk
  · exact h.targets t k x hk work
  · exact named work

theorem entered_aside (v : WorkView) (tag : Byte) (kind : ReqKind) (a : Nat) : Aside a v (v.entered tag kind (some a)) :=
  ⟨fun _ _ => rfl, fun _ _ => id, fun _ _ => Iff.rfl, fun _ _ _ => Iff.rfl, fun _ _ _ => id,
    fun _ _ _ other => or_iff_left fun new => other new.2.2, rfl, rfl⟩

/-- Of another kind nothing new is awaited. -/
theorem entered_awaits_of_ne {kind k : ReqKind} (other : k ≠ kind) {target : Option Nat} {t : Byte} {x : Option Nat} :
    (v.entered tag kind target).awaits t k x ↔ v.awaits t k x := or_iff_left fun new => other new.2.1

/-- A request begins a pending operation, with its state (R71, R78, R80). -/
def begun (a : Nat) (o : Operation) (tag : Byte) (new : StationState) (v : WorkView) : WorkView :=
  (v.on a (fun r => { r with state := new, operation := some (o, tag) })).entered tag o.request (some a)

theorem begun_station (v : WorkView) (a : Nat) (o : Operation) (tag : Byte) (new : StationState) :
    (v.begun a o tag new).station a = { v.station a with state := new, operation := some (o, tag) } := if_pos rfl

theorem Owned.begun (h : v.Owned) {o : Operation} {new : StationState} (unused : ∀ k x, ¬ v.awaits tag k x)
    (free : (v.station a).operation = none) (pairs : (v.begun a o tag new).PairsAt a) (asleep : a ∉ v.wakes)
    (still : (v.station a).counting = false) (flag : (v.station a).hostTrim = true → new = .active ∨ new = .trimming)
    (state : new ∈ o.states) (takes : ∀ e, v.has e → e.station = a → e.owner = .call → new.takesCalls = true) :
    (v.begun a o tag new).Owned := by
  have record := v.begun_station a o tag new
  have calls : ∀ e, e.station = a → v.has e → ∀ p, p ∉ e.owner.operation := fun e station he p hp => by
    have beside := (h.owns he).operation p hp
    simp [station, free] at beside
  refine h.change ((on_aside ..).trans (entered_aside ..)) ⟨h.queueApart, h.pairsApart, h.bothApart⟩ h.once
    (entered_single h unused o.request (some a)) (entered_targets h fun _ => ⟨a, rfl⟩)
    (.of_parts pairs (.of_still asleep (by rw [record]; exact still)) ?_ ?_ ?_)
  · exact (h.station a).trims.congr (by rw [record]) (fun hf => by rw [record]; exact flag hf) rfl
      fun _ => entered_awaits_of_ne o.request_ne_trim.symm
  · refine ⟨fun p t hp => ?_, fun t p ht => ?_⟩
    · rw [record] at hp ⊢
      obtain ⟨rfl, rfl⟩ := Prod.mk.inj (Option.some.inj hp)
      exact ⟨.inr ⟨rfl, rfl, rfl⟩, state⟩
    · rw [record]
      obtain ht | ⟨rfl, same, -⟩ := ht
      · exact absurd (free.symm.trans ((h.station a).operationHeld t p ht)) (by simp)
      · rw [Operation.request_inj same]
  · exact (h.station a).entries.congr (fun _ _ => Iff.rfl) (fun _ _ _ => .inl)
      (fun _ => (entered_awaits_of_ne o.request_ne_call.symm).mp) (fun e station he p hp => absurd hp (calls e station he p))
      (fun e station he call _ => by rw [record]; exact takes e he station call)

/-- A host TRIM begins (R105). -/
theorem Owned.flagged (h : v.Owned) (unused : ∀ k x, ¬ v.awaits tag k x) (free : (v.station a).hostTrim = false)
    (active : (v.station a).state = .active) :
    ((v.on a (fun r => { r with hostTrim := true })).entered tag .trim (some a)).Owned := by
  have record : ((v.on a (fun r => { r with hostTrim := true })).entered tag .trim (some a)).station a =
      { v.station a with hostTrim := true } := if_pos rfl
  refine h.change ((on_aside ..).trans (entered_aside ..)) ⟨h.queueApart, h.pairsApart, h.bothApart⟩ h.once
    (entered_single h unused .trim (some a)) (entered_targets h fun _ => ⟨a, rfl⟩) (.of_parts ?_ ?_ ?_ ?_ ?_)
  · exact (h.station a).pairs.congr (fun _ _ _ => Iff.rfl) (fun _ => id) (by rw [record]) (by rw [record])
  · exact (h.station a).wake.mono id (by rw [record]; exact id) (by rw [record]) fun _ _ => id
  · have none : ∀ t, ¬ v.awaits t .trim (some a) := fun t ht => by
      simp [(h.station a).trimHeld t ht] at free
    refine ⟨fun _ => ⟨.inl (by rw [record]; exact active), .inr ⟨tag, .inr ⟨rfl, rfl, rfl⟩⟩⟩, fun t u ht hu => ?_,
      fun _ _ => by rw [record]⟩
    obtain ht | ⟨rfl, -, -⟩ := ht
    · exact absurd ht (none t)
    · obtain hu | ⟨rfl, -, -⟩ := hu
      · exact absurd hu (none u)
      · rfl
  · exact (h.station a).operations.congr (by rw [record]) (fun _ _ _ => by rw [record]; exact id)
      fun _ o => entered_awaits_of_ne o.request_ne_trim
  · exact (h.station a).entries.congr (fun _ _ => Iff.rfl) (fun _ _ _ => .inl) (fun _ => (entered_awaits_of_ne (by simp)).mp)
      (fun _ _ _ _ _ => by rw [record]) (fun _ _ _ _ => by rw [record]; exact id)

/-- A CALL joins the queue (R123, R124). -/
theorem Owned.called (h : v.Owned) (going : v.restarting = false) {e : Entry} (unused : ∀ k x, ¬ v.awaits e.tag k x)
    (call : e.owner = .call) (good : goodStation e.station = true)
    (takes : (v.station e.station).state.takesCalls = true) :
    ((v.enqueued e).entered e.tag .call (some e.station)).Owned := by
  have fresh : ∀ d, v.has d → d.tag ≠ e.tag := fun d => h.fresh unused
  have apart := enqueued_apart h going fresh
  refine h.change ((enqueued_aside going e).trans (entered_aside ..)) ⟨apart.queueApart, apart.pairsApart, apart.bothApart⟩
    h.once (entered_single h unused .call (some e.station)) (entered_targets h fun _ => ⟨_, rfl⟩) (.of_parts ?_ ?_ ?_ ?_ ?_)
  · exact (h.station _).pairs.congr (fun _ _ _ => Iff.rfl) (fun _ => id) rfl rfl
  · have wake := enqueued_wake (e := e) h going fun wake => absurd (call.symm.trans wake) (by simp)
    exact wake.mono id id rfl fun _ _ => id
  · exact (h.station _).trims.congr rfl (fun hf => ((h.station _).flag hf).1) rfl fun _ => entered_awaits_of_ne (by simp)
  · exact (h.station _).operations.congr rfl (fun _ _ _ => id) fun _ o => entered_awaits_of_ne o.request_ne_call
  · refine ⟨fun d hd station => ?_, fun t ht => ?_⟩
    · obtain hd | rfl := (enqueued_has going).mp hd
      · have owned := h.owns hd
        exact ⟨owned.good, .inl owned.awaits, owned.operation, owned.takesCalls⟩
      · refine ⟨good, .inr ⟨rfl, by rw [call]; rfl, rfl⟩, fun o ho => ?_, fun _ => takes⟩
        simp [call, OwnerKind.operation] at ho
    · obtain ht | ⟨rfl, -, -⟩ := ht
      · obtain ⟨d, hd, rest⟩ := (h.station _).callHeld t ht
        exact ⟨d, (enqueued_has going).mpr (.inl hd), rest⟩
      · exact ⟨e, (enqueued_has going).mpr (.inr rfl), rfl, rfl⟩

/-- Where the requests that stand at stations stay as they are, so do the stations. -/
theorem At.of_requests (h : v.At a) (station : w.station = v.station) (wakes : w.wakes = v.wakes) (queue : w.queue = v.queue)
    (caller : w.caller = v.caller) (held : w.held = v.held) (restarting : w.restarting = v.restarting)
    (awaits : ∀ t k, k.hasWork = true → (w.awaits t k (some a) ↔ v.awaits t k (some a))) : w.At a := by
  have has : ∀ e, w.has e ↔ v.has e := fun e => by simp only [WorkView.has, queue, caller]
  refine .of_parts ?_ ?_ ?_ ?_ ?_
  · exact h.pairs.congr (fun _ _ _ => by rw [caller]) (fun _ => by rw [held]; exact id) (by rw [station]) (by rw [station])
  · exact h.wake.mono (by rw [wakes]; exact id) (by rw [station]; exact id) (by rw [station]) fun e _ => (has e).mp
  · exact h.trims.congr (by rw [station]) (fun hf => by rw [station]; exact (h.flag hf).1) restarting
      fun t => awaits t .trim rfl
  · exact h.operations.congr (by rw [station]) (fun _ _ _ => by rw [station]; exact id)
      fun t o => awaits t _ o.request_hasWork
  · exact h.entries.congr (fun e _ => has e) (fun e _ _ => (awaits _ _ e.owner.request_hasWork).mpr)
      (fun t => (awaits t .call rfl).mp) (fun _ _ _ _ _ => by rw [station]) (fun _ _ _ _ => by rw [station]; exact id)

/-- A request without work enters the table: TRUNK START, TRUNK STOP, or a COMMIT with its record (R8, R10, R32). -/
theorem Owned.entered (h : v.Owned) {kind : ReqKind} {commit : Option Byte} (unused : ∀ k x, ¬ v.awaits tag k x)
    (plain : kind.hasWork = false)
    (record : ∀ t, commit = some t → v.commit = some t ∨ (t = tag ∧ kind = .commit)) :
    ({ v.entered tag kind none with commit := commit } : WorkView).Owned where
  queueApart := h.queueApart
  pairsApart := h.pairsApart
  bothApart := h.bothApart
  once := h.once
  single := entered_single h unused kind none
  targets := entered_targets h fun work => by simp [plain] at work
  commit t ht := (record t ht).elim (fun before => .inl (h.commit t before)) fun ⟨same, commit⟩ => .inr ⟨same, commit.symm, rfl⟩
  station a := (h.station a).of_requests rfl rfl rfl rfl rfl rfl fun t k _ => or_iff_left fun new => by simp at new

/-! ## Requests without work are answered -/

/-- The answer of a request without work; a COMMIT's leaves no record (R11, R33, R36). -/
theorem Owned.answered (h : v.Owned) {commit : Option Byte} (plain : ∀ k x, v.awaits tag k x → k.hasWork = false)
    (record : ∀ t, commit = some t → v.commit = some t ∧ t ≠ tag) :
    ({ v.answered tag with commit := commit } : WorkView).Owned where
  queueApart := h.queueApart
  pairsApart := h.pairsApart
  bothApart := h.bothApart
  once := h.once
  single t k l x y hk hl := h.single t k l x y hk.1 hl.1
  targets t k x hk := h.targets t k x hk.1
  commit t ht := ⟨h.commit t (record t ht).1, (record t ht).2⟩
  station a := (h.station a).of_requests rfl rfl rfl rfl rfl rfl fun t k work =>
    ⟨And.left, fun waits => ⟨waits, by rintro rfl; simp [plain k _ waits] at work⟩⟩

/-! ## Entries leave the queue (R76, R78, R125) -/

theorem dequeued_has (h : v.Owned) {e : Entry} (he : e ∈ v.queue) {d : Entry} :
    (v.dequeued (fun d => d.tag == e.tag)).has d ↔ v.has d ∧ d.tag ≠ e.tag := by
  simp only [WorkView.has, dequeued, List.mem_filter, Bool.not_eq_true', beq_eq_false_iff_ne]
  constructor
  · rintro (mem | ⟨j, hj⟩)
    · exact ⟨.inl mem.1, mem.2⟩
    · exact ⟨.inr ⟨j, hj⟩, (h.bothApart e he j d hj).symm⟩
  · rintro ⟨mem | caller, other⟩
    · exact .inl ⟨mem, other⟩
    · exact .inr caller

theorem dequeued_aside (h : v.Owned) {e : Entry} (he : e ∈ v.queue) :
    Aside e.station v (v.dequeued (fun d => d.tag == e.tag)) := by
  refine ⟨fun _ _ => rfl, fun _ _ => id, fun d other => ?_, fun _ _ _ => Iff.rfl, fun _ _ _ => id, fun _ _ _ _ => Iff.rfl,
    rfl, rfl⟩
  refine (dequeued_has h he).trans (and_iff_left_of_imp fun hd same => other ?_)
  rw [h.entry_eq hd (.inl he) same]

theorem dequeued_shrinks (v : WorkView) (leaves : Entry → Bool) : Shrinks v (v.dequeued leaves) :=
  ⟨List.filter_sublist, fun _ _ => id, .refl _, fun _ _ _ => id⟩

/-- The queued entry of a pending operation leaves; the operation stays. -/
theorem Owned.dequeued (h : v.Owned) {e : Entry} (he : e ∈ v.queue) (other : e.owner ≠ .call) :
    (v.dequeued (fun d => d.tag == e.tag)).Owned := by
  have has : ∀ d, (v.dequeued (fun d => d.tag == e.tag)).has d ↔ v.has d ∧ d.tag ≠ e.tag := fun d => dequeued_has h he
  refine h.shrink (dequeued_aside h he) (dequeued_shrinks ..) (.of_parts ?_ ?_ ?_ ?_ ?_)
  · exact (h.station _).pairs.congr (fun _ _ _ => Iff.rfl) (fun _ => id) rfl rfl
  · exact (h.station _).wake.mono id id rfl fun d _ hd => ((has d).mp hd).1
  · exact (h.station _).trims.congr rfl (fun hf => ((h.station _).flag hf).1) rfl fun _ => Iff.rfl
  · exact (h.station _).operations.congr rfl (fun _ _ _ => id) fun _ _ => Iff.rfl
  · refine (h.station _).entries.shrink (fun d _ hd => ((has d).mp hd).1) (fun _ _ _ => id) (fun _ _ _ _ _ => rfl)
      (fun _ _ _ _ => id) fun t ht => ⟨ht, fun d hd _ tag => (has d).mpr ⟨hd, fun same => other ?_⟩⟩
    exact OwnerKind.request_eq_call (h.entry_of_awaits (.inl he) (same.symm.trans tag) ht).1

/-- A queued CALL leaves and is answered (R125). -/
theorem Owned.callWithdrawn (h : v.Owned) {e : Entry} (he : e ∈ v.queue) (call : e.owner = .call) :
    ((v.dequeued (fun d => d.tag == e.tag)).answered e.tag).Owned := by
  have owns := h.owns (.inl he)
  have has : ∀ d, ((v.dequeued (fun d => d.tag == e.tag)).answered e.tag).has d ↔ v.has d ∧ d.tag ≠ e.tag := fun d =>
    dequeued_has h he
  have kind : ∀ {k x}, v.awaits e.tag k x → k = .call := fun waits =>
    (h.single _ _ _ _ _ waits owns.awaits).1.trans (by rw [call]; rfl)
  have stays : ∀ {t k x}, k ≠ .call → v.awaits t k x → v.awaits t k x ∧ t ≠ e.tag := fun other waits =>
    ⟨waits, by rintro rfl; exact other (kind waits)⟩
  have answered : Aside e.station (v.dequeued (fun d => d.tag == e.tag))
      ((v.dequeued (fun d => d.tag == e.tag)).answered e.tag) := by
    refine ⟨fun _ _ => rfl, fun _ _ => id, fun _ _ => Iff.rfl, fun _ _ _ => Iff.rfl, fun _ _ _ => id,
      fun t k x other => ⟨And.left, fun waits => ⟨waits, ?_⟩⟩, rfl, rfl⟩
    rintro rfl
    exact other (h.apart owns.awaits waits)
  refine h.shrink ((dequeued_aside h he).trans answered)
    ((dequeued_shrinks ..).trans ⟨.refl _, fun _ _ => id, .refl _, fun _ _ _ => And.left⟩) (.of_parts ?_ ?_ ?_ ?_ ?_)
  · exact (h.station _).pairs.congr (fun _ _ _ => Iff.rfl) (fun _ => id) rfl rfl
  · exact (h.station _).wake.mono id id rfl fun d _ hd => ((has d).mp hd).1
  · exact (h.station _).trims.congr rfl (fun hf => ((h.station _).flag hf).1) rfl fun _ => ⟨And.left, stays (by simp)⟩
  · exact (h.station _).operations.congr rfl (fun _ _ _ => id) fun _ o => ⟨And.left, stays o.request_ne_call⟩
  · exact (h.station _).entries.shrink (fun d _ hd => ((has d).mp hd).1) (fun d _ hd waits => ⟨waits, ((has d).mp hd).2⟩)
      (fun _ _ _ _ _ => rfl) (fun _ _ _ _ => id)
      fun t ht => ⟨ht.1, fun d hd _ tag => (has d).mpr ⟨hd, tag ▸ ht.2⟩⟩

/-! ## A full restart (R159) and a completed stop (R11) -/

/-- With every request answered and its work given up nothing is left but the stations (R159). -/
theorem Owned.restarted (h : v.Owned) (going : w.restarting = true) (none : ∀ t k x, ¬ w.awaits t k x) (queue : w.queue = [])
    (caller : ∀ j, w.caller j = Option.none) (held : w.held = v.held) (wakes : w.wakes = v.wakes)
    (commit : w.commit = Option.none)
    (station : ∀ a, w.station a = { v.station a with exchange := (w.station a).exchange, operation := Option.none })
    (freed : ∀ a j, (w.station a).exchange ≠ some (.command j))
    (service : ∀ a k, (w.station a).exchange = some (.service k) ↔ (v.station a).exchange = some (.service k)) :
    w.Owned := by
  have noEntry : ∀ e, ¬ w.has e := fun e he => by simp [WorkView.has, queue, caller] at he
  have state : ∀ a, (w.station a).state = (v.station a).state := fun a => by rw [station]
  refine ⟨by simp [queue], fun i j d e hd => by simp [caller] at hd, fun d hd => by simp [queue] at hd, wakes ▸ h.once,
    fun t k l x y hk => absurd hk (none t k x), fun t k x hk => absurd hk (none t k x), fun t ht => by simp [commit] at ht,
    fun a => .of_parts ⟨fun j e he => by simp [caller] at he, fun k hk => ?_, fun k hk => ?_, fun j hj => absurd hj (freed a j)⟩
      (.mono (h.station a).wake (by rw [wakes]; exact id) (by rw [station]; exact id) (state a) fun e _ he => absurd he (noEntry e))
      ⟨fun hf => ⟨?_, .inl going⟩, fun t u ht => absurd ht (none _ _ _), fun t ht => absurd ht (none _ _ _)⟩
      (.of_none (by rw [station]) fun t o => none _ _ _) ⟨fun e he => absurd he (noEntry e), fun t ht => absurd ht (none _ _ _)⟩⟩
  · rw [service, state]
    exact (h.station a).trim k (held ▸ hk)
  · rw [state]
    exact (h.station a).service k ((service a k).mp hk)
  · rw [station] at hf ⊢
    exact ((h.station a).flag hf).1

/-- With every station ABSENT there is no entry. -/
theorem Owned.no_entry (h : v.Owned) (absent : ∀ a, (v.station a).state = .absent) (e : Entry) : ¬ v.has e := fun he => by
  obtain ⟨-, -, beside, takes⟩ := h.owns he
  obtain ⟨call, -⟩ | ⟨p, hp, -⟩ := e.owner.cases_operation
  · simpa [absent, StationState.takesCalls] using takes call
  · have states := ((h.station e.station).operation p e.tag (beside p hp)).2
    rw [absent] at states
    cases p <;> simp [Operation.states] at states

end WorkView

end Sys2Proof.Machine
end

section

namespace Sys2Proof.Machine

/-! ## The work of the command pairs (R117 to R124)

Every event of a station keeps its work owned. -/

theorem State.mem_of_state {s : State} {a : Nat} (here : (s.station a).state ≠ .absent) : a ∈ addresses :=
  by_contra fun out => here (by rw [s.station_of_not_mem out])

theorem State.mem_of_work_state {s : State} {a : Nat} (here : (s.work.station a).state ≠ .absent) : a ∈ addresses :=
  State.mem_of_state here

namespace State

variable {s t u : State} {a : Nat}

theorem enterAbsent_owned (h : s.work.Owned) (ha : a ∈ addresses) (reason : Reason) (o w : Status) :
    (s.enterAbsent a reason o w).work.Owned := by
  rw [work_enterAbsent (h.station a) ha]
  exact h.retired a .absent

theorem enterFaulted_owned (h : s.work.Owned) (ha : a ∈ addresses) (asleep : a ∉ s.work.wakes)
    (still : (s.work.station a).counting = false) (reason : Reason) (o w : Status) :
    (s.enterFaulted a reason o w).work.Owned := by
  rw [work_enterFaulted (h.station a) ha asleep (by simpa [State.work, Station.work] using still)]
  exact h.retired a .faulted

/-- The change at the miss limit; a WAKING station has had its PROBE in flight (R70). -/
theorem missLimit_owned (h : s.work.Owned) (origin : StationState)
    (woken : (s.work.station a).state = .waking → a ∉ s.work.wakes ∧ (s.work.station a).counting = false) :
    (s.missLimit a origin).work.Owned := by
  unfold State.missLimit
  split
  · next same =>
    cases origin with
    | joining => exact enterAbsent_owned h (mem_of_state (s := s) (by simp [same])) ..
    | active =>
      have other : (s.work.station a).state ≠ .waking := fun waking => by
        have active : (s.work.station a).state = .active := same
        simp [active] at waking
      obtain ⟨asleep, still⟩ := (h.station a).wake.asleep other
      exact enterFaulted_owned h (mem_of_state (s := s) (by simp [same])) asleep still ..
    | waking =>
      obtain ⟨asleep, still⟩ := woken same
      exact enterFaulted_owned h (mem_of_state (s := s) (by simp [same])) asleep still ..
    | absent | trimming | drowsy | faulted => exact h
  · exact h

end State

/-! ### The owner of an exchange that has ended (R122) -/

/-- The exchange of an entry of a pending operation has ended, its pair is free, and the operation still stands. -/
structure PairOver (e : Entry) (v : WorkView) : Prop where
  owned : v.Owned
  fresh : ∀ d, v.has d → d.tag ≠ e.tag
  good : goodStation e.station = true
  awaits : v.awaits e.tag e.owner.request (some e.station)
  operation : ∀ o ∈ e.owner.operation, (v.station e.station).operation = some (o, e.tag)
  idle : (v.station e.station).exchange = none
  state : (v.station e.station).state = e.owner.needs
  woken : e.owner = .wake → e.station ∉ v.wakes ∧ (v.station e.station).counting = false

namespace PairOver

variable {e : Entry} {v : WorkView}

theorem of_freed {j : Nat} (h : v.Owned) (hj : v.caller j = some e) (other : e.owner ≠ .call) :
    PairOver e (v.pairFreed j e.station) := by
  have owns := h.owns (.inr ⟨j, hj⟩)
  have record : (v.pairFreed j e.station).station e.station = { v.station e.station with exchange := none } := if_pos rfl
  refine ⟨h.pairFreed hj other, fun d hd => ((WorkView.pairFreed_has h hj).mp hd).2, owns.good, owns.awaits,
    fun o ho => by rw [record]; exact owns.operation o ho, by rw [record], by rw [record]; exact
    ((h.station e.station).caller j e hj rfl).2, fun wake => ?_⟩
  have probed : ¬ v.noProbe e.station := fun none => none e (.inr ⟨j, hj⟩) wake rfl
  rw [record]
  exact ⟨fun ha => probed ((h.station _).queued ha).2.2.2, Bool.eq_false_iff.mpr fun hc => probed ((h.station _).counting hc).2⟩

variable (h : PairOver e v)
include h

theorem mem : e.station ∈ addresses := mem_addresses.mpr (goodStation_iff.mp h.good)

/-- The station neither waits to be woken nor counts. -/
theorem still : e.station ∉ v.wakes ∧ (v.station e.station).counting = false := by
  by_cases wake : e.owner = .wake
  · exact h.woken wake
  · refine (h.owned.station e.station).wake.asleep ?_
    rw [h.state]
    cases owner : e.owner <;> simp_all [OwnerKind.needs]

/-- What is left of the station's entries are CALLs. -/
theorem calls (other : e.owner ≠ .call) {d : Entry} (hd : v.has d) (station : d.station = e.station) : d.owner = .call := by
  by_contra owner
  obtain ⟨o, ho, -⟩ := h.owned.entry_operation hd owner
  obtain ⟨call, -⟩ | ⟨p, hp, -⟩ := e.owner.cases_operation
  · exact other call
  · have same := (station ▸ ho).symm.trans (h.operation p hp)
    exact h.fresh d hd (congrArg Prod.snd (Option.some.inj same))

/-- The operation ends, and the station takes another state that takes CALLs. -/
theorem settled (other : e.owner ≠ .call) {new : StationState} (takes : new.takesCalls = true)
    (flag : (v.station e.station).hostTrim = true → new = .active ∨ new = .trimming) :
    ((v.moved e.station new).operationEnded e.station).Owned := by
  have record : (v.moved e.station new).station e.station = { v.station e.station with state := new } := if_pos rfl
  obtain ⟨asleep, still⟩ := h.still
  exact h.owned.settled ((h.owned.station _).pairs.idle h.idle (by rw [record]; exact h.idle) rfl rfl)
    (.of_still asleep (by rw [record]; exact still)) flag fun d hd station => ⟨h.calls other hd station, takes⟩

theorem trimEnded : PairOver e (v.trimEnded e.station) := by
  have record : (v.trimEnded e.station).station e.station = { v.station e.station with hostTrim := false } := if_pos rfl
  exact ⟨h.owned.trimEnded _, h.fresh, h.good,
    ⟨h.awaits, fun _ trim => e.owner.request_ne_trim (h.owned.single _ _ _ _ _ h.awaits trim).1⟩,
    fun o ho => by rw [record]; exact h.operation o ho, by rw [record]; exact h.idle, by rw [record]; exact h.state,
    fun wake => by rw [record]; exact h.woken wake⟩

/-- The next entry of the enrollment chain joins the queue (R72). -/
theorem enqueued (enroll : e.owner = .enroll) (order : Order) (attr value : Nat) :
    (v.enqueued { tag := e.tag, owner := .enroll, station := e.station, order := order, attr := attr, value := value }).Owned :=
  h.owned.enqueued h.fresh ⟨h.good, enroll ▸ h.awaits, fun o ho => h.operation o (enroll ▸ ho), fun call => by simp at call⟩
    fun wake => by simp at wake

end PairOver

section
variable {e : Entry} {s : State}

theorem enrollFails_owned (h : s.work.Owned) (a : Nat) (st : Status) : (enrollFails a st s).work.Owned := by
  unfold enrollFails
  split
  · next joining => exact State.enterAbsent_owned h (State.mem_of_state (s := s) (by simp [joining])) ..
  · exact h

theorem enrollNext_owned (h : PairOver e s.work) (enroll : e.owner = .enroll) (step : EnrollStep) (attr : Nat) :
    (enrollNext e step attr s).work.Owned := by
  have same : (s.onStation e.station (fun r => { r with step := some step })).work = s.work :=
    s.work_onStation_same _ fun _ => rfl
  simp only [enrollNext, State.work_setPhase, State.work_enqueue, same]
  exact h.enqueued enroll ..

theorem enrollCompletes_owned (h : PairOver e s.work) (enroll : e.owner = .enroll) :
    (enrollCompletes e.station s).work.Owned := by
  have same : (enrollCompletes e.station s).work = (s.work.moved e.station .active).operationEnded e.station := by
    simp only [enrollCompletes, State.work_onAccount]
    refine (State.work_onStation_same _ _ ?_).trans ?_
    · exact fun _ => rfl
    · rw [State.work_endOperation _ h.mem, State.work_moveStation _ h.mem]
  rw [same]
  exact h.settled (by simp [enroll]) rfl fun _ => .inl rfl

theorem enrollDone_owned (h : PairOver e s.work) (enroll : e.owner = .enroll) (echo value : Nat) :
    (enrollDone e echo value s).work.Owned := by
  have recorded : ∀ f : Station → Station, (∀ r, (f r).work = r.work) → PairOver e (s.onStation e.station f).work :=
    fun f hf => by rwa [s.work_onStation_same _ hf]
  have next : ∀ f : Station → Station, (∀ r, (f r).work = r.work) → ∀ step attr,
      (enrollNext e step attr (s.onStation e.station f)).work.Owned := fun f hf step attr =>
    enrollNext_owned (recorded f hf) enroll step attr
  have bad := enrollFails_owned h.owned e.station .badStation
  simp only [enrollDone]
  split
  · exact h.owned
  · exact enrollNext_owned h enroll ..
  · split
    · refine next _ ?_ _ _
      exact fun _ => rfl
    · exact bad
  · split
    · refine next _ ?_ _ _
      exact fun _ => rfl
    · exact bad
  · split
    · refine next _ ?_ _ _
      exact fun _ => rfl
    · exact bad
  · split
    · refine enrollCompletes_owned (recorded _ ?_) enroll
      exact fun _ => rfl
    · exact bad

theorem enrollEnds_owned (h : PairOver e s.work) (enroll : e.owner = .enroll) (r : Ending) :
    (enrollEnds e r s).work.Owned := by
  unfold enrollEnds
  split
  · cases r with
    | done echo value => exact enrollDone_owned h enroll echo value
    | _ => exact enrollFails_owned h.owned ..
  · exact h.owned

theorem drowseEnds_owned (h : PairOver e s.work) (drowse : e.owner = .drowse) (r : Ending) :
    (drowseEnds e r s).work.Owned := by
  have other : e.owner ≠ .call := by simp [drowse]
  have failed : ∀ st b, (s.endOperation e.station st b).work.Owned := fun st b => by
    rw [s.work_endOperation h.mem]
    exact h.owned.operationEnded fun d => h.calls other
  unfold drowseEnds
  split
  · simp only
    split
    · have ended : ((s.moveStation e.station .drowsy .drowse).endOperation e.station .ok (.address e.station)).work =
          (s.work.moved e.station .drowsy).operationEnded e.station := by
        rw [State.work_endOperation _ h.mem, s.work_moveStation h.mem]
      have awaits := congrArg WorkView.awaits ended
      have one : ∀ t u, ((s.moveStation e.station .drowsy .drowse).endOperation e.station .ok
          (.address e.station)).port.awaits t .trim (some e.station) → ((s.moveStation e.station .drowsy .drowse).endOperation
          e.station .ok (.address e.station)).port.awaits u .trim (some e.station) → t = u := fun t u ht hu => by
        have shrinks : ∀ t, ((s.moveStation e.station .drowsy .drowse).endOperation e.station .ok
            (.address e.station)).port.awaits t .trim (some e.station) → s.work.awaits t .trim (some e.station) := fun t ht =>
          ((iff_of_eq (congrFun (congrFun (congrFun awaits t) .trim) (some e.station))).mp ht).1
        exact (h.owned.station _).oneTrim t u (shrinks t ht) (shrinks u hu)
      rw [State.work_endHostTrim _ h.mem one, ended, WorkView.trimEnded_comm]
      exact h.trimEnded.settled other rfl fun flag => by simp [WorkView.trimEnded] at flag
    · exact h.owned
  all_goals exact failed ..

theorem probeEnds_owned (h : PairOver e s.work) (wake : e.owner = .wake) (r : Ending) : (probeEnds e r s).work.Owned := by
  have faulted : ∀ st, (s.enterFaulted e.station .wakeFailed st .faulted).work.Owned := fun st =>
    State.enterFaulted_owned h.owned h.mem h.still.1 h.still.2 ..
  unfold probeEnds
  simp only
  split
  · split
    · split
      · rw [State.work_endOperation _ h.mem, s.work_moveStation h.mem]
        exact h.settled (by simp [wake]) rfl fun _ => .inl rfl
      · exact faulted _
    all_goals exact faulted _
  · exact h.owned

end

/-- A CALL is answered, whatever its outcome (R124). -/
theorem callEnds_work (e : Entry) (r : Ending) (s : State) : (callEnds e r s).work = s.work.answered e.tag := by
  unfold callEnds
  repeat' split
  all_goals exact s.work_answer ..

/-- The exchange ends, its pair is freed, and its owner deals with the outcome (R122). -/
theorem handOff_owned {v : WorkView} {t : State} {j : Nat} {e : Entry} (h : v.Owned) (hj : v.caller j = some e) (r : Ending)
    (freed : t.work = v.pairFreed j e.station) : (handOff e r t).work.Owned := by
  have ended : e.owner ≠ .call → PairOver e t.work := fun other => freed ▸ .of_freed h hj other
  unfold handOff
  cases owner : e.owner with
  | call =>
    rw [callEnds_work, freed]
    exact h.callEnded hj owner
  | enroll => exact enrollEnds_owned (ended (by simp [owner])) owner r
  | drowse => exact drowseEnds_owned (ended (by simp [owner])) owner r
  | wake => exact probeEnds_owned (ended (by simp [owner])) owner r

end Sys2Proof.Machine
end

section

namespace Sys2Proof.Machine

/-! ## The slots (R98 to R101, R117 to R121) -/

section
variable {s t : State} {j slot : Nat} {x : Exchange}

/-- A pair whose exchange goes on keeps its entry. -/
theorem State.work_setExchange (hj : s.work.caller j = some x.entry) : (s.setExchange j (some x)).work = s.work := by
  obtain ⟨y, hy, entry⟩ := Option.map_eq_some_iff.mp hj
  refine State.work_eq (fun _ => rfl) rfl (by simp) (fun i => ?_) rfl (fun _ _ _ => Iff.rfl) rfl rfl
  rw [State.setExchange_exchange]
  split
  · next here =>
    obtain ⟨rfl, -⟩ := here
    rw [hy]
    exact congrArg some entry.symm
  · rfl

theorem OwnerKind.eq_wake {o : OwnerKind} (needs : o.needs = .waking) : o = .wake := by
  cases o <;> simp_all [OwnerKind.needs]

/-- A WAKING station with an exchange neither waits to be woken nor counts: the exchange is its PROBE (R81). -/
theorem WorkView.Owned.still_of_caller {v : WorkView} {e : Entry} (h : v.Owned) (hj : v.caller j = some e)
    (waking : (v.station e.station).state = .waking) : e.station ∉ v.wakes ∧ (v.station e.station).counting = false := by
  have needs := ((h.station e.station).caller j e hj rfl).2
  have probe : e.owner = .wake := OwnerKind.eq_wake (needs.symm.trans waking)
  have probed : ¬ v.noProbe e.station := fun none => none e (.inr ⟨j, hj⟩) probe rfl
  exact ⟨fun ha => probed ((h.station _).queued ha).2.2.2, Bool.eq_false_iff.mpr fun hc => probed ((h.station _).counting hc).2⟩

/-- An exchange that fails NO_REPLY leaves no station WAKING (R75, R79, R83). -/
theorem handOff_noReply_state {e : Entry} (good : e.station ∈ addresses) (needs : (t.station e.station).state = e.owner.needs) :
    ((handOff e .noReply t).station e.station).state ≠ .waking := by
  obtain ⟨h1, h15⟩ := mem_addresses.mp good
  cases owner : e.owner with
  | call =>
    have same : ((handOff e .noReply t).station e.station).state = (t.station e.station).state := by
      simp only [handOff, owner, callEnds, State.answer_station]
    rw [same, needs, owner]
    exact nofun
  | enroll =>
    rw [handOff_enroll_fails (r := .noReply) owner (by rw [needs, owner]; rfl) (by simp), State.enterAbsent_station,
      if_pos ⟨rfl, h1, h15⟩]
    exact nofun
  | drowse =>
    rw [handOff_drowse_fails (r := .noReply) owner (by simp), State.endOperation_station, if_pos ⟨rfl, h1, h15⟩]
    simp [needs, owner, OwnerKind.needs]
  | wake =>
    have waking : (t.station e.station).state = .waking := by rw [needs, owner]; rfl
    simp [handOff, owner, probeEnds, waking, State.enterFaulted_station, h1, h15]

theorem attemptMiss_owned (h : s.work.Owned) (hj : s.work.caller j = some x.entry) (slot : Nat) :
    (attemptMiss j slot x s).work.Owned := by
  have good := (h.owns (.inr ⟨j, hj⟩)).good
  have mem : x.entry.station ∈ addresses := mem_addresses.mpr (goodStation_iff.mp good)
  have missed : (s.reportMiss x.entry.station).work = s.work := s.work_reportMiss _
  have freed : (lastMissed j x.entry.station slot s).work = s.work.pairFreed j x.entry.station := by
    rw [lastMissed, State.work_freePair _ _ mem, State.work_reportFault, missed]
  have again : ∀ y : Exchange, y.entry = x.entry →
      ((s.reportMiss x.entry.station).setExchange j (some y)).work = s.work := fun y entry => by
    rw [State.work_setExchange (by rw [missed, entry]; exact hj), missed]
  have ended := handOff_owned h hj .noReply freed
  rw [attemptMiss_eq rfl]
  split
  · split
    · refine State.missLimit_owned ?_ _ ?_
      · rw [again]
        · exact h
        · rfl
      · rw [again]
        · exact h.still_of_caller hj
        · rfl
    · refine State.missLimit_owned ended _ fun waking => absurd waking (handOff_noReply_state mem ?_)
      have state := congrArg (fun v : WorkView => (v.station x.entry.station).state) freed
      have needs := ((h.station _).caller j _ hj rfl).2
      rw [← needs]
      exact state.trans (by simp [WorkView.pairFreed])
  · split
    · rw [again]
      · exact h
      · rfl
    · exact ended

theorem exchangeReply_owned (h : s.work.Owned) (hj : s.work.caller j = some x.entry) (r : Ending) :
    (exchangeReply j x r s).work.Owned := by
  have mem : x.entry.station ∈ addresses := mem_addresses.mpr (goodStation_iff.mp (h.owns (.inr ⟨j, hj⟩)).good)
  refine handOff_owned h hj r ?_
  rw [State.work_freePair _ _ mem, State.work_reportValid]

theorem exchangeWait_owned (h : s.work.Owned) (hj : s.work.caller j = some x.entry) : (exchangeWait j x s).work.Owned := by
  have mem : x.entry.station ∈ addresses := mem_addresses.mpr (goodStation_iff.mp (h.owns (.inr ⟨j, hj⟩)).good)
  have valid : (s.reportValid x.entry.station).work = s.work := s.work_reportValid _
  simp only [exchangeWait]
  split
  · rw [State.work_setExchange (by rw [valid]; exact hj), valid]
    exact h
  · refine handOff_owned h hj .stall ?_
    rw [State.work_freePair _ _ mem, valid]

theorem commandAnswer_owned (h : s.work.Owned) (hx : s.exchange j = some x) (slot : Nat) (c : UpClass) :
    (commandAnswer j slot x c s).work.Owned := by
  have hj : s.work.caller j = some x.entry := Option.map_eq_some_iff.mpr ⟨x, hx, rfl⟩
  have garbled : ∀ kind raw, (attemptMiss j slot x (s.reportFault x.entry.station kind slot raw)).work.Owned :=
    fun kind raw => attemptMiss_owned (by rwa [State.work_reportFault]) (by rwa [State.work_reportFault]) slot
  unfold commandAnswer
  split
  · simp only [exchangeSilent]
    split
    · rwa [State.work_setExchange (x := { x with framesLeft := x.framesLeft - 1 }) hj]
    · exact attemptMiss_owned (x := { x with framesLeft := x.framesLeft - 1 }) h hj slot
  · exact garbled ..
  · exact garbled ..
  iterate 3 exact exchangeReply_owned h hj _
  · exact exchangeWait_owned h hj
  · exact h

end

/-! ### The service pairs (R98 to R101) -/

section
variable {s : State} {k a : Nat}

theorem trimMiss_owned (h : s.work.Owned) (active : (s.work.station a).state = .active) : (trimMiss a s).work.Owned := by
  have missed : (s.reportMiss a).work = s.work := s.work_reportMiss a
  simp only [trimMiss]
  split
  · exact State.missLimit_owned (by rwa [missed]) _ fun waking => by simp [missed, active] at waking
  · rwa [missed]

theorem trimDone_owned (h : s.work.Owned) (active : (s.station a).state = .active) (idle : (s.station a).exchange = none)
    (k : Nat) : (trimDone k a s).work.Owned := by
  have mem : a ∈ addresses := State.mem_of_state (s := s) (by simp [active])
  have state : (s.work.station a).state = .active := active
  have idle : (s.work.station a).exchange = none := idle
  simp only [trimDone]
  split
  · rw [State.work_moveStation _ mem, State.work_onAccount, State.work_reportValid]
    obtain ⟨asleep, still⟩ := (h.station a).wake.asleep (by simp [state])
    refine h.moved idle asleep still (fun _ => .inr rfl) (fun o tag ho => ?_) fun _ _ _ _ => rfl
    have here := ((h.station a).operation o tag ho).2
    rw [state] at here
    cases o <;> simp_all [Operation.states]
  · simpa using h

theorem State.endHostTrim_owned (h : s.work.Owned) (ha : a ∈ addresses) (st : Status) (b : ReplyBody) :
    (s.endHostTrim a st b).work.Owned := by
  rw [s.work_endHostTrim ha (h.station a).oneTrim]
  exact h.trimEnded a

theorem trimRefused_owned (h : s.work.Owned) (ha : a ∈ addresses) : (trimRefused a s).work.Owned := by
  have valid : (s.reportValid a).work = s.work := s.work_reportValid a
  have counted : ((s.reportValid a).onStation a (fun r => { r with refusals := r.refusals + 1 })).work = s.work := by
    refine (State.work_onStation_same _ _ ?_).trans valid
    exact fun _ => rfl
  simp only [trimRefused]
  split
  · split
    · exact State.endHostTrim_owned (by rwa [counted]) ha ..
    · rwa [counted]
  · rwa [valid]

theorem trimAnswer_owned (h : s.work.Owned) (hk : s.trims.held k = some a) (slot : Nat) (c : UpClass) :
    (trimAnswer k slot a c s).work.Owned := by
  obtain ⟨-, active⟩ := (h.station a).trim k hk
  have mem : a ∈ addresses := State.mem_of_work_state (s := s) (by simp [active])
  have freed : (s.freeService k a).work.Owned := by
    rw [s.work_freeService k mem]
    exact h.serviceFreed hk
  obtain ⟨h1, h15⟩ := mem_addresses.mp mem
  have record : (s.freeService k a).station a = { s.station a with exchange := none } := by simp [h1, h15]
  have active' : ((s.freeService k a).station a).state = .active := by rw [record]; exact active
  have garbled : ∀ kind raw, (trimMiss a ((s.freeService k a).reportFault a kind slot raw)).work.Owned := fun kind raw =>
    trimMiss_owned (by rwa [State.work_reportFault]) (by rw [State.work_reportFault]; exact active')
  simp only [trimAnswer]
  split
  · exact trimMiss_owned freed active'
  · exact garbled ..
  · exact garbled ..
  · exact trimDone_owned freed active' (by rw [record]) k
  · exact trimRefused_owned freed mem
  · exact trimRefused_owned freed mem
  all_goals exact freed

end

/-! ### Every slot -/

section
variable {s : State}

@[simp] theorem clearSendDue_work (j : Nat) : (clearSendDue j s).work = s.work := by
  refine State.work_eq (fun a => by simp [State.station]) (by simp) (by simp) (fun i => ?_) (by simp)
    (fun _ _ _ => by simp) (by simp) (by simp)
  rw [clearSendDue_exchange]
  split
  · next here =>
    rw [here]
    cases s.exchange j <;> rfl
  · rfl

theorem serveSlot_owned (h : s.work.Owned) (r : Role) (slot : Nat) (line : Option Word) :
    (serveSlot r slot line s).work.Owned := by
  have same : ∀ {t : State}, t.stations = s.stations → t.calls = s.calls → t.trims = s.trims → t.port = s.port →
      t.plans = s.plans → t.work.Owned := fun stations calls trims port plans => by
    rwa [State.work_of_blocks stations calls (by rw [trims]) port (by rw [plans])]
  unfold serveSlot
  split
  case h_4 =>
    split
    · next a hk => exact trimAnswer_owned h hk ..
    · exact same (by simp) (by simp) (by simp) (by simp) (by simp)
  case h_5 j =>
    have sent : (drive slot (s.commandWord j) line (clearSendDue j s)).work = s.work :=
      (State.work_of_blocks (by simp) (by simp) (by simp) (by simp) (by simp)).trans (clearSendDue_work j)
    rwa [sent]
  case h_6 =>
    split
    · next x hx => exact commandAnswer_owned h hx ..
    · exact same (by simp) (by simp) (by simp) (by simp) (by simp)
  case h_7 =>
    repeat' split
    all_goals exact same (by simp) (by simp) (by simp) (by simp) (by simp)
  all_goals exact same (by simp) (by simp) (by simp) (by simp) (by simp)

theorem slotEvent_owned (h : s.work.Owned) (slot : Nat) (line : Option Word) : (slotEvent slot line s).work.Owned := by
  refine serveSlot_owned ?_ ..
  rwa [State.work_of_blocks (s := s) (t := beginSlot slot s) (by simp) (by simp) (by simp) (by simp) (by simp)]

theorem passFrom_owned : ∀ (n slot : Nat) {s : State}, s.work.Owned → (passFrom slot n s).work.Owned
  | 0, _, _, h => h
  | n + 1, slot, _, h => passFrom_owned n (slot + 1) (slotEvent_owned h slot none)

theorem passSlots_owned (h : s.work.Owned) (slot : Nat) : (passSlots slot s).work.Owned := by
  unfold passSlots
  split
  · exact h
  · exact passFrom_owned _ _ h

end

end Sys2Proof.Machine
end

section

namespace Sys2Proof.Machine

namespace WorkView

variable {v : WorkView} {a : Nat}

/-! ## Stations at rest (R64, R69, R80, R105)

What a station's state says of the work it can have. -/

/-- Only an ACTIVE, JOINING or WAKING station has an exchange (R69, R115). -/
theorem Owned.idle (h : v.Owned) (active : (v.station a).state ≠ .active) (joining : (v.station a).state ≠ .joining)
    (waking : (v.station a).state ≠ .waking) : (v.station a).exchange = none := by
  cases field : (v.station a).exchange with
  | none => rfl
  | some p =>
    cases p with
    | service k => exact absurd ((h.station a).service k field) active
    | command j =>
      obtain ⟨e, hj, station⟩ := (h.station a).command j field
      have needs := ((h.station a).caller j e hj station).2
      cases owner : e.owner <;> simp_all [OwnerKind.needs]

/-- A station in a state that no operation stands in has none pending (R64). -/
theorem Owned.no_operation (h : v.Owned) (free : ∀ o : Operation, (v.station a).state ∉ o.states) :
    (v.station a).operation = none := by
  cases pending : (v.station a).operation with
  | none => rfl
  | some o => exact absurd ((h.station a).operation o.1 o.2 pending).2 (free o.1)

theorem Owned.no_flag (h : v.Owned) (active : (v.station a).state ≠ .active) (trimming : (v.station a).state ≠ .trimming) :
    (v.station a).hostTrim = false :=
  Bool.eq_false_iff.mpr fun flag => ((h.station a).flag flag).1.elim active trimming

/-- An entry beside a CALL's has its operation pending. -/
theorem Owned.entry_call (h : v.Owned) (free : (v.station a).operation = none) {e : Entry} (he : v.has e)
    (station : e.station = a) : e.owner = .call := by
  by_contra other
  obtain ⟨o, ho, -⟩ := h.entry_operation he other
  simp [station, free] at ho

end WorkView

/-! ## Frame starts and frame ends (R4)

Every owner's part of a frame start and of a frame end keeps the work owned. -/

section
variable {s : State} {a : Nat}

/-! ### The plan swap (R33, R34) -/

theorem swapPlans_work (c : PendingCommit) :
    (swapPlans c s).work = ({ s.work.answered c.tag with commit := none } : WorkView) := by
  obtain ⟨-, stations, trims, calls, -⟩ := swapPlans_frame s c
  have port : (swapPlans c s).port = s.port.answer c.tag .ok (.commit c.target (s.plans.staged.generation + 1)) :=
    (swapPlans_parts c s).2.2
  have plans := swapPlans_plans c s
  generalize swapPlans c s = t at *
  refine WorkView.ext ?_ ?_ ?_ ?_ ?_ ?_ ?_ ?_
  · simp only [State.work, State.station, stations]
    rfl
  · simp only [State.work, stations]
    rfl
  · simp only [State.work, calls]
    rfl
  · simp only [State.work, State.exchange, calls]
    rfl
  · simp only [State.work, trims]
    rfl
  · funext t k x
    simp only [State.work, port]
    exact propext HostPort.awaits_answer
  · simp only [State.work, port]
    exact (HostPort.answer_frame ..).2.2.2.2.2.2
  · simp only [State.work, plans]
    rfl

theorem planSwap_owned (h : s.work.Owned) : (planSwap s).work.Owned := by
  unfold planSwap
  split
  · next c hc =>
    split
    · rw [swapPlans_work]
      have waits : s.work.awaits c.tag .commit none := h.commit c.tag (by simp [State.work, hc])
      exact h.answered (fun k x other => by rw [(h.single _ _ _ _ _ other waits).1]; rfl) fun t ht => by simp at ht
    · exact h
  · exact h

/-! ### Quiet spans and accrual (R90 to R93, R103) -/

theorem quietSpanEnds_owned (h : s.work.Owned) (trimming : (s.station a).state = .trimming) :
    (quietSpanEnds a s).work.Owned := by
  have mem : a ∈ addresses := State.mem_of_state (s := s) (by simp [trimming])
  have state : (s.work.station a).state = .trimming := trimming
  have idle := h.idle (a := a) (by simp [state]) (by simp [state]) (by simp [state])
  obtain ⟨asleep, still⟩ := (h.station a).wake.asleep (by simp [state])
  have moved : (s.moveStation a .active .trimEnd).work.Owned := by
    rw [s.work_moveStation mem]
    refine h.moved idle asleep still (fun _ => .inl rfl) (fun o tag ho => ?_) fun _ _ _ _ => rfl
    have here := ((h.station a).operation o tag ho).2
    rw [state] at here
    cases o <;> simp_all [Operation.states]
  simp only [quietSpanEnds, State.work_endQuiet]
  exact State.endHostTrim_owned moved mem ..

theorem endQuietSpans_owned (h : s.work.Owned) : (endQuietSpans s).work.Owned := by
  refine foldl_keeps (P := fun t : State => t.work.Owned) (fun t a ht => ?_) addresses s h
  split
  · next ends =>
    simp only [State.quietEnds, Bool.and_eq_true, beq_iff_eq] at ends
    exact quietSpanEnds_owned ht ends.1
  · exact ht

theorem breach_owned (h : s.work.Owned) (a : Nat) : (breach a s).work.Owned := by
  unfold breach
  split
  · next active =>
    have state : (s.work.station a).state = .active := active
    obtain ⟨asleep, still⟩ := (h.station a).wake.asleep (by simp [state])
    exact State.enterFaulted_owned h (State.mem_of_state (s := s) (by simp [active])) asleep still ..
  · exact h

theorem trimFallsDue_owned (h : s.work.Owned) (a : Nat) : (trimFallsDue a s).work.Owned := by
  simp only [trimFallsDue]
  split
  · simpa only [State.work_onAccount] using h
  · exact breach_owned (by simpa only [State.work_onAccount] using h) a

theorem accrue_owned (h : s.work.Owned) : (accrue s).work.Owned := by
  refine foldl_keeps (P := fun t : State => t.work.Owned) (fun t a ht => ?_) addresses s h
  unfold accrueStation
  split
  · split
    · exact trimFallsDue_owned ht a
    · simpa only [State.work_onAccount] using ht
  · exact ht

/-! ### The grants (R94 to R97, R114, R115) -/

theorem grantService_work {k : Nat} (hk : k ∈ pairNumbers) (ha : a ∈ addresses) :
    (grantService s (k, a)).work = s.work.serviceGranted k a := by
  have field := State.work_onStation (s.holdTrim k (some a)) ha (f := fun r => { r with exchange := some (.service k) })
    (g := fun r => { r with exchange := some (.service k) }) fun _ => rfl
  rw [grantService, field]
  refine WorkView.ext rfl rfl rfl rfl (funext fun i => ?_) rfl rfl rfl
  change (s.trims.hold k (some a)).held i = if i = k then some a else s.trims.held i
  rw [TrimScheduler.held_hold]
  simp only [mem_pairNumbers.mp hk, and_true, eq_comm]

theorem grantServices_fold_owned : ∀ (ks as : List Nat) {s : State}, s.work.Owned → (∀ k ∈ ks, k ∈ pairNumbers) →
    as.Nodup → (∀ a ∈ as, (s.work.station a).exchange = none ∧ (s.work.station a).state = .active) →
    ((ks.zip as).foldl grantService s).work.Owned
  | [], _, _, h, _, _, _ => by simpa using h
  | _ :: _, [], _, h, _, _, _ => by simpa using h
  | k :: ks, a :: as, s, h, pairs, nodup, ready => by
    obtain ⟨fresh, nodup⟩ := List.nodup_cons.mp nodup
    obtain ⟨idle, active⟩ := ready a List.mem_cons_self
    have mem : a ∈ addresses := State.mem_of_work_state (s := s) (by simp [active])
    have granted := grantService_work (s := s) (pairs k List.mem_cons_self) mem
    rw [List.zip_cons_cons, List.foldl_cons]
    refine grantServices_fold_owned ks as (granted ▸ h.serviceGranted k idle active)
      (fun i hi => pairs i (List.mem_cons_of_mem k hi)) nodup fun b hb => ?_
    have other : b ≠ a := by rintro rfl; exact fresh hb
    have same : (s.work.serviceGranted k a).station b = s.work.station b := if_neg other
    rw [granted, same]
    exact ready b (List.mem_cons_of_mem a hb)

theorem grantServices_owned (h : s.work.Owned) : (grantServices s).work.Owned := by
  refine grantServices_fold_owned _ _ h (fun k hk => List.mem_of_mem_take hk) s.ranked_nodup fun a ha => ?_
  obtain ⟨-, eligible⟩ := (s.mem_ranked).mp ha
  simp only [State.trimEligible, Bool.and_eq_true, beq_iff_eq, Option.isNone_iff_eq_none] at eligible
  exact ⟨eligible.1.2, eligible.1.1⟩

theorem grantEntry_work {j : Nat} (hj : j ∈ pairNumbers) {e : Entry} (he : e.station ∈ addresses) :
    (s.grantEntry j e).work = s.work.granted j e := by
  obtain ⟨h1, h4⟩ := mem_pairNumbers.mp hj
  rw [State.grantEntry, State.work_setPhase]
  refine (State.work_onStation _ he (g := fun r => { r with exchange := some (.command j) }) fun _ => rfl).trans ?_
  refine WorkView.ext rfl rfl ?_ (funext fun i => ?_) rfl rfl rfl rfl
  · simp [State.work, WorkView.granted, WorkView.on]
  · simp only [State.work, WorkView.granted, WorkView.on, State.setExchange_exchange]
    by_cases here : i = j
    · simp [here, h1, h4, Entry.granted]
    · simp [here, Ne.symm here, State.exchange]
      rfl

theorem grantPair_owned {j : Nat} (hj : j ∈ pairNumbers) (h : s.work.Owned) : (grantPair s j).work.Owned := by
  obtain ⟨same, -⟩ | ⟨e, -, free, found, granted⟩ := grantPair_cases s j
  · rwa [same]
  · have eligible := List.find?_some found
    obtain ⟨mem, idle⟩ := State.mem_of_entryEligible eligible
    simp only [State.entryEligible, Bool.and_eq_true, beq_iff_eq] at eligible
    obtain ⟨⟨⟨-, needs⟩, -⟩, -⟩ := eligible
    have wanted : e.needs = e.owner.needs := by
      unfold Entry.needs OwnerKind.needs
      cases e.owner <;> rfl
    rw [granted, grantEntry_work hj mem]
    exact h.granted (by simp [State.work, free]) (List.mem_of_find?_eq_some found) idle (needs.trans wanted)

theorem grantCommands_owned (h : s.work.Owned) : (grantCommands s).work.Owned :=
  foldl_keeps_mem (P := fun t : State => t.work.Owned) pairNumbers s (fun _ _ hj => grantPair_owned hj) h

theorem nameWake_owned (h : s.work.Owned) : (nameWake s).work.Owned := by
  unfold nameWake
  split
  · exact h
  · next a rest queue =>
    have named : s.work.wakes = a :: rest := queue
    have mem : a ∈ addresses :=
      mem_addresses.mpr (goodStation_iff.mp ((h.station a).queued (named ▸ List.mem_cons_self)).1)
    dsimp only
    rw [State.work_onStation _ mem (g := fun r => { r with counting := true }) fun _ => rfl]
    exact h.wakeNamed named

/-- A frame start keeps the work owned (R4). -/
theorem frameStart_owned (h : s.work.Owned) : (frameStart s).work.Owned := by
  have assigned : (assignFrame s).work.Owned := h
  have before : s.beforeGrants.work.Owned := accrue_owned (endQuietSpans_owned (planSwap_owned assigned))
  rw [frameStart_eq]
  split
  · exact nameWake_owned (grantCommands_owned (grantServices_owned before))
  · exact before

/-! ### The wake countdowns (R81) -/

/-- A WAKING station whose wait is over queues its PROBE. -/
theorem queueProbe_owned (h : s.work.Owned) (waking : (s.work.station a).state = .waking) (asleep : a ∉ s.work.wakes)
    (still : (s.work.station a).counting = false) (quiet : s.work.noProbe a) : (queueProbe a s).work.Owned := by
  unfold queueProbe
  split
  · exact h
  · next o tag pending =>
    have mem : a ∈ addresses := State.mem_of_work_state (s := s) (by simp [waking])
    obtain ⟨waits, states⟩ := (h.station a).operation o tag pending
    obtain rfl : o = .wake := by
      rw [waking] at states
      cases o <;> simp [Operation.states] at states
      rfl
    rw [State.work_setPhase, State.work_enqueue]
    refine h.enqueued (fun d hd same => ?_)
      ⟨goodStation_iff.mpr (mem_addresses.mp mem), waits, fun o ho => ?_, fun call => by simp at call⟩ fun _ => ⟨asleep, still⟩
    · obtain ⟨kind, target⟩ := h.entry_of_awaits hd same waits
      exact quiet d hd (by cases owner : d.owner <;> simp_all [OwnerKind.request, Operation.request])
        (Option.some.inj target).symm
    · obtain rfl : Operation.wake = o := by simpa [OwnerKind.operation] using ho
      exact pending

theorem wakeTick_owned (h : s.work.Owned) (ha : a ∈ addresses) : (wakeTick s a).work.Owned := by
  unfold wakeTick
  split
  · exact h
  · next n counts =>
    have counting : (s.work.station a).counting = true := by simp [State.work, Station.work, counts]
    split
    · have ended := s.work_onStation ha (f := fun r => { r with wakeCountdown := none })
        (g := fun r => { r with counting := false }) fun _ => rfl
      have record : (s.work.on a (fun r => { r with counting := false })).station a =
          { s.work.station a with counting := false } := if_pos rfl
      obtain ⟨waking, quiet⟩ := (h.station a).counting counting
      refine queueProbe_owned (ended ▸ h.ticked a) ?_ ?_ ?_ ?_ <;> rw [ended]
      · rw [record]
        exact waking
      · exact fun queued => by simp [((h.station a).queued queued).2.2.1] at counting
      · rw [record]
      · exact quiet
    · rw [s.work_onStation ha (f := fun r => { r with wakeCountdown := some (n - 1) })
        (g := fun r => { r with counting := true }) fun _ => rfl]
      have same : s.work.on a (fun r => { r with counting := true }) = s.work := by
        refine WorkView.ext (funext fun b => ?_) rfl rfl rfl rfl rfl rfl rfl
        by_cases here : b = a
        · subst here
          simp [← counting]
        · simp [here]
      rwa [same]

theorem closeFrame_owned (h : s.work.Owned) : (closeFrame s).work.Owned := by
  rw [closeFrame_eq]
  have closed : (passSlots Config.slots s).overFrame.work.Owned := passSlots_owned h _
  exact foldl_keeps_mem (P := fun t : State => t.work.Owned) addresses _ (fun _ _ ha ht => wakeTick_owned ht ha) closed

/-! ### The completed stop (R11, R86, R128) -/

theorem stopStations_owned (h : s.work.Owned) : (addresses.foldl stopStation s).work.Owned := by
  refine foldl_keeps_mem (P := fun t : State => t.work.Owned) addresses s (fun t a ha ht => ?_) h
  unfold stopStation
  split
  · exact ht
  · exact State.enterAbsent_owned ht ha ..

/-- With every station ABSENT nothing waits to be woken, is queued or in flight. -/
theorem WorkView.Owned.all_absent {v : WorkView} (h : v.Owned) (absent : ∀ a, (v.station a).state = .absent) :
    v.wakes = [] ∧ v.queue = [] ∧ ∀ j, v.caller j = none := by
  refine ⟨List.eq_nil_iff_forall_not_mem.mpr fun a ha => ?_,
    List.eq_nil_iff_forall_not_mem.mpr fun e he => h.no_entry absent e (.inl he),
    fun j => Option.eq_none_iff_forall_ne_some.mpr fun e hj => h.no_entry absent e (.inr ⟨j, hj⟩)⟩
  exact absurd ((absent a).symm.trans ((h.station a).queued ha).2.1) (by simp)

theorem callUnitStop_work (queue : s.work.queue = []) (idle : ∀ j, s.work.caller j = none) :
    (callUnitStop s).work = s.work := by
  have empty : s.calls.queue = [] := queue
  have free : ∀ j, s.exchange j = none := fun j => Option.map_eq_none_iff.mp (idle j)
  have start : (s.dequeue fun _ => true).failCalls s.calls.queue .aborted = s.dequeue fun _ => true := by
    rw [empty]
    rfl
  have stopped : pairNumbers.foldl stopPair (s.dequeue fun _ => true) = s.dequeue fun _ => true := by
    refine foldl_keeps (P := fun t => t = s.dequeue fun _ => true) (fun t j ht => ?_) _ _ rfl
    subst ht
    have none : (s.dequeue fun _ => true).exchange j = none := free j
    simp [stopPair, none]
  rw [callUnitStop_eq, start, stopped, State.work_dequeue]
  exact WorkView.ext rfl rfl (by simp [WorkView.dequeued, queue]) rfl rfl rfl rfl rfl

theorem State.answerKind_owned (h : s.work.Owned) {k : ReqKind} (plain : k.hasWork = false) (other : k ≠ .commit)
    (target : Option Nat) (st : Status) (b : ReplyBody) : (s.answerKind k target st b).work.Owned := by
  unfold State.answerKind
  split
  · exact h
  · next tag found =>
    have waits : s.work.awaits tag k target := HostPort.awaits_of_waiting found
    rw [State.work_answer]
    refine h.answered (commit := s.work.commit) (fun l x hl => (h.single _ _ _ _ _ hl waits).1 ▸ plain) fun t ht => ⟨ht, ?_⟩
    rintro rfl
    exact other (h.single _ _ _ _ _ waits (h.commit t ht)).1

theorem streamUnitStop_work (s : State) : (streamUnitStop s).work = s.work :=
  State.work_of_blocks (by simp) (by simp) (by simp) (by simp) (by simp)

theorem trunkStops_owned (h : s.work.Owned) : (trunkStops s).work.Owned := by
  have stopped : (addresses.foldl stopStation s.halted).work.Owned := stopStations_owned (s := s.halted) h
  obtain ⟨station, calls, trims, port, wakes⟩ := stationManagerStop_parts s.halted
  have plans : (stationManagerStop s.halted).plans = (addresses.foldl stopStation s.halted).plans :=
    (stationManagerStop_frame s.halted).2.1.trans (foldl_same (p := State.plans) (fun t a => by simp) _ _).symm
  have absent : ∀ a, ((addresses.foldl stopStation s.halted).work.station a).state = .absent := fun a => by
    by_cases ha : a ∈ addresses
    · obtain ⟨h1, h15⟩ := mem_addresses.mp ha
      exact stopStations_absent s.halted h1 h15
    · rw [State.work_of_not_mem _ ha]
  generalize addresses.foldl stopStation s.halted = t at *
  obtain ⟨noWakes, noQueue, noCaller⟩ := stopped.all_absent absent
  have same : (stationManagerStop s.halted).work = t.work :=
    State.work_eq (fun a => by rw [station]) (wakes.trans noWakes.symm) (by rw [calls])
      (fun j => by simp only [State.exchange, calls]) (by rw [trims]) (fun _ _ _ => by rw [port]) (by rw [port]) (by rw [plans])
  have called : (callUnitStop (stationManagerStop s.halted)).work = t.work :=
    (callUnitStop_work (by rw [same]; exact noQueue) (by rw [same]; exact noCaller)).trans same
  have ended : (streamUnitStop (callUnitStop (stationManagerStop s.halted))).work.Owned := by
    rw [streamUnitStop_work, called]
    exact stopped
  rw [trunkStops_eq]
  exact State.answerKind_owned (State.answerKind_owned ended rfl (by simp) ..) rfl (by simp) ..

theorem startingTick_owned (h : s.work.Owned) : (startingTick s).work.Owned := by
  simp only [startingTick]
  split
  · exact State.answerKind_owned (k := .trunkStart)
      (s := { s with engine := { s.engine with countdown := s.engine.countdown - 1, trunk := .running } }) h rfl (by simp) ..
  · exact h

/-- A frame end keeps the work owned (R4). -/
theorem frameEnd_owned (h : s.work.Owned) : (frameEnd s).work.Owned := by
  have closed := closeFrame_owned h
  unfold frameEnd settleTrunk
  generalize closeFrame s = t at *
  split
  · exact closed
  · exact trunkStops_owned closed
  · split
    · exact trunkStops_owned closed
    · exact startingTick_owned closed
  · split
    · exact trunkStops_owned closed
    · exact closed

end

end Sys2Proof.Machine
end

section

namespace Sys2Proof.Machine

namespace WorkView

variable {v : WorkView} {a : Nat} {tag : Byte}

/-! ## Requests begin (R71, R78, R80) -/

theorem begun_eq (v : WorkView) (a : Nat) (o : Operation) (tag : Byte) (new : StationState) :
    ((v.moved a new).on a (fun r => { r with operation := some (o, tag) })).entered tag o.request (some a) =
      v.begun a o tag new := by
  refine ext (funext fun b => ?_) rfl rfl rfl rfl rfl rfl rfl
  by_cases here : b = a
  · subst here
    simp [entered, moved, begun]
  · simp [entered, moved, begun, here]

/-- Where the state stays, the operation alone begins. -/
theorem begun_self (v : WorkView) (a : Nat) (o : Operation) (tag : Byte) :
    (v.on a (fun r => { r with operation := some (o, tag) })).entered tag o.request (some a) =
      v.begun a o tag (v.station a).state := by
  rw [← begun_eq, moved_self]

/-- The entry of an operation that has begun joins the queue. -/
theorem Owned.begunQueued (h : v.Owned) (unused : ∀ k x, ¬ v.awaits tag k x) {o : Operation} {new : StationState}
    (begun : (v.begun a o tag new).Owned) (ha : a ∈ addresses) {e : Entry} (station : e.station = a) (same : e.tag = tag)
    (owner : e.owner.operation = some o) (request : e.owner.request = o.request) (noProbe : e.owner ≠ .wake) :
    ((v.begun a o tag new).enqueued e).Owned := by
  subst station same
  refine begun.enqueued (fun d hd => h.fresh unused hd) ⟨goodStation_iff.mpr (mem_addresses.mp ha), ?_, fun p hp => ?_,
    fun call => by simp [call, OwnerKind.operation] at owner⟩ fun wake => absurd wake noProbe
  · rw [request]
    exact .inr ⟨rfl, rfl, rfl⟩
  · obtain rfl : o = p := by simpa [owner] using hp
    rw [begun_station]

/-- A station without work begins to join (R71). -/
theorem Owned.joins (h : v.Owned) (unused : ∀ k x, ¬ v.awaits tag k x)
    (rest : (v.station a).state = .absent ∨ (v.station a).state = .faulted) : (v.begun a .enroll tag .joining).Owned := by
  have state : ∀ new : StationState, new ≠ .absent → new ≠ .faulted → (v.station a).state ≠ new := fun new absent faulted same =>
    rest.elim (fun here => absent (same.symm.trans here)) fun here => faulted (same.symm.trans here)
  have idle := h.idle (state .active nofun nofun) (state .joining nofun nofun) (state .waking nofun nofun)
  obtain ⟨asleep, still⟩ := (h.station a).wake.asleep (state .waking nofun nofun)
  have free : (v.station a).operation = none := h.no_operation fun o here => by
    obtain same | same := rest <;> rw [same] at here <;> cases o <;> simp [Operation.states] at here
  have flag := h.no_flag (state .active nofun nofun) (state .trimming nofun nofun)
  refine h.begun unused free ((h.station a).pairs.idle idle (by rw [begun_station]; exact idle) rfl rfl) asleep still
    (fun set => by simp [flag] at set) (by simp [Operation.states]) fun e he station call => ?_
  have takes := (h.owns he).takesCalls call
  rw [station] at takes
  obtain same | same := rest <;> simp [same, StationState.takesCalls] at takes

/-- An ACTIVE station without operation begins to drowse (R78). -/
theorem Owned.drowses (h : v.Owned) (unused : ∀ k x, ¬ v.awaits tag k x) (active : (v.station a).state = .active)
    (free : (v.station a).operation = none) : (v.begun a .drowse tag .active).Owned := by
  obtain ⟨asleep, still⟩ := (h.station a).wake.asleep (by simp [active])
  refine h.begun unused free ?_ asleep still (fun _ => .inl rfl) (by simp [Operation.states]) fun _ _ _ _ => rfl
  exact (h.station a).pairs.congr (fun _ _ _ => Iff.rfl) (fun _ => id) (by rw [begun_station]) (by rw [begun_station, active])

/-- A DROWSY station begins to wake, at the end of the wake queue (R80). -/
theorem Owned.wakes (h : v.Owned) (unused : ∀ k x, ¬ v.awaits tag k x) (ha : a ∈ addresses)
    (drowsy : (v.station a).state = .drowsy) :
    ({ v.begun a .wake tag .waking with wakes := v.wakes ++ [a] } : WorkView).Owned := by
  have idle := h.idle (a := a) (by simp [drowsy]) (by simp [drowsy]) (by simp [drowsy])
  obtain ⟨asleep, still⟩ := (h.station a).wake.asleep (by simp [drowsy])
  have free : (v.station a).operation = none := h.no_operation fun o here => by
    rw [drowsy] at here
    cases o <;> simp [Operation.states] at here
  have flag := h.no_flag (a := a) (by simp [drowsy]) (by simp [drowsy])
  have begun : (v.begun a .wake tag .waking).Owned :=
    h.begun unused free ((h.station a).pairs.idle idle (by rw [begun_station]; exact idle) rfl rfl) asleep still
      (fun set => by simp [flag] at set) (by simp [Operation.states]) fun _ _ _ _ => rfl
  refine begun.wakesChanged (a := a) (List.nodup_append.mpr ⟨h.once, List.nodup_singleton a, fun b hb c hc same => ?_⟩)
    (fun b other hb => ?_) fun _ => ⟨goodStation_iff.mpr (mem_addresses.mp ha), by rw [begun_station],
      by rw [begun_station]; exact still, fun e he probe station => ?_⟩
  · obtain rfl : c = a := by simpa using hc
    exact asleep (same ▸ hb)
  · exact (List.mem_append.mp hb).resolve_right fun here => other (by simpa using here)
  · have he : v.has e := he
    simp [h.entry_call free he station] at probe

/-! ## Requests are withdrawn (R76, R78, R82) -/

/-- The queued entry of an operation and of its request. -/
theorem Owned.queued_entry (h : v.Owned) {o : Operation} {e : Entry} (he : e ∈ v.queue) {x : Option Nat}
    (waits : v.awaits e.tag o.request x) : e.owner ≠ .call ∧ x = some e.station ∧ e.station ∈ addresses := by
  obtain ⟨kind, target⟩ := h.entry_of_awaits (.inl he) rfl waits
  refine ⟨fun call => o.request_ne_call ?_, target, mem_addresses.mpr (goodStation_iff.mp (h.owns (.inl he)).good)⟩
  rw [← kind, call]
  rfl

/-- A pending operation with its entry queued is withdrawn (R78). -/
theorem Owned.operationWithdrawn (h : v.Owned) {e : Entry} (he : e ∈ v.queue) (other : e.owner ≠ .call) :
    ((v.dequeued (fun d => d.tag == e.tag)).operationEnded e.station).Owned := by
  refine (h.dequeued he other).operationEnded fun d hd station => ?_
  obtain ⟨hd, apart⟩ := (dequeued_has h he).mp hd
  by_contra owner
  obtain ⟨o, ho, -⟩ := h.entry_operation (.inl he) other
  obtain ⟨p, hp, -⟩ := h.entry_operation hd owner
  rw [station, ho] at hp
  exact apart (congrArg Prod.snd (Option.some.inj hp)).symm

/-- A station still in the wake queue goes back to DROWSY (R82). -/
theorem Owned.wakeWithdrawn (h : v.Owned) (ha : a ∈ v.wakes) :
    ((({ v with wakes := v.wakes.filter (· != a) } : WorkView).moved a .drowsy).operationEnded a).Owned := by
  obtain ⟨good, waking, still, quiet⟩ := (h.station a).queued ha
  have gone : a ∉ v.wakes.filter (· != a) := fun mem => by simpa using (List.mem_filter.mp mem).2
  have left : ({ v with wakes := v.wakes.filter (· != a) } : WorkView).Owned :=
    h.wakesChanged (a := a) (h.once.filter _) (fun b _ hb => (List.mem_filter.mp hb).1) fun here => absurd here gone
  have idle : (v.station a).exchange = none := by
    cases field : (v.station a).exchange with
    | none => rfl
    | some p =>
      cases p with
      | service k => simp [(h.station a).service k field] at waking
      | command j =>
        obtain ⟨e, hj, rfl⟩ := (h.station a).command j field
        have needs := ((h.station _).caller j e hj rfl).2
        exact absurd rfl (quiet e (.inr ⟨j, hj⟩) (OwnerKind.eq_wake (needs.symm.trans waking)))
  have flag := h.no_flag (a := a) (by simp [waking]) (by simp [waking])
  refine left.settled ((left.station a).pairs.idle idle (by simpa [WorkView.moved] using idle) rfl rfl)
    (.of_still gone (by simpa [WorkView.moved] using still)) (fun set => ?_) fun e he station => ⟨?_, rfl⟩
  · have set : (v.station a).hostTrim = true := set
    simp [flag] at set
  · have he : v.has e := he
    by_contra other
    obtain ⟨o, ho, request⟩ := h.entry_operation he other
    rw [station] at ho
    have states := ((h.station a).operation o e.tag ho).2
    rw [waking] at states
    refine quiet e he ?_ station
    cases o <;> simp [Operation.states] at states
    cases owner : e.owner <;> simp_all [OwnerKind.request, Operation.request]

end WorkView

section
variable {s t : State}

/-- A tag that stands nowhere in the table is awaited by no request. -/
theorem State.unused_of_fresh {tag : Byte} (fresh : tag ∉ s.port.table.map (·.tag)) (k : ReqKind) (x : Option Nat) :
    ¬ s.work.awaits tag k x := fun ⟨o, ho, same, _⟩ => fresh (List.mem_map.mpr ⟨o, ho, same⟩)

/-- CANCEL keeps the work owned, whatever request it withdraws (R158). -/
theorem cancelEntry_owned (h : s.work.Owned) {e : Outstanding} (mem : e ∈ s.port.table) (unanswered : e.replied = false)
    (owner : cancelEntry e s = some t) : t.work.Owned := by
  have waits : s.work.awaits e.tag e.kind e.target := ⟨e, mem, rfl, rfl, rfl, unanswered⟩
  have queued : ∀ {o : Operation}, e.kind = o.request → s.isQueued e.tag = true →
      ∃ d ∈ s.work.queue, d.tag = e.tag ∧ d.owner ≠ .call ∧ e.target = some d.station ∧ d.station ∈ addresses :=
    fun {o} kind found => by
      obtain ⟨d, hd, same⟩ := List.any_eq_true.mp found
      have same : d.tag = e.tag := by simpa using same
      have hd : d ∈ s.work.queue := hd
      exact ⟨d, hd, same, h.queued_entry hd (o := o) (by rw [same, ← kind]; exact waits)⟩
  unfold cancelEntry at owner
  split at owner
  · next kind =>
    unfold cancelCommit at owner
    repeat' split at owner
    · next c hc same =>
      obtain rfl := Option.some.inj owner
      rw [State.work_answer]
      have record : s.work.awaits e.tag .commit none := same ▸ h.commit c.tag (by simp [State.work, hc])
      exact h.answered (commit := none) (fun k x other => by rw [(h.single _ _ _ _ _ other record).1]; rfl)
        fun t ht => by simp at ht
    all_goals simp at owner
  · next kind =>
    unfold cancelEnroll at owner
    split at owner
    · next here =>
      obtain ⟨d, hd, same, other, target, good⟩ := queued (o := .enroll) kind here.2
      obtain rfl := Option.some.inj owner
      refine State.enterAbsent_owned ?_ (by rw [target]; exact good) ..
      rw [State.work_dequeue, ← same]
      exact h.dequeued hd other
    · simp at owner
  · next kind =>
    unfold cancelDrowse at owner
    split at owner
    · next here =>
      obtain ⟨d, hd, same, other, target, good⟩ := queued (o := .drowse) kind here
      obtain rfl := Option.some.inj owner
      rw [target, Option.getD_some, State.work_endOperation _ good, State.work_dequeue, ← same]
      exact h.operationWithdrawn hd other
    · simp at owner
  · unfold cancelWake at owner
    split at owner
    · next a here =>
      obtain rfl := Option.some.inj owner
      have here : e.target.getD 0 ∈ s.work.wakes := here
      have good := mem_addresses.mpr (goodStation_iff.mp ((h.station _).queued here).1)
      rw [State.work_endOperation _ good, State.work_moveStation _ good]
      exact h.wakeWithdrawn here
    · simp at owner
  · unfold cancelTrim at owner
    split at owner
    · next here =>
      obtain rfl := Option.some.inj owner
      exact State.endHostTrim_owned h (State.mem_of_state (s := s) (by simp [here.1])) ..
    · simp at owner
  · next kind =>
    unfold cancelCall at owner
    split at owner
    · next d found =>
      obtain rfl := Option.some.inj owner
      have same : d.tag = e.tag := by simpa using List.find?_some found
      have hd : d ∈ s.work.queue := List.mem_of_find?_eq_some found
      have call : d.owner = .call := OwnerKind.request_eq_call ((h.entry_of_awaits (.inl hd) same waits).1.trans kind)
      rw [State.failCall, if_pos call, State.work_answer, State.work_dequeue, ← same]
      exact h.callWithdrawn hd call
    · simp at owner
  all_goals simp at owner

end

end Sys2Proof.Machine
end

section

namespace Sys2Proof.Machine

/-! ## The requests (R151 to R160)

Every request that is served keeps the work owned. -/

section
variable {s t : State} {f : ReqFrame}

theorem State.accept_owned (h : s.work.Owned) (same : t.work = s.work) (k : ReqKind) (f : ReqFrame) (b : ReplyBody) :
    (t.accept k f b).work.Owned := by
  rw [State.accept, State.work_replyNow, same]
  exact h

theorem State.refuse_owned (h : s.work.Owned) (k : ReqKind) (f : ReqFrame) (st : Status) : (s.refuse k f st).work.Owned := by
  rwa [State.refuse, State.work_replyNow]

theorem State.work_joinWakes (s : State) (a : Nat) :
    ({ s with stations := { s.stations with wakeQueue := s.stations.wakeQueue ++ [a] } } : State).work =
      ({ s.work with wakes := s.work.wakes ++ [a] } : WorkView) := rfl

/-! ### ENROLL, DROWSE, WAKE, TRIM, CALL (R71, R78, R80, R105, R124) -/

section
variable (h : s.work.Owned) (unused : ∀ k x, ¬ s.work.awaits f.tag k x)
include h unused

theorem beginEnroll_owned {a : Nat} (ha : a ∈ addresses)
    (rest : (s.station a).state = .absent ∨ (s.station a).state = .faulted) : (beginEnroll a f s).work.Owned := by
  have joined := h.joins unused rest
  have record := (s.moveStation a .joining .enroll).work_onStation ha (f := Station.beginEnroll f.tag)
    (g := fun r => { r with operation := some (.enroll, f.tag) }) fun _ => rfl
  have begun : (beginEnroll a f s).work = (s.work.begun a .enroll f.tag .joining).enqueued
      { tag := f.tag, owner := .enroll, station := a, order := .join, attr := 0, value := 0 } := by
    rw [beginEnroll, State.work_enter _ rfl, State.work_enqueue, State.work_setAccount, record, s.work_moveStation ha,
      ← WorkView.begun_eq]
    rfl
  rw [begun]
  exact h.begunQueued unused joined ha rfl rfl rfl rfl (by simp)

theorem beginDrowse_owned {a : Nat} (active : (s.station a).state = .active) (free : (s.station a).restBusy = false) :
    (beginDrowse a f s).work.Owned := by
  have ha : a ∈ addresses := State.mem_of_state (s := s) (by simp [active])
  have state : (s.work.station a).state = .active := active
  have idle : (s.work.station a).operation = none := by
    cases pending : (s.work.station a).operation with
    | none => rfl
    | some o =>
      have here := ((h.station a).operation o.1 o.2 pending).2
      have pending' : (s.station a).operation = some o := pending
      rw [state] at here
      obtain ⟨o, tag⟩ := o
      cases o <;> simp [Operation.states, Station.restBusy, pending'] at here free
  have drowsing := h.drowses unused state idle
  have record := s.work_onStation ha (f := fun r => { r with operation := some (.drowse, f.tag) })
    (g := fun r => { r with operation := some (.drowse, f.tag) }) fun _ => rfl
  have begun : (beginDrowse a f s).work = (s.work.begun a .drowse f.tag .active).enqueued
      { tag := f.tag, owner := .drowse, station := a, order := .drowse, attr := 0, value := 0 } := by
    rw [beginDrowse, State.work_enter _ rfl, State.work_enqueue, record, ← state, ← WorkView.begun_self]
    rfl
  rw [begun]
  exact h.begunQueued unused drowsing ha rfl rfl rfl rfl (by simp)

theorem beginWake_owned {a : Nat} (drowsy : (s.station a).state = .drowsy) : (beginWake a f s).work.Owned := by
  have ha : a ∈ addresses := State.mem_of_state (s := s) (by simp [drowsy])
  have record := (s.moveStation a .waking .wake).work_onStation ha
    (f := fun r => { r with operation := some (.wake, f.tag) })
    (g := fun r => { r with operation := some (.wake, f.tag) }) fun _ => rfl
  rw [s.work_moveStation ha] at record
  have begun : (beginWake a f s).work =
      ({ s.work.begun a .wake f.tag .waking with wakes := s.work.wakes ++ [a] } : WorkView) := by
    rw [beginWake, State.work_enter _ rfl, State.work_joinWakes, record, ← WorkView.begun_eq]
    rfl
  rw [begun]
  exact h.wakes unused ha drowsy

theorem beginTrim_owned {a : Nat} (active : (s.station a).state = .active) (free : (s.station a).hostTrim = false) :
    ((s.onStation a (fun r => { r with hostTrim := true, refusals := 0 })).enter
      (outstanding .trim f (some a) .awaitingFrame)).work.Owned := by
  have ha : a ∈ addresses := State.mem_of_state (s := s) (by simp [active])
  rw [State.work_enter _ rfl, s.work_onStation ha (g := fun r => { r with hostTrim := true }) fun _ => rfl]
  exact h.flagged unused free active

theorem beginCall_owned (going : s.port.restarting = false) {order : Order}
    (inRange : callInRange (f.param 0) order (f.param 2) (f.param16 3) = true)
    (takes : (s.station (f.param 0)).state.takesCalls = true) : (beginCall f order s).work.Owned := by
  have good : goodStation (f.param 0) = true := by
    simp only [callInRange, Bool.and_eq_true] at inRange
    exact inRange.1.1
  rw [beginCall, State.work_enter _ rfl, State.work_enqueue]
  exact h.called going unused rfl good takes

/-! ### TRUNK START, TRUNK STOP and COMMIT (R8, R10, R32) -/

/-- A request without work enters the table. -/
theorem State.enter_owned {e : Outstanding} (tag : e.tag = f.tag) (unanswered : e.replied = false)
    (plain : e.kind.hasWork = false) (target : e.target = none) : (s.enter e).work.Owned := by
  rw [State.work_enter _ unanswered, target, tag]
  exact h.entered (commit := s.work.commit) unused plain fun _ => .inl

theorem beginCommit_owned (target : Nat) :
    ({ s with plans := { s.plans with commit := some { target := target, tag := f.tag } } }.enter
      (outstanding .commit f none .awaitingFrame)).work.Owned := by
  rw [State.work_enter _ rfl]
  exact h.entered (commit := some f.tag) unused (kind := .commit) rfl fun t ht => .inr ⟨(Option.some.inj ht).symm, rfl⟩

end

/-! ### RESTART (R159) -/

theorem giveUp_wakes (tag : Byte) (s : State) : (giveUp tag s).stations.wakeQueue = s.stations.wakeQueue := by
  have exchange : ∀ (t : State) j, (giveUpExchange tag t j).stations.wakeQueue = t.stations.wakeQueue := fun t j => by
    unfold giveUpExchange
    repeat' split
    all_goals simp
  have operation : ∀ (t : State) a, (giveUpOperation tag t a).stations.wakeQueue = t.stations.wakeQueue := fun t a => by
    unfold giveUpOperation
    repeat' split
    all_goals simp
  have exchanges : ∀ t : State, (pairNumbers.foldl (giveUpExchange tag) t).stations.wakeQueue = t.stations.wakeQueue :=
    foldl_same (p := fun t : State => t.stations.wakeQueue) exchange pairNumbers
  have operations : ∀ t : State, (addresses.foldl (giveUpOperation tag) t).stations.wakeQueue = t.stations.wakeQueue :=
    foldl_same (p := fun t : State => t.stations.wakeQueue) operation addresses
  have work : (s.workGivenUp tag).stations.wakeQueue = s.stations.wakeQueue := by
    rw [State.workGivenUp, operations, exchanges, State.dequeue_stations]
  obtain h | h := giveUp_cases s tag
  · rw [h, work]
  · rw [h]
    generalize s.workGivenUp tag = t at work ⊢
    exact work

theorem abortOne_wakes (s : State) (e : Outstanding) : (abortOne s e).stations.wakeQueue = s.stations.wakeQueue := by
  unfold abortOne
  split
  · rfl
  · rw [State.answer_stations, giveUp_wakes]

/-- Every tag that a request awaits is given up. -/
theorem State.awaits_waits {tag : Byte} {k : ReqKind} {x : Option Nat} (waits : s.work.awaits tag k x) :
    s.port.table.any (·.waits tag) = true := by
  obtain ⟨o, ho, rfl, -, -, unanswered⟩ := waits
  exact List.any_eq_true.mpr ⟨o, ho, by simp [Outstanding.waits, unanswered]⟩

/-- A full restart leaves the stations alone, with every request answered (R159). -/
theorem serveRestart_owned (h : s.work.Owned) (differ : s.port.tagsDiffer) (f : ReqFrame) :
    (serveRestart f s).work.Owned := by
  let closed : State := { s with port := { s.port with restarting := true } }
  have given : GivenUp (fun _ b => s.port.table.any (·.waits b)) closed (s.port.table.foldl abortOne closed) :=
    GivenUp.foldl abortOne_givenUp s.port.table closed
  have port : (s.port.table.foldl abortOne closed).port = _ :=
    (List.foldl_hom State.port (g₂ := HostPort.abort) (fun t e => (abortOne_port t e).symm) (l := s.port.table)
      (init := closed)).symm.trans (HostPort.abort_all s.port.table [] closed.port differ rfl)
  have wakes : (s.port.table.foldl abortOne closed).stations.wakeQueue = s.stations.wakeQueue :=
    foldl_same (p := fun t : State => t.stations.wakeQueue) abortOne_wakes s.port.table closed
  change ((s.port.table.foldl abortOne closed).accept .restart f .short).work.Owned
  rw [State.accept, State.work_replyNow]
  generalize s.port.table.foldl abortOne closed = t at *
  have owned : ∀ {e : Entry}, s.work.has e → s.port.table.any (·.waits e.tag) = true := fun he =>
    State.awaits_waits (h.owns he).awaits
  have pairs : ∀ j x, s.exchange j = some x → s.port.table.any (·.waits x.entry.tag) = true := fun j x hx =>
    owned (.inr ⟨j, Option.map_eq_some_iff.mpr ⟨x, hx, rfl⟩⟩)
  have operation : ∀ a, (t.station a).operation = none := fun a => by
    rw [given.station]
    exact Option.filter_eq_none_iff.mpr fun o ho => by
      simpa using State.awaits_waits ((h.station a).operation o.1 o.2 ho).1
  have freed : ∀ a j, (t.station a).exchange ≠ some (.command j) := fun a j field => by
    by_cases apart : ∀ i x, s.exchange i = some x → x.entry.station ≠ a
    · have before : (s.station a).exchange = some (.command j) :=
        (given.held a fun i x hx _ => apart i x hx).symm.trans field
      obtain ⟨e, hj, station⟩ := (h.station a).command j before
      obtain ⟨x, hx, rfl⟩ := Option.map_eq_some_iff.mp hj
      exact apart j x hx station
    · push Not at apart
      obtain ⟨i, x, hx, rfl⟩ := apart
      simp [given.freed i x hx (pairs i x hx)] at field
  have service : ∀ a k, (t.station a).exchange = some (.service k) ↔ (s.station a).exchange = some (.service k) :=
    fun a k => by
      by_cases apart : ∀ i x, s.exchange i = some x → x.entry.station ≠ a
      · rw [given.held a fun i x hx _ => apart i x hx]
        rfl
      · push Not at apart
        obtain ⟨i, x, hx, rfl⟩ := apart
        have before : (s.station x.entry.station).exchange = some (.command i) :=
          ((h.station _).caller i x.entry (Option.map_eq_some_iff.mpr ⟨x, hx, rfl⟩) rfl).1
        simp [given.freed i x hx (pairs i x hx), before]
  refine h.restarted ?_ (fun tag k x => ?_) ?_ (fun j => ?_) ?_ wakes ?_ (fun a => ?_) freed service
  · simp only [State.work, port]
    rfl
  · rintro ⟨o, ho, -, -, -, unanswered⟩
    rw [port] at ho
    obtain ⟨e, -, rfl⟩ := List.mem_map.mp ho
    simp at unanswered
  · refine given.queue.trans (List.filter_eq_nil_iff.mpr fun e he => ?_)
    simpa using owned (.inl he)
  · refine Option.map_eq_none_iff.mpr ((given.pairs j).trans (Option.filter_eq_none_iff.mpr fun x hx => ?_))
    simpa using pairs j x hx
  · exact congrArg TrimScheduler.held given.blocks.2.2.1
  · refine Option.map_eq_none_iff.mpr ?_
    rw [given.plans]
    exact Option.filter_eq_none_iff.mpr fun c hc => by
      have hc : s.plans.commit = some c := hc
      simpa using State.awaits_waits (h.commit c.tag (by simp [State.work, hc]))
  · have none := operation a
    have record := congrArg Station.work (given.station a)
    refine record.trans ?_
    rw [given.station] at none
    simp only [Station.work] at none ⊢
    rw [none]
    rfl

end

end Sys2Proof.Machine
end

section

namespace Sys2Proof.Machine

/-! ## Every step keeps the work owned (R153) -/

section
variable {s t : State} {f : ReqFrame}

theorem markClosing_work (id : Nat) (st : Stream) (s : State) : (markClosing id st s).work = s.work := by
  refine State.work_of_blocks (by simp) (by simp) (by simp) (by simp) ?_
  simp only [markClosing]
  split
  · simp [unstage]
  · rfl

/-- A request but RESTART. -/
theorem serve_owned (h : s.work.Owned) (going : s.port.restarting = false) {k : ReqKind} (other : k ≠ .restart)
    (fresh : k.isDeferred = true → f.tag ∉ s.port.table.map (·.tag)) : (k.serve f s).work.Owned := by
  have refused : ∀ st, (s.refuse k f st).work.Owned := State.refuse_owned h k f
  have accepted : ∀ {t : State} b, t.work = s.work → (t.accept k f b).work.Owned := fun b same =>
    State.accept_owned h same k f b
  have unused : k.isDeferred = true → ∀ l x, ¬ s.work.awaits f.tag l x := fun deferred =>
    State.unused_of_fresh (fresh deferred)
  cases k with
  | restart => exact absurd rfl other
  | hello | status | planInfo => exact accepted _ rfl
  | cancel =>
    simp only [ReqKind.serve, serveCancel]
    repeat' split
    all_goals rw [State.work_replyNow]
    · exact h
    · exact h
    · next e found open_ _ t owner =>
      simp only [Bool.or_eq_true, not_or, Bool.not_eq_true] at open_
      exact cancelEntry_owned h (List.mem_of_find?_eq_some found) open_.1 owner
    · exact h
  | grant =>
    simp only [ReqKind.serve, serveGrant]
    split
    · exact accepted _ rfl
    · exact refused _
  | trunkSetup =>
    simp only [ReqKind.serve, serveTrunkSetup]
    repeat' split
    iterate 3 exact refused _
    exact accepted _ rfl
  | trunkStart =>
    simp only [ReqKind.serve, serveTrunkStart]
    split
    · exact State.enter_owned (s := { s with engine := _ }) h (unused rfl) rfl rfl rfl rfl
    · exact refused _
  | trunkStop =>
    simp only [ReqKind.serve, serveTrunkStop]
    split
    · split
      · obtain ⟨-, -, tags, -⟩ := (frameStart_answering s).kept
        have unused : ∀ l x, ¬ (frameStart s).work.awaits f.tag l x :=
          State.unused_of_fresh (by rw [tags]; exact fresh rfl)
        have started := frameStart_owned h
        generalize frameStart s = t at *
        exact State.enter_owned (s := beginStop t) started unused rfl rfl rfl rfl
      · exact State.enter_owned (s := beginStop s) h (unused rfl) rfl rfl rfl rfl
    · exact refused _
  | enroll =>
    simp only [ReqKind.serve, serveEnroll]
    repeat' split
    · exact refused _
    · next good rest =>
      exact beginEnroll_owned h (unused rfl) (mem_addresses.mpr (goodStation_iff.mp (by simpa using good))) rest
    · exact refused _
  | drop =>
    simp only [ReqKind.serve, serveDrop]
    repeat' split
    iterate 2 exact refused _
    next present => exact State.accept_owned (State.enterAbsent_owned h (State.mem_of_state present) ..) rfl ..
  | drowse =>
    simp only [ReqKind.serve, serveDrowse]
    repeat' split
    iterate 3 exact refused _
    next active free =>
      exact beginDrowse_owned h (unused rfl) (not_not.mp active) (Bool.eq_false_iff.mpr free)
  | wake =>
    simp only [ReqKind.serve, serveWake]
    repeat' split
    iterate 2 exact refused _
    next drowsy => exact beginWake_owned h (unused rfl) (not_not.mp drowsy)
  | trim =>
    simp only [ReqKind.serve, serveTrim]
    repeat' split
    iterate 4 exact refused _
    next active free _ => exact beginTrim_owned h (unused rfl) (not_not.mp active) (Bool.eq_false_iff.mpr free)
  | policy =>
    simp only [ReqKind.serve, servePolicy]
    repeat' split
    iterate 2 exact refused _
    refine accepted _ (s.work_onStation_same _ ?_)
    exact fun _ => rfl
  | call =>
    simp only [ReqKind.serve, serveCall]
    repeat' split
    iterate 5 exact refused _
    next inRange takes _ _ => exact beginCall_owned h (unused rfl) going (by simpa using inRange) (by simpa using takes)
  | clearFault =>
    simp only [ReqKind.serve, serveClearFault]
    split
    · exact refused _
    · exact accepted _ rfl
  | stationInfo =>
    simp only [ReqKind.serve, serveStationInfo]
    split
    · exact refused _
    · exact accepted _ rfl
  | openStream =>
    simp only [ReqKind.serve, serveOpenStream]
    repeat' split
    iterate 5 exact refused _
    all_goals exact accepted _ rfl
  | closeStream =>
    simp only [ReqKind.serve, serveCloseStream]
    repeat' split
    iterate 3 exact refused _
    · exact accepted _ rfl
    · exact accepted _ (markClosing_work ..)
  | commit =>
    simp only [ReqKind.serve, serveCommit]
    repeat' split
    iterate 3 exact refused _
    exact beginCommit_owned h (unused rfl) _
  | discard =>
    simp only [ReqKind.serve, serveDiscard]
    split
    · exact refused _
    · have folded : (streamIds.foldl discardStream s).work = s.work :=
        foldl_same (p := State.work)
          (fun t id => State.work_of_blocks (by simp) (by simp) (by simp) (by simp) (by simp)) _ _
      generalize streamIds.foldl discardStream s = t at folded ⊢
      exact accepted _ folded
  | write =>
    simp only [ReqKind.serve, serveWrite]
    repeat' split
    iterate 2 exact refused _
    exact accepted _ rfl
  | streamInfo =>
    simp only [ReqKind.serve, serveStreamInfo]
    split
    · exact refused _
    · split
      · exact accepted _ rfl
      · exact accepted _ rfl

/-- A port whose unanswered requests stay the same. -/
theorem State.port_owned (h : s.work.Owned) {q : HostPort} (awaits : ∀ t k x, q.awaits t k x ↔ s.port.awaits t k x)
    (restarting : q.restarting = s.port.restarting) : ({ s with port := q } : State).work.Owned := by
  have same : ({ s with port := q } : State).work = s.work :=
    State.work_eq (fun _ => rfl) rfl rfl (fun _ => rfl) rfl awaits restarting rfl
  rwa [same]

theorem HostPort.awaits_of_table {p q : HostPort} (table : q.table = p.table) (t : Byte) (k : ReqKind) (x : Option Nat) :
    q.awaits t k x ↔ p.awaits t k x := by
  rw [HostPort.awaits, table, HostPort.awaits]

/-- The reply that has been sent takes an answered request out of the table (R153, R154). -/
theorem HostPort.replySent_awaits {p : HostPort} (hp : p.Bounded) (t : Byte) (k : ReqKind) (x : Option Nat) :
    p.replySent.awaits t k x ↔ p.awaits t k x := by
  unfold HostPort.replySent
  split
  · exact Iff.rfl
  · next r rest queue =>
    cases deferred : r.deferred with
    | false => exact Iff.rfl
    | true =>
      have sent : r.tag ∈ p.deferredTags := by simp [HostPort.deferredTags, queue, deferred]
      constructor
      · rintro ⟨o, ho, fields⟩
        exact ⟨o, (List.mem_filter.mp ho).1, fields⟩
      · rintro ⟨o, ho, tag, kind, target, unanswered⟩
        refine ⟨o, List.mem_filter.mpr ⟨ho, ?_⟩, tag, kind, target, unanswered⟩
        have other : o.tag ≠ r.tag := fun same => by
          simp [(hp.marked o ho).mpr (same ▸ sent)] at unanswered
        simpa using other

/-- The receiver leaves the table and the pins alone (R145 to R149). -/
theorem HostPort.scanned_table (p : HostPort) (r : Scan) (gap : Bool) : (p.scanned r gap).table = p.table ∧
    (p.scanned r gap).restarting = p.restarting ∧ (p.scanned r gap).rstnLow = p.rstnLow := by
  have placed : ∀ (q : HostPort) f, (q.place f).table = q.table ∧ (q.place f).restarting = q.restarting := fun q f => by
    unfold HostPort.place
    split <;> exact ⟨rfl, rfl⟩
  have table := foldl_same (p := HostPort.table) (fun q f => (placed q f).1) r.frames
  have restarting := foldl_same (p := HostPort.restarting) (fun q f => (placed q f).2) r.frames
  have counted : ∀ (l : List Nat) (q : HostPort), (l.foldl (fun p _ => p.countDiscard) q).table = q.table ∧
      (l.foldl (fun p _ => p.countDiscard) q).restarting = q.restarting := fun l q =>
    ⟨foldl_same (p := HostPort.table) (f := fun p _ => p.countDiscard) (fun _ _ => rfl) l q,
      foldl_same (p := HostPort.restarting) (f := fun p _ => p.countDiscard) (fun _ _ => rfl) l q⟩
  exact ⟨(counted ..).1.trans (table _), (counted ..).2.trans (restarting _), HostPort.settle_rstnLow ..⟩

theorem PortCourse.work_owned {q : HostPort} (course : PortCourse s.port q) (hp : s.port.Bounded) (h : s.work.Owned) :
    ({ s with port := q } : State).work.Owned := by
  cases course with
  | none => exact h
  | scanned r gap =>
    obtain ⟨table, restarting, -⟩ := s.port.scanned_table r gap
    exact State.port_owned h (HostPort.awaits_of_table table) restarting
  | refused open_ kind tag st b => exact State.port_owned h (HostPort.awaits_of_table rfl) rfl
  | started m => exact State.port_owned h (HostPort.awaits_of_table rfl) rfl
  | idled => exact State.port_owned h (HostPort.awaits_of_table rfl) rfl
  | sent =>
    refine State.port_owned h (fun t k x => (HostPort.awaits_of_table rfl t k x).trans (HostPort.replySent_awaits hp t k x)) ?_
    simp only [HostPort.replySent]
    split <;> rfl

theorem startNotice_owned (h : s.work.Owned) (n : Notice) (rest : List Notice) : (startNotice n rest s).work.Owned := by
  have same : (startNotice n rest s).work = s.work := by
    refine State.work_eq (fun a => ?_) ?_ ?_ (fun j => ?_) ?_ (HostPort.awaits_of_table ?_) ?_ ?_
    all_goals unfold startNotice
    all_goals split
    all_goals simp [State.station, State.exchange]
  rwa [same]

/-- Whatever a command comes down to keeps the work owned, outside a reset and the cut of the port. -/
theorem Course.work_owned (course : Course s t) (hp : s.port.Bounded) (h : s.work.Owned) : WorkOwned t := by
  cases course with
  | port course => exact workOwned_of_work (course.work_owned hp h)
  | served k f taken =>
    have popped : s.popIntake.work.Owned := h
    refine workOwned_of_work ?_
    by_cases restart : k = .restart
    · subst restart
      exact serveRestart_owned popped hp.differ f
    · exact serve_owned popped taken.not_restarting restart fun deferred => (taken.free deferred).1
  | noticed n rest => exact workOwned_of_work (startNotice_owned h n rest)
  | reset reason baud => exact atPowerOn_workOwned reason baud _
  | cutOff => exact fun released => by simp [HostPort.cutOff] at released
  | slot n line => exact workOwned_of_work (slotEvent_owned (passSlots_owned h n) n line)
  | frameStart => exact workOwned_of_work (frameStart_owned h)
  | frameEnd => exact workOwned_of_work (frameEnd_owned h)

/-- While RSTN is low nothing but a reset releases it, and a reset leaves no work (R5, R162). -/
theorem Course.work_owned_low (course : Course s t) (low : s.port.rstnLow = true) : WorkOwned t := by
  have kept : t.port.rstnLow = s.port.rstnLow → WorkOwned t := fun same released => by
    simp [same, low] at released
  cases course with
  | port course =>
    refine kept ?_
    cases course with
    | scanned r gap => exact (HostPort.scanned_table ..).2.2
    | sent =>
      simp only [HostPort.replySent]
      split <;> rfl
    | none | refused | started | idled => rfl
  | served k f taken => simp [taken.1.1] at low
  | noticed n rest => exact kept (by rw [startNotice_port])
  | reset reason baud => exact atPowerOn_workOwned reason baud _
  | cutOff => exact fun released => by simp [HostPort.cutOff] at released
  | slot n line => exact kept ((passSlots_answering s n).trans (slotEvent_answering ..)).kept.1
  | frameStart => exact kept (frameStart_answering s).kept.1
  | frameEnd => exact kept (frameEnd_answering s).kept.1

/-- The work stays owned through every step (R64, R80, R105, R111, R113). -/
theorem step_workOwned (bounded : PortBounded s) (agree : ExchangesAgree s) (owned : WorkOwned s) (h : step s = .next t) :
    WorkOwned t := by
  have kept : ∀ {u : State}, PortBounded u → ExchangesAgree u → WorkOwned u → Course u t → WorkOwned t :=
    fun {u} bounded agree owned course => by
      cases low : u.port.rstnLow with
      | true => exact course.work_owned_low low
      | false => exact course.work_owned (portBounded_iff.mp bounded) (work_owned low bounded agree owned)
  cases hp : s.pending with
  | nil =>
    rw [step_nil hp] at h
    exact Host.Outcome.next.inj h ▸ owned
  | cons c rest =>
    rw [step_cons hp] at h
    exact kept (u := { s with pending := rest }) bounded agree owned (exec_course h)

end

/-- Settles O55: the bounds of the port are kept through every course a command can take; so is the ownership of the work,
shown over the part of the state that holds it, station by station. -/
theorem outstandingTableStaysTrue : Obligations.OutstandingTableStaysTrue :=
  ⟨fun _ _ => step_portBounded, fun _ _ => step_workOwned⟩

end Sys2Proof.Machine
end
